-- ==== Sys2Proof/Word.lean ====
section
/-! DEFINITION. The word of the register space (R6) and the byte of the device address space (R25). -/

namespace Sys2Proof

/-- A register is 32 bits wide (R6). -/
abbrev Word := BitVec 32

/-- Memory is addressed in bytes (R25). -/
abbrev Byte := BitVec 8

end Sys2Proof
end

