-- ==== Sys2Proof/Syntax.lean ====
section
/-! DEFINITION. The commands: what the outside world, and the device's own engines and timers, do to the machine, one
constructor for each row of the manual's table of operations and events. -/

namespace Sys2Proof

/-- The two access paths of a listener (R13, R14): the Riath port, and the BAR0 mirror. -/
inductive Path where
  | riath | bar0
  deriving DecidableEq, Repr

/-- The four root tables (R28). -/
inductive Root where
  | sdt | qdt | sot | tdt
  deriving DecidableEq, Repr

/-- What a write can enable (R305): a CSI-2 receiver, an Ethernet MAC, a CAN FD controller, a transmit ring. -/
inductive Source where
  | csi (r : Fin 8)
  | eth (m : Fin 2)
  | can (c : Fin 2)
  | tx (t : Fin 4)
  deriving DecidableEq, Repr

/-- An SRAM array of R199 by its physical place, in the coding of R226: level 1 weight SRAM, 2 activation buffer,
3 core memory, 4 hub memory; the place fields are 0 for hub memory. -/
structure SramArray where
  level : Nat
  die : Nat
  cluster : Nat
  pcore : Nat
  peng : Nat
  deriving DecidableEq, Repr

/-- What is wrong with a stored word when it is read (R211): one bit of it is inverted, two are, or the read reached another
word than the one addressed. -/
inductive Flaw where
  | one | two | stray
  deriving DecidableEq, Repr

/-- A level of a timestamp input as sampled (R320): its value, and the cycles for which it has been sampled. -/
structure TsiLevel where
  level : Bool
  held : Nat
  deriving DecidableEq, Repr

/-- What a configuration write says of power management (R427, R517): the function is in D3hot; ASPM L1 is enabled. -/
structure PciePm where
  d3 : Bool
  aspm : Bool
  deriving DecidableEq, Repr

/-- A credit error (R247) as SYN_UF_STATUS reports it (R265): overflow or underflow, the resource and its place. -/
structure CreditError where
  ovf : Bool
  res : Nat
  die : Nat
  cluster : Nat
  pcore : Nat
  peng : Nat
  port : Nat
  hdie : Bool
  deriving DecidableEq, Repr


/-- The commands of the device: one per row of the table of operations and events. -/
inductive Instr where
  /-- REGISTER_WRITE (R9): A write to a register that has no row of its own acts on it under its access code. `be`: the byte enables of a BAR0 write. -/
  | registerWrite (path : Path) (addr : BitVec 16) (be : BitVec 4) (val : Word)
  /-- WIDE_VALUE_LOW_READ (R14): A read of the lowest word of a wide value latches the higher words into the access path's shadow. -/
  | wideValueLowRead (path : Path) (addr : BitVec 16)
  /-- WIDE_VALUE_HIGH_WRITE (R14): A write of the highest word of a wide value commits it, together with the staged lower words, in one token. -/
  | wideValueHighWrite (path : Path) (addr : BitVec 16) (val : Word)
  /-- COMMIT_SDT (R29): commit_sdt snapshots the SDT pointer registers, checks them and starts the SDT load. -/
  | commitSdt
  /-- COMMIT_QDT (R29): commit_qdt snapshots the QDT pointer registers, checks them and starts the QDT load. -/
  | commitQdt
  /-- COMMIT_SOT (R29): commit_sot snapshots CTL_SOT_BASE, checks it and starts the SOT load. -/
  | commitSot
  /-- COMMIT_TDT (R29): commit_tdt snapshots the TDT base and count and checks them. -/
  | commitTdt
  /-- TABLE_LOAD_COMPLETE (R33): An accepted table load completes and sets the table's valid bit. `flips`: 64-bit words of hub memory that are flawed, by a fault of the array's own, when the load reads them. -/
  | tableLoadComplete (t : Root) (flips : List (Nat × Flaw))
  /-- POWER_ON_RESET (R12): A power-on reset of the main dies returns their registers and counters to reset values. -/
  | powerOnReset
  /-- WARM_RESET (R518): PERST# asserted in RUN or HOLD warm-resets the H-die and both C-dies. -/
  | warmReset
  /-- SUPERVISOR_RESET (R48): VDD_C falling below 0.67 V makes the supervisor assert power-on reset to the C-dies and the H-die. -/
  | supervisorReset
  /-- PERST_RELEASE (R543): PERST# going high releases the held main-die reset during an exit. -/
  | perstRelease
  /-- H_DIE_RESET_RELEASE (R52): Release of H-die reset starts the internal oscillator and the alignment of every crossing. -/
  | hDieResetRelease
  /-- ALIGN_MARKER_RETURN (R52): A crossing's alignment marker returns and both sides set their pointers and credit to start values. `side`: which of the two crossings of a die-link domain. -/
  | alignMarkerReturn (dom : Fin 25) (side : Bool)
  /-- ALIGN_MARKER_TIMEOUT (R54): A marker not returned within 1,024 cycles sets the domain's CLK_ALIGN_FAIL bit and holds its block in reset. -/
  | alignMarkerTimeout (dom : Fin 25) (side : Bool)
  /-- ALIGNMENT_COMPLETE (R52): Alignment of every crossing ends and CLK_ALIGN_STATUS.done sets. -/
  | alignmentComplete
  /-- RATE_MEASURE (R57): Every 1 µs the device measures the replica rings and updates PWR_AVS_RATE. `rates`: what the 16 replica rings measured, in Mtok/s, by logical cluster. -/
  | rateMeasure (rates : List Nat)
  /-- AVS_UPDATE (R59): Every 20 µs the voltage loop computes a new VDD_C target. `hottest`: what the hottest on-die temperature sensor reads, in °C. -/
  | avsUpdate (hottest : Int)
  /-- AVSBUS_TRANSACTION_DONE (R66): An AVSBus transaction ends, and failures are retried or reported with reg_err. `ok`: the CRC held and the regulator reported no fault. -/
  | avsbusTransactionDone (ok : Bool)
  /-- MONITOR_ENABLE (R74): Setting a deadline monitor's en discards its open instances and W. `val`: the word written to PWR_AVS_MON_CNTm, with en = 1. -/
  | monitorEnable (m : Fin 8) (val : Word)
  /-- WEIGHT_LOAD (R115): A weight load into an engine half starts once that half is no longer in use. `half`: the half of the weight SRAM that the load fills first. -/
  | weightLoad (e : Fin 1024) (half : Bool)
  /-- ENGINE_ROW_START (R126): An engine starts a row once its scale entry and first code are present, after checking the entry. -/
  | engineRowStart (e : Fin 1024)
  /-- TABLE_BUILD (R118): The builder forms a product table for an activation code once the code is present. -/
  | tableBuild (e : Fin 1024)
  /-- ENGINE_ROW_END (R127): An engine moves a finished row to the drain latch once the latch accepts it. -/
  | engineRowEnd (e : Fin 1024)
  /-- DRAIN_CONVERT (R128): The drain latch converts a row's accumulators into the output format. -/
  | drainConvert (e : Fin 1024)
  /-- REDUCTION_COMBINE (R131): The reduction unit adds a present RAW40 partial in ascending relative engine order. -/
  | reductionCombine (core : Fin 64)
  /-- ROW_ENCODE (R98): The row-range unit encodes a row into codes and a scale entry. -/
  | rowEncode (core : Fin 64)
  /-- QNT_SNAP (R145): snap copies a stream's quantities, flags and f_exp to the snapshot registers. -/
  | qntSnap (n : Fin 32)
  /-- QNT_CLEAR (R145): clear zeroes a stream's quantities and saturation flags. -/
  | qntClear (n : Fin 32)
  /-- QNT_EXP_CHANGE (R141): A QNT_CFGn write that changes f_exp clears the stream, including additions in its token. -/
  | qntExpChange (n : Fin 32) (val : Word)
  /-- ENG_CLR_SAT (R152): clr_sat sets ENG_SAT_CNT to 0. -/
  | engClrSat
  /-- ENG_CLR_BUSY (R152): clr_busy sets the engine busy count to 0. -/
  | engClrBusy
  /-- Q_START (R156): Start binds a queue's contexts and starts the lead at the start entry. -/
  | qStart (q : BitVec 8)
  /-- Q_HALT (R156): Halt stops admission at the next operator boundary and sets halt_pend. -/
  | qHalt (q : BitVec 8)
  /-- Q_RESUME (R156): Resume lets a halted lead re-evaluate its wait or entry. -/
  | qResume (q : BitVec 8)
  /-- Q_RELEASE (R156): Release runs the end-of-task check and returns every context of the queue to IDLE. -/
  | qRelease (q : BitVec 8)
  /-- Q_CMD_RESERVED (R157): A reserved queue command code is refused with cause 0x8. -/
  | qCmdReserved (q : BitVec 8) (cmd : BitVec 3)
  /-- ISSUE_GRANT (R165): At an operator boundary the scheduler grants issue to the highest-priority READY context. -/
  | issueGrant (core : Fin 64)
  /-- ENTRY_FETCH (R167): A lead's fetch of a submitted queue entry completes. -/
  | entryFetch (k : Fin 256)
  /-- WAIT_ENTRY (R166): A wait entry compares a counter with its expected value and continues or deschedules the lead. -/
  | waitEntry (k : Fin 256)
  /-- SIGNAL_ENTRY (R164): A signal entry's add is applied once every earlier operator of the queue has retired. -/
  | signalEntry (k : Fin 256)
  /-- HUDDLE_ARRIVAL_ENTRY (R249): An arrival entry sends a tagged arrival to the cluster node and optionally waits for the round. -/
  | huddleArrivalEntry (k : Fin 256)
  /-- RESERVED_ENTRY_KIND (R283): An entry of reserved kind faults the queue with contract error 0x02. -/
  | reservedEntryKind (k : Fin 256)
  /-- OP_UNIMPLEMENTED (R273): An operator entry naming an unimplemented code ends with contract error 0x03. -/
  | opUnimplemented (k : Fin 256)
  /-- LINEAR (R287): A LINEAR operator is admitted and partitioned over the engines of its group. -/
  | linear (k : Fin 256)
  /-- CONV2D (R286): A CONV2D operator is admitted and forms rows from kernel patches. -/
  | conv2d (k : Fin 256)
  /-- ENCODE_ROW (R561): An ENCODE_ROW operator encodes rows on the row-range units of its cores. -/
  | encodeRow (k : Fin 256)
  /-- ENCODE_WEIGHT (R88): An ENCODE_WEIGHT operator encodes weights onto a codebook. -/
  | encodeWeight (k : Fin 256)
  /-- ADD (R175): Vector elementwise add with one rounding. -/
  | add (k : Fin 256)
  /-- SUB (R175): Vector elementwise subtract with one rounding. -/
  | sub (k : Fin 256)
  /-- MUL (R175): Vector elementwise multiply with one rounding. -/
  | mul (k : Fin 256)
  /-- FMA (R175): Vector fused multiply-add with one rounding. -/
  | fma (k : Fin 256)
  /-- MIN (R175): Vector elementwise minimum. -/
  | min (k : Fin 256)
  /-- MAX (R175): Vector elementwise maximum. -/
  | max (k : Fin 256)
  /-- ABS (R175): Vector elementwise absolute value. -/
  | abs (k : Fin 256)
  /-- NEG (R175): Vector elementwise negation. -/
  | neg (k : Fin 256)
  /-- CMP (R175): Vector elementwise compare by predicate. -/
  | cmp (k : Fin 256)
  /-- SELECT (R175): Vector elementwise select. -/
  | select (k : Fin 256)
  /-- RELU (R175): Vector elementwise ReLU. -/
  | relu (k : Fin 256)
  /-- CLAMP (R175): Vector elementwise clamp to FP32 bounds. -/
  | clamp (k : Fin 256)
  /-- CONVERT (R175): Vector format conversion with one rounding. -/
  | convert (k : Fin 256)
  /-- EXP (R175): Vector exponential, correctly rounded. -/
  | exp (k : Fin 256)
  /-- RECIP (R175): Vector reciprocal, correctly rounded. -/
  | recip (k : Fin 256)
  /-- SQRT (R175): Vector square root, correctly rounded. -/
  | sqrt (k : Fin 256)
  /-- RSQRT (R175): Vector reciprocal square root, correctly rounded. -/
  | rsqrt (k : Fin 256)
  /-- SIGMOID (R175): Vector sigmoid, correctly rounded. -/
  | sigmoid (k : Fin 256)
  /-- TANH (R175): Vector tanh, correctly rounded. -/
  | tanh (k : Fin 256)
  /-- GELU (R175): Vector GELU in erf form, correctly rounded. -/
  | gelu (k : Fin 256)
  /-- SILU (R175): Vector SiLU, correctly rounded. -/
  | silu (k : Fin 256)
  /-- RESCALE (R135): Vector explicit rescale by channel scales. -/
  | rescale (k : Fin 256)
  /-- ROW_MAX (R175): Row maximum reduction. -/
  | rowMax (k : Fin 256)
  /-- ROW_MIN (R175): Row minimum reduction. -/
  | rowMin (k : Fin 256)
  /-- ROW_SUM (R176): Row sum in the fixed lane-and-tree order. -/
  | rowSum (k : Fin 256)
  /-- ROW_SUMSQ (R176): Row sum of squares in the fixed lane-and-tree order. -/
  | rowSumsq (k : Fin 256)
  /-- SOFTMAX (R177): Row softmax by the fixed rounding sequence. -/
  | softmax (k : Fin 256)
  /-- LAYERNORM (R177): Row layer normalisation by the fixed rounding sequence. -/
  | layernorm (k : Fin 256)
  /-- RMSNORM (R177): Row RMS normalisation by the fixed rounding sequence. -/
  | rmsnorm (k : Fin 256)
  /-- REDUCE (R131): A REDUCE operator combines RAW40 partials on the reduction unit. -/
  | reduce (k : Fin 256)
  /-- COPY (R563): A COPY operator moves bytes unchanged through the load and store ports. -/
  | copy (k : Fin 256)
  /-- POOL_MAX (R175): Vector max-pooling over a window. -/
  | poolMax (k : Fin 256)
  /-- FORWARDED_OPERATOR (R154): An operator forwarded by the lead arrives at a follower and awaits admission. -/
  | forwardedOperator (k : Fin 256)
  /-- OPERATOR_RETIRE (R163): An operator's part retires once all its units have finished and its writes are acknowledged. `idx`: the scoreboard entry. -/
  | operatorRetire (core : Fin 64) (idx : Fin 64)
  /-- RETIREMENT_REPORT (R162): A follower's retirement reaches the lead, which may unblock dependent entries. -/
  | retirementReport (core : Fin 64) (q : BitVec 8) (entry : Nat)
  /-- WATCHDOG_SCAN (R183): Every 20 µs the safety monitor scans scoreboard entries for ones stuck longer than limit_us. -/
  | watchdogScan
  /-- SB_CAPTURE (R192): A SCH_SB_SEL write captures the selected scoreboard entry. -/
  | sbCapture (val : Word)
  /-- SCH_CLR_HW (R191): clr_hw sets every SCH_OCCn.high to its used value. -/
  | schClrHw
  /-- CTX_CFG_WRITE (R193): A SCH_CTX_CFGk write is accepted only while context k is IDLE. -/
  | ctxCfgWrite (path : Path) (k : Fin 256) (val : Word)
  /-- LPDDR_TRAIN (R205): train starts LPDDR5X training or is refused. -/
  | lpddrTrain
  /-- LPDDR_TRAIN_DONE (R205): Training ends and sets ready or the failing channels' ch_fail bits. `fail`: bit c set when channel c failed. -/
  | lpddrTrainDone (fail : BitVec 4)
  /-- MEM_CLR_ECC (R229): clr_ecc sets the ECC counters to 0. -/
  | memClrEcc
  /-- MEM_CLR_SPILL (R229): clr_spill sets the weight-load counters to 0. -/
  | memClrSpill
  /-- DRAM_TEMP_REPORT (R203): A DRAM temperature report changes the refresh rate and may set hot. `mult`: the refresh rate it requires (×1, ×2, ×4); `hot`: above the operating range. -/
  | dramTempReport (mult : Fin 3) (hot : Bool)
  /-- SCRUB_PASS_START (R215): A scrub pass is started every period_ms, setting lag if the previous one has not ended. -/
  | scrubPassStart
  /-- SCRUB_READ (R215): A scrub read is issued to an idle bank. `arr`, `granule`: the array and the 64 bytes read, which are those where the scrub stands; `flips`: words of them (word 0 to 7) that are flawed by a fault of the array's own. -/
  | scrubRead (arr : SramArray) (granule : Nat) (flips : List (Nat × Flaw))
  /-- ECC_WRITEBACK (R212): A corrected word is written back in the next idle token of its bank, unless a functional write came first. -/
  | eccWriteback
  /-- FLIT_RECEIVE (R216): A die-link flit arrives and is checked, corrected, accepted or discarded with a replay request. `credit`: a credit error that the flit's credit return or send shows. -/
  | flitReceive (link : Fin 4) (dirB : Bool) (seq : Nat) (crcOk : Bool) (corrected : Nat) (ue : Bool) (credit : Option CreditError)
  /-- REPLAY_REQUEST (R216): A replay request reaches the sender, which replays from its buffer. `seq`: the number from which the receiver asked; `flits`: the flits replayed, all that the buffer holds from there; `forced`: TST_LNK has forced it. -/
  | replayRequest (link : Fin 4) (dirB : Bool) (seq flits : Nat) (forced : Bool)
  /-- PAIR_TRAIN (R220): pair_train clears failed and starts pair-link training with a 1.0 ms window. -/
  | pairTrain (path : Path)
  /-- PAIR_TRAIN_DONE (R220): Pair-link training succeeds and the link comes up. -/
  | pairTrainDone
  /-- PAIR_TRAIN_TIMEOUT (R220): The training window ends without the peer, or a lane does not train, and failed sets. -/
  | pairTrainTimeout
  /-- PAIR_STOP (R231): pair_stop takes the pair link down. -/
  | pairStop
  /-- LNK_CLR (R231): clr sets every link's retry, correction and stall counters to 0. -/
  | lnkClr
  /-- COUNTER_ADD (R239): An add reaches its counter, raises its value, fires met waiters and requests a shadow write. -/
  | counterAdd (ctr : BitVec 16) (k : BitVec 32) (src : BitVec 16)
  /-- WAIT_REGISTER (R239): A wait reaches its counter and is met or registers a waiter record. -/
  | waitRegister (k : Fin 256)
  /-- SHADOW_WRITE (R253): A requested shadow write of a counter's value is issued to host memory. -/
  | shadowWrite (n : Fin 4096)
  /-- HOST_ADD (R253): A write to SYN_ADDn adds the amount to package counter n. -/
  | hostAdd (path : Path) (n : Fin 4096) (amount : Word)
  /-- COUNTER_SET (R245): A write to SYN_CTR_SET_HI sets the selected counter, or is refused. `val`: the word written to SYN_CTR_SET_HI. -/
  | counterSet (path : Path) (val : Word)
  /-- END_VALUE_COMMIT (R258): A write to SYN_CTR_END_HI commits a new end value to the selected counter. -/
  | endValueCommit (path : Path) (val : Word)
  /-- COUNTER_CAPTURE (R257): A SYN_CTR_SEL write captures a counter and its waiter records. -/
  | counterCapture (path : Path) (val : Word)
  /-- DUMP_START (R259): start begins a counter dump, freezing operations if freeze = 1. -/
  | dumpStart (freeze : Bool)
  /-- DUMP_DONE (R259): A dump ends, or stops on a fault, and releases any hold. -/
  | dumpDone
  /-- HOST_HUDDLE_ARRIVE (R251): A write to SYN_HUD_ARRIVE sends the host's arrival to a huddle root. -/
  | hostHuddleArrive (path : Path) (root : Fin 64)
  /-- HUDDLE_NODE_ARRIVE (R249): A huddle node processes an arrival and forwards each completed round. `idx`: which arrival under way reaches its node. -/
  | huddleNodeArrive (idx : Nat)
  /-- HOST_END_CHECK (R256): end_check runs the end-of-task check for host-owned counters. -/
  | hostEndCheck
  /-- SYN_CLR (R268): clr sets SYN_ERR_CNT and the end-check count to 0. -/
  | synClr
  /-- STREAM_START (R304): Start checks a stream's entry and puts it in RUNNING. -/
  | streamStart (n : Fin 64)
  /-- STREAM_STOP (R304): Stop puts a stream in STOPPED, or STOPPING with a frame in progress. -/
  | streamStop (n : Fin 64)
  /-- STREAM_ABORT (R304): Abort discards the frame in progress and stops the stream. -/
  | streamAbort (n : Fin 64)
  /-- STREAM_RELOAD (R304): Reload rereads and checks a stopped stream's SDT entry. -/
  | streamReload (n : Fin 64)
  /-- STREAM_CLEAR (R304): Clear returns a faulted stream to STOPPED. -/
  | streamClear (n : Fin 64)
  /-- STREAM_CMD_RESERVED (R304): A reserved stream command code is refused with cause 0x9. -/
  | streamCmdReserved (n : Fin 64) (cmd : BitVec 3)
  /-- ING_CLR (R326): clr sets every ingest counter to 0. -/
  | ingClr
  /-- ING_CLR_HW (R326): clr_hw sets the buffer high value to the present value. -/
  | ingClrHw
  /-- SOURCE_ENABLE (R305): A write enabling a receiver, MAC, CAN controller or transmit ring acts, or is refused while its domain is on the oscillator. `val`: the word written to the source's register. -/
  | sourceEnable (path : Path) (src : Source) (val : Word)
  /-- SOURCE_DISABLE (R306): Disabling a source breaks its streams' frames in progress. `val`: the word written to the source's register. -/
  | sourceDisable (path : Path) (src : Source) (val : Word)
  /-- FRAME_START (R307): A CSI-2 Frame Start is admitted or the frame is dropped. `fixed`: the header needed a correction; `backlog`: KiB in use of the hub ingest buffer. -/
  | frameStart (r : Fin 8) (vc : BitVec 4) (fnum : BitVec 16) (fixed : Bool) (backlog : Fin 2049)
  /-- LONG_PACKET (R299): A CSI-2 long packet of the stream is written as a line. `hdr`: 0 good, 1 corrected, 2 uncorrectable header; `lost`: the line FIFO overflows on a full hub ingest buffer; `ue`: the line is read from that buffer with an uncorrectable error. -/
  | longPacket (r : Fin 8) (vc : BitVec 4) (dt : BitVec 6) (data : List Byte) (hdr : Fin 3) (crcBad : Bool) (backlog : Fin 2049) (lost ue : Bool)
  /-- FRAME_END (R299): A CSI-2 Frame End closes the frame for delivery or drop. -/
  | frameEnd (r : Fin 8) (vc : BitVec 4) (fixed : Bool)
  /-- FRAME_DELIVER (R302): Once the lines are acknowledged, the frame record is written and frame_ctr incremented. -/
  | frameDeliver (n : Fin 64)
  /-- FRAME_GAP_TIMEOUT (R300): gap_us expiring closes a packet frame, or breaks a CSI-2 frame. -/
  | frameGapTimeout (n : Fin 64)
  /-- ETHERNET_FRAME_RX (R300): An Ethernet frame is received, matched and written into a slot, or discarded. `data`: from the destination address to the end of the payload; `age`: nanoseconds since the start frame delimiter. -/
  | ethernetFrameRx (m : Fin 2) (data : List Byte) (fcsOk : Bool) (age : Nat) (backlog : Fin 2049) (lost ue : Bool)
  /-- CAN_MESSAGE_RX (R313): A CAN message is received, matched and written as a record. `age`: nanoseconds since the start-of-frame synchronisation. -/
  | canMessageRx (c : Fin 2) (id : BitVec 29) (ide fdf brs rtr esi : Bool) (dlc : BitVec 4) (data : List Byte) (age : Nat) (backlog : Fin 2049) (lost ue : Bool)
  /-- TX_DESCRIPTOR_SEND (R311): The next submitted transmit descriptor is sent, or rejected with err. -/
  | txDescriptorSend (t : Fin 4)
  /-- TX_COMPLETE (R311): A sent descriptor is written back and the ring's done counter incremented. `ok`: the frame or message was sent; `age`: nanoseconds since its reference point passed. -/
  | txComplete (t : Fin 4) (ok : Bool) (age : Nat)
  /-- CAN_RECOVER (R326): recover starts bus-off recovery of a CAN controller. -/
  | canRecover (c : Fin 2)
  /-- CAN_BUS_OFF_RECOVERY (R312): 128 occurrences of 11 recessive bits complete bus-off recovery. -/
  | canBusOffRecovery (c : Fin 2)
  /-- TIME_STEP (R316): A write to TIM_STEP_SEC_HI steps the timebase once, or is refused. `val`: the word written to TIM_STEP_SEC_HI. -/
  | timeStep (path : Path) (val : Word)
  /-- OFFSET_COMMIT (R317): A write to TIM_OFFSET_HI replaces the slew remainder. `val`: the word written to TIM_OFFSET_HI. -/
  | offsetCommit (path : Path) (val : Word)
  /-- TSI_EDGE (R320): An accepted timestamp-input edge is queued with its time and may add to a counter. `level`: after the edge, and the cycles for which it has been sampled; `age`: nanoseconds since the sample that would accept it, less the synchroniser's delay. -/
  | tsiEdge (i : Fin 16) (level : TsiLevel) (age : Nat)
  /-- TSI_POP (R321): pop moves the head entry of an input's FIFO to the TIM_TSI registers. -/
  | tsiPop (i : Fin 16)
  /-- KICKOFF_ARM (R322): arm = 1 arms a kickoff slot with its target time. `val`: the word written to TIM_KOs_CFG, with arm = 1. -/
  | kickoffArm (n : Fin 32) (val : Word)
  /-- KICKOFF_DISARM (R324): arm = 0 disarms a kickoff slot. `val`: the word written to TIM_KOs_CFG, with arm = 0. -/
  | kickoffDisarm (n : Fin 32) (val : Word)
  /-- KICKOFF_FIRE (R322): The timebase reaching a slot's target fires its actions and rearms or disarms it. -/
  | kickoffFire (n : Fin 32)
  /-- TRIGGER_PULSE_END (R332): A trigger pulse ends after pulse_us. -/
  | triggerPulseEnd (o : Fin 16)
  /-- PAIR_CAPTURE (R450): cap captures the RTC and the timebase at one instant. -/
  | pairCapture
  /-- PLL_ENABLE (R444): Setting en_n starts PLL n locking. `val`: the word written to CLK_PLL_CTRL. -/
  | pllEnable (val : Word)
  /-- PLL_LOCK (R444): A PLL locks, and automatic resume may switch domains or start training. `ok`: lock was reached within its bound. -/
  | pllLock (n : Fin 7) (ok : Bool)
  /-- CLK_SRC_SWITCH (R444): Setting a CLK_SRC bit switches that domain glitch-free to its PLL, or sets cfg_err. `val`: the word written to CLK_SRC. -/
  | clkSrcSwitch (val : Word)
  /-- PLL_LOSS_OF_LOCK (R444): A selected PLL losing lock sets lol and raises a dangerous fault. -/
  | pllLossOfLock (n : Fin 7)
  /-- CFG_SAVE (R335): save_cfg starts writing the MSR configuration image. -/
  | cfgSave
  /-- CFG_SAVE_DONE (R335): The configuration image write completes. -/
  | cfgSaveDone
  /-- VIB_MODE_WRITE (R342): A write changing rate or mode restarts vibration acquisition. `val`: the word written to MSR_VIB_MODE. -/
  | vibModeWrite (val : Word)
  /-- VIB_SAMPLE (R342): A vibration sample is produced and written to its channel ring. `raw`: the filter's code before calibration; `full`: the modulator or filter reached full scale. -/
  | vibSample (v : Fin 4) (raw : BitVec 24) (full : Bool)
  /-- BIAS_CHECK (R339): Each 1 ms the excited channels' bias is measured and classified. -/
  | biasCheck (v : Fin 4) (mv : BitVec 16)
  /-- PRECISION_DISCHARGE_END (R344): A slot's discharge ends and its pins and excitation are connected. -/
  | precisionDischargeEnd
  /-- PRECISION_SETTLE_END (R344): A slot's settle time ends and conversion starts. -/
  | precisionSettleEnd
  /-- PRECISION_CONVERSION_END (R347): A precision conversion ends and its value is computed and published. `raw`: the converter's code before calibration; `full`: full scale was reached. -/
  | precisionConversionEnd (raw : BitVec 24) (full : Bool)
  /-- BURNOUT_TRIP (R348): The burn-out comparator trips and flags the slot's conversion open. `on`: the comparator is tripped after the change. -/
  | burnoutTrip (on : Bool)
  /-- BLANK_EDGE (R355): An accepted BLANK level opens the blank window or starts its holdoff. -/
  | blankEdge (level : Bool)
  /-- BLANK_HOLDOFF_END (R355): The holdoff ends and the blank window closes. -/
  | blankHoldoffEnd
  /-- PULSE_EDGE (R356): An accepted pulse edge increments the count and measures the period. -/
  | pulseEdge (p : Fin 4) (rising : Bool)
  /-- PULSE_RATE_TIMEOUT (R356): No edge for the timeout makes the pulse rate 0. -/
  | pulseRateTimeout (p : Fin 4)
  /-- RUN_DWELL_END (R357): A qualifying run of shaft speeds lasting run_dwell_s starts or stops an engine. -/
  | runDwellEnd (e : Fin 2)
  /-- SWITCH_DWELL_TICK (R358): Every 1 ms a switch whose run has met its dwell changes state. -/
  | switchDwellTick
  /-- SWITCH_COMMIT (R360): A MSR_SWk_CFG write commits the switch's staged levels and dwell. `val`: the word written to MSR_SWk_CFG. -/
  | switchCommit (k : Fin 8) (val : Word)
  /-- SWITCH_ACK (R360): A MSR_SW_ACK bit clears a switch's latch. -/
  | switchAck (mask : BitVec 8)
  /-- SWO_OVERCURRENT (R554): An output over its current limit for 1 ms releases. -/
  | swoOvercurrent (k : Fin 8)
  /-- SWO_RETRY (R554): A released output retries every 100 ms. -/
  | swoRetry (k : Fin 8)
  /-- CAL_SESSION_OPEN (R362): CAL_EN held high for 100 ms opens a calibration session and starts reading the module. -/
  | calSessionOpen
  /-- CAL_IMAGE_READ (R362): The calibration image read ends and is checked, then committed or rejected. `ack`: the module answered; `okA`, `okB`: the copies read back as written. -/
  | calImageRead (ack : Bool) (img : BitVec 2048) (okA okB : Bool)
  /-- LOG_PERIODIC (R367): log_period_min of run time makes a PERIODIC record due. -/
  | logPeriodic
  /-- LOG_RECORD_WRITE (R368): A due log record is written and read back, moving on after a failed write. `ok`: the slot reads back as written. -/
  | logRecordWrite (ok : Bool)
  /-- LOG_SELECT (R368): A MSR_LOG_SEL write starts a search for a log record. -/
  | logSelect (seq : Word)
  /-- LOG_SEARCH_DONE (R368): The log search ends and the record is captured. -/
  | logSearchDone
  /-- CHECKPOINT_TIMER (R369): Every 60 s of run time the metrology state is written to the next checkpoint slot. -/
  | checkpointTimer
  /-- CHECKPOINT_SELECT (R370): cap starts a search for the newest checkpoint. -/
  | checkpointSelect
  /-- CHECKPOINT_SEARCH_DONE (R370): The checkpoint search ends and the slot is captured. -/
  | checkpointSearchDone
  /-- TILE_POWER_ON_RESET (R540): Tile reset release samples the straps, selects calibration, restores configuration and metrology, and starts model recovery. `addrH`, `addrM`: the address straps; `boot`: the BOOT_RUN strap. -/
  | tilePowerOnReset (addrH addrM : BitVec 7) (boot : Bool)
  /-- TILE_RAIL_LOSS (R544): Loss of a tile rail resets the tile and drops the main-die enables. -/
  | tileRailLoss
  /-- SENTINEL_RUN (R377): A LRN_CTRL write setting run starts the burst schedule at T0. `val`: the word written to LRN_CTRL. -/
  | sentinelRun (val : Word)
  /-- BURST_DUE (R377): A burst falls due and is taken, or skipped under R379. -/
  | burstDue
  /-- EXCITATION_ON (R341): Excitation turns on warmup × 10 ms before a burst. -/
  | excitationOn
  /-- BURST_COMPLETE (R380): The last burst sample is written and the burst is judged by its flags. -/
  | burstComplete
  /-- FEATURES_READY (R381): The feature DSP finishes the burst's spectral features. -/
  | featuresReady
  /-- EVENTS_READY (R382): The encoder maps the features to input-line spike times. -/
  | eventsReady
  /-- EVENT_CORE_STEP (R386): A window step of the event core runs its neurons and then learning. `ovf`: the step ran past its bound. -/
  | eventCoreStep (ovf : Bool)
  /-- EPOCH_COMMIT (R394): The commit sweep applies the shadows to every synapse row. -/
  | epochCommit
  /-- NVS_WRITE_DONE (R407): A 64-byte journal, image or header write completes and is read back. `ok`: the cell verifies as written. -/
  | nvsWriteDone (ok : Bool)
  /-- SCORE_COMPARE (R398): At the window end the score is compared and the NORMAL/ANOMALY state updated. -/
  | scoreCompare
  /-- RESULT_PUBLISH (R400): The burst's result record is written and LRN_RES_HEAD updated. -/
  | resultPublish
  /-- RESULT_SELECT (R401): A LRN_RES_SEL write captures a result record. -/
  | resultSelect (seq : Word)
  /-- MODEL_RECOVERY_DONE (R409): Recovery of the learning store ends with the last committed epoch loaded. -/
  | modelRecoveryDone
  /-- COMMIT_MODEL (R414): commit_model writes every bank image and a fresh header, or is refused. -/
  | commitModel
  /-- END_EPOCH (R393): end_epoch ends the epoch at the last completed step. -/
  | endEpoch
  /-- RELEARN (R411): relearn resets the failed banks in the mask and forces a compaction. -/
  | relearn
  /-- LRN_SAVE_CFG (R414): save_cfg writes a header with the present configuration. -/
  | lrnSaveCfg
  /-- LRN_CLR (R418): clr sets LRN_EVCNT and LRN_SATCNT to 0. -/
  | lrnClr
  /-- SYN_SELECT (R415): A LRN_SYN_SEL write captures a synapse after committing its row. -/
  | synSelect (i : BitVec 18)
  /-- SYN_DATA_WRITE (R415): A LRN_SYN_DATA write while stopped sets a synapse and clears its traces. -/
  | synDataWrite (val : Word)
  /-- SRC_DATA_WRITE (R414): A LRN_SRC_DATA write sets a source entry while run = 0, or sets cfg_err. -/
  | srcDataWrite (val : Word)
  /-- CONFIRM_WRITE (R391): A write of minutes sets the remaining confirmed time. `val`: the word written to LRN_CONFIRM. -/
  | confirmWrite (val : Word)
  /-- CONFIRM_MINUTE (R391): At each whole RTC minute the confirmed minutes fall by 1. -/
  | confirmMinute
  /-- CONFIRM_BALL (R391): The CONFIRM ball held high for 100 ms confirms the machine. -/
  | confirmBall (high : Bool)
  /-- HOLD_TIMER (R426): The HOLD timer reaching hold_us starts RUN to HOLD. -/
  | holdTimer
  /-- DUGOUT_TIMER (R426): The DUGOUT timer reaching dug_s starts HOLD to DUGOUT. -/
  | dugoutTimer
  /-- HOLD_EXIT_ACTIVITY (R428): Activity in HOLD ungates the domains and returns to RUN. -/
  | holdExitActivity
  /-- PWR_REQ_RUN (R434): A PWR_REQ write of target RUN requests an exit. -/
  | pwrReqRun
  /-- PWR_REQ_DUGOUT (R429): A PWR_REQ write of target DUGOUT starts the DUGOUT entry. -/
  | pwrReqDugout
  /-- PWR_REQ_DORMANT (R432): A PWR_REQ write of target DORMANT starts the DORMANT entry. -/
  | pwrReqDormant
  /-- PG_MAIN_LOW (R542): PG_MAIN falling marks the main dies as lost and releases the enables. -/
  | pgMainLow
  /-- MIN_OFF_EXPIRY (R429): min_off passing with PG_MAIN low completes the entry to DUGOUT. -/
  | minOffExpiry
  /-- PG_MAIN_HIGH (R441): PG_MAIN rising releases isolation and H-die reset during an exit. -/
  | pgMainHigh
  /-- PG_TIMEOUT (R442): PG_MAIN not rising within pg_to_ms sets pg_fail and returns to DUGOUT. -/
  | pgTimeout
  /-- DORMANT_ENTRY_COMPLETE (R432): After the commit, checkpoint and DORMANT_ENTRY record, the tile stops all but the always-on partition. -/
  | dormantEntryComplete
  /-- WAKE_EDGE (R438): A filtered WAKE_EDGE edge raises wake source 0x3. -/
  | wakeEdge (rising : Bool)
  /-- WAKE_CAN (R438): A filtered WAKE_CAN edge raises wake source 0x5. -/
  | wakeCan (rising : Bool)
  /-- HWAKE (R438): A filtered HWAKE edge raises wake source 0x6. -/
  | hwake (rising : Bool)
  /-- RTC_ALARM (R449): The RTC reaching the alarm target fires it and raises wake source 0x4. -/
  | rtcAlarm
  /-- ALARM_ARM (R459): A PWR_ALARM_CFG write arms the alarm, or is refused. `val`: the word written to PWR_ALARM_CFG. -/
  | alarmArm (val : Word)
  /-- RTC_SET (R449): A write to PWR_RTC_SET_HI sets the RTC and appends TIME_SET. `val`: the word written to PWR_RTC_SET_HI. -/
  | rtcSet (path : Path) (val : Word)
  /-- DANGEROUS_FAULT (R462): A dangerous fault reaches the safety monitor, which records it and stops affected queues. `extra`: further presented faults that reach the monitor in the same cycle. -/
  | dangerousFault (extra : Nat)
  /-- OVER_TEMPERATURE (R466): A sensor reading at least 125 °C raises source 0x0E. -/
  | overTemperature
  /-- DIGEST_RECORD_READY (R471): A local digest record becomes ready and is sent to the peer or checked. -/
  | digestRecordReady
  /-- PEER_RECORD_RECEIVE (R473): A peer digest record arrives and is matched against the local one. The record's fields of R470. -/
  | peerRecordReceive (d : BitVec 64) (index : BitVec 48) (id : BitVec 8) (kind sat : Bool) (rows : BitVec 24)
  /-- MATCH_TABLE_SCAN (R473): Every 100 µs the match table is checked for records unmatched for timeout_ms. -/
  | matchTableScan
  /-- GOLDEN_CHECK (R480): A golden record is read and compared, or a local record captured. -/
  | goldenCheck
  /-- BIST_SLICE (R481): A background BIST slice of an idle engine completes. `u`: the unit, as bits [11:0] of SAF_FAULT_LOC; `last`: its test is complete; `fail`: it fails. -/
  | bistSlice (u : BitVec 12) (last fail : Bool)
  /-- BIST_PERIOD_END (R482): A BIST period ends and starved engines are counted. -/
  | bistPeriodEnd
  /-- DIAGNOSTIC_BIST_DONE (R484): Diagnostic BIST of the suspect units ends and failed units are substituted. `fails`: the suspect units that fail, as bits [11:0] of SAF_FAULT_LOC. -/
  | diagnosticBistDone (fails : List (BitVec 12))
  /-- RECOVERY_READY (R484): The substitute's memories are cleared and state becomes ready. -/
  | recoveryReady
  /-- REPLAY_DONE (R488): done returns the recovery state to idle. -/
  | replayDone
  /-- SAF_MODE_WRITE (R472): A write of SAF_CTRL.mode empties the match table. `val`: the word written to SAF_CTRL. -/
  | safModeWrite (val : Word)
  /-- FULL_DIE_RESET (R489): SAF_RESET with key and go warm-resets the H-die and both C-dies. `val`: the word written to SAF_RESET. -/
  | fullDieReset (path : Path) (val : Word)
  /-- TST_KEY_WRITE (R492): A TST_KEY write advances the unlock sequence or locks the test registers. -/
  | tstKeyWrite (path : Path) (val : Word)
  /-- TST_DIG_ARM (R492): arm inverts bit 0 of the next local digest. -/
  | tstDigArm (path : Path)
  /-- TST_FAULT (R492): go raises source 0x0F. -/
  | tstFault (path : Path)
  /-- TST_ECC_ARM (R494): arm makes the next write to the selected array store inverted bits. -/
  | tstEccArm (path : Path) (val : Word)
  /-- RIATH_READ (R505): A READ request addressed to a listener reads a register and responds. The fields of the request frame. -/
  | riathRead (dest : BitVec 7) (tag : BitVec 4) (addr : BitVec 16) (data : Word) (crc : BitVec 8)
  /-- RIATH_WRITE (R505): A WRITE request addressed to a listener writes a register and responds. The fields of the request frame. -/
  | riathWrite (dest : BitVec 7) (tag : BitVec 4) (addr : BitVec 16) (data : Word) (crc : BitVec 8)
  /-- RIATH_IDENT (R505): An IDENT request returns the CTL_ID layout. The fields of the request frame. -/
  | riathIdent (dest : BitVec 7) (tag : BitVec 4) (addr : BitVec 16) (data : Word) (crc : BitVec 8)
  /-- RIATH_RESERVED (R505): A reserved command is answered with status 0x2 and not kept. The fields of the request frame. -/
  | riathReserved (dest : BitVec 7) (code tag : BitVec 4) (addr : BitVec 16) (data : Word) (crc : BitVec 8)
  /-- RIATH_FRAMING_ERROR (R510): A frame starting on RI_D or with simultaneous changes is ignored or abandoned. `dest`: the listener's address, where the frame had come so far. -/
  | riathFramingError (dest : Option (BitVec 7))
  /-- RIATH_FRAME_TIMEOUT (R510): More than 100 µs between changes abandons the frame. `dest`: the listener's address, where the frame had come so far. -/
  | riathFrameTimeout (dest : Option (BitVec 7))
  /-- RIATH_RESPONSE (R507): A listener sends its response once RO has been idle long enough. `tile`: the tile's listener. -/
  | riathResponse (tile : Bool)
  /-- RI_STAT_CLR (R531): clr sets a listener's error counts to 0. `tile`: the tile's listener. -/
  | riStatClr (tile : Bool)
  /-- BAR2_ACCESS (R516): A BAR2 access is translated through the window to the device address space. A write of `bs`, where none is a byte that is not enabled, or a read of `len` bytes. -/
  | bar2Access (off : BitVec 28) (wr : Bool) (bs : List (Option Byte)) (len : Nat)
  /-- PCIE_HOT_RESET (R518): A hot reset or link loss resets the configuration space and sets down. -/
  | pcieHotReset
  /-- PCIE_LINK_UP (R518): The link coming up with bus mastering reissues every counter shadow. Speed code and lanes of CTL_PCIE_STAT. -/
  | pcieLinkUp (speed : BitVec 3) (width : BitVec 4)
  /-- MSIX_UNMASK (R519): Unmasking a vector with its pending bit set sends its message. `masked`: the mask bit written. -/
  | msixUnmask (vec : Fin 32) (masked : Bool)
  /-- EVENT_ENABLE_WRITE (R521): A CTL_EVT_EN write that enables a raised event sends its MSI-X message. -/
  | eventEnableWrite (path : Path) (val : Word)
  /-- TIMEBASE_CYCLE (R317): Each timebase cycle adds 2 ns plus the rate and slew correction, consumes rem, and updates slewing, stall and div_live. -/
  | timebaseCycle
  /-- PAIR_LINK_DOWN (R466): The pair link loses LNK_STATUS3.up without a pair_stop, which in Doubles raises source 0x0A and falls back or stops the digested queues. -/
  | pairLinkDown
  /-- ETHERNET_LINK_CHANGE (R326): The USXGMII link of a MAC comes up or goes down, or changes rate, and ING_ETHm_STAT follows. -/
  | ethernetLinkChange (m : Fin 2) (up : Bool) (rate : BitVec 2)
  /-- CAN_BUS_ERROR (R312): A bus error seen by a CAN FD controller changes TEC or REC and may move it to error-passive or bus-off, setting the bus-off flag. `tec`, `recv`: the error counts after the error; 256 for a transmit count beyond 255. -/
  | canBusError (c : Fin 2) (tec recv : Fin 257)
  /-- PCIE_CONFIG_WRITE (R517): A host configuration write changes Bus Master Enable, the D-state or the MSI-X enable or function mask, which decide whether host memory is mapped and whether messages send or pend. `pm`: the D-state and the enable of ASPM L1. -/
  | pcieConfigWrite (bme : Bool) (pm : PciePm) (msixEn fnMask : Bool)
  deriving DecidableEq, Repr

end Sys2Proof
end

