-- ==== Sys2Proof/Machine/Bits.lean ====
section
/-! DEFINITION. Bit fields, little-endian bytes (R5), two's-complement fields and sparse maps: the plumbing every
other file of the machine uses. -/

namespace Sys2Proof.Machine

/-- The field [hi:lo] of a number. -/
def fld (w hi lo : Nat) : Nat := (w >>> lo) % 2 ^ (hi + 1 - lo)

/-- The number with its field [hi:lo] replaced by `v` (reduced to the field's width). -/
def setFld (w hi lo v : Nat) : Nat :=
  w - (fld w hi lo) * 2 ^ lo + (v % 2 ^ (hi + 1 - lo)) * 2 ^ lo

/-- The same two under names that no state operation shares. -/
abbrev nfld (w hi lo : Nat) : Nat := fld w hi lo
abbrev nset (w hi lo v : Nat) : Nat := setFld w hi lo v

/-- A field's content read as two's complement of `n` bits. -/
def sgn (n v : Nat) : Int :=
  if v % 2 ^ n < 2 ^ (n - 1) then ((v % 2 ^ n : Nat) : Int) else ((v % 2 ^ n : Nat) : Int) - ((2 ^ n : Nat) : Int)

/-- The two's-complement code of `n` bits of an integer. -/
def uns (n : Nat) (i : Int) : Nat := (i % ((2 ^ n : Nat) : Int)).toNat

/-- 1 for true. -/
def b2n (b : Bool) : Nat := if b then 1 else 0

/-- A register's field. -/
def wfld (w : Word) (hi lo : Nat) : Nat := fld w.toNat hi lo

/-- A register with one field replaced. -/
def wset (w : Word) (hi lo v : Nat) : Word := BitVec.ofNat 32 (setFld w.toNat hi lo v)

/-- A little-endian number from its bytes (R5). -/
def ofBytes : List Byte → Nat
  | [] => 0
  | b :: t => b.toNat + 256 * ofBytes t

/-- The `n` low bytes of a number, least significant first (R5). -/
def toBytes : Nat → Nat → List Byte
  | 0, _ => []
  | n + 1, v => BitVec.ofNat 8 v :: toBytes n (v / 256)

/-- Clamp an integer to an interval. -/
def clampI (lo hi v : Int) : Int := if v < lo then lo else if hi < v then hi else v

/-- Add with saturation at `top`. -/
def satAdd (top a b : Nat) : Nat := if a + b ≤ top then a + b else top

/-- Ceiling division. -/
def cdiv (a b : Nat) : Nat := (a + b - 1) / b

/-- The bits of a number that are set, in ascending order, below `n`. -/
def bitsOf (n w : Nat) : List Nat := (List.range n).filter (fun i => w.testBit i)

/-- A sparse map from numbers: strictly rising keys, and no entry equal to what an unlisted key reads as. -/
abbrev SMap (α : Type) := List (Nat × α)

namespace SMap

variable {α : Type}

/-- What a key holds; an unlisted key holds `d`. -/
def look (d : α) : SMap α → Nat → α
  | [], _ => d
  | (k', v) :: t, k => if k = k' then v else look d t k

/-- The map without a key. -/
def drop (m : SMap α) (k : Nat) : SMap α := m.filter (fun e => !(e.1 == k))

/-- An entry put in its place. -/
def enter : SMap α → Nat → α → SMap α
  | [], k, v => [(k, v)]
  | e :: t, k, v => if k < e.1 then (k, v) :: e :: t else e :: enter t k v

/-- The map with one key's content replaced, kept in canonical form. -/
def put [DecidableEq α] (d : α) (m : SMap α) (k : Nat) (v : α) : SMap α :=
  if v = d then m.drop k else (m.drop k).enter k v

/-- Every key of the map lies above `b`. -/
def above (b : Nat) (m : SMap α) : Bool := m.all (fun e => decide (b < e.1))

/-- The canonical form: keys strictly rising, no entry equal to the default. -/
def wf [DecidableEq α] (d : α) : SMap α → Bool
  | [] => true
  | (k, v) :: t => above k t && decide (v ≠ d) && wf d t

end SMap

end Sys2Proof.Machine
end

