-- ==== Sys2Proof/Machine/Line.lean ====
section
/-! DEFINITION. The line code of the Riath pairs (R500, R501, R503): bits to levels of (D, S) and back. -/

namespace Sys2Proof.Machine

/-- The levels of (D, S) after one bit: D takes the bit's value, S toggles where D does not change. -/
def lineStep (p : Bool × Bool) (b : Bool) : Bool × Bool := (b, if b = p.1 then !p.2 else p.2)

/-- The levels that bits drive in turn from present levels. -/
def lineLevels : Bool × Bool → List Bool → List (Bool × Bool)
  | _, [] => []
  | p, b :: t => lineStep p b :: lineLevels (lineStep p b) t

/-- The levels after the last bit. -/
def lineEnd (p : Bool × Bool) (bs : List Bool) : Bool × Bool := bs.foldl lineStep p

/-- The park of R503: from (1, 1) D falls, then S; from (0, 0) nothing. -/
def linePark (p : Bool × Bool) : List (Bool × Bool) := if p = (true, true) then [(false, true), (false, false)] else []

/-- A byte's bits, most significant first, and back. -/
def byteBits (n : Nat) : List Bool := (List.range 8).map fun i => n.testBit (7 - i)
def bitsByte (bs : List Bool) : Nat := bs.foldl (fun n b => 2 * n + b2n b) 0

/-- The levels of a frame sent from the idle pair, with its park. -/
def lineFrame (bytes : List Nat) : List (Bool × Bool) :=
  let bs := bytes.flatMap byteBits
  lineLevels (false, false) bs ++ linePark (lineEnd (false, false) bs)

/-- The bytes that a receiver reads off the pair: each bit is the new level of D; after 72 bits it takes the park for none. -/
def lineRead (ls : List (Bool × Bool)) : List Nat :=
  let bs := ls.map Prod.fst
  (List.range 9).map fun i => bitsByte ((bs.drop (8 * i)).take 8)

end Sys2Proof.Machine
end

