-- ==== Sys2Proof/Machine/Hash.lean ====
section
/-! DEFINITION. The hashes of digest records (R468). -/

namespace Sys2Proof.Machine

/-- One bit of a reflected CRC. -/
def crcBit (poly c : Nat) : Nat := if c % 2 = 1 then (c / 2) ^^^ poly else c / 2

def crcByte (poly c : Nat) (b : Byte) : Nat :=
  let x := c ^^^ b.toNat
  crcBit poly (crcBit poly (crcBit poly (crcBit poly (crcBit poly (crcBit poly (crcBit poly (crcBit poly x)))))))

/-- A reflected 32-bit CRC with initial value and final XOR 0xFFFF_FFFF. -/
def crc32of (poly : Nat) (bs : List Byte) : Nat := (bs.foldl (crcByte poly) 0xFFFFFFFF) ^^^ 0xFFFFFFFF

/-- CRC-32C, polynomial 0x1EDC_6F41 reflected. -/
def crc32c (bs : List Byte) : Nat := crc32of 0x82F63B78 bs

/-- CRC-32 of IEEE 802.3, reflected. -/
def crc32 (bs : List Byte) : Nat := crc32of 0xEDB88320 bs

/-- What row `r` with these bytes adds to a digest. -/
def rowHash (r : Nat) (bs : List Byte) : Nat :=
  let x := toBytes 4 r ++ bs
  crc32c x * 2 ^ 32 + crc32 x

/-- The digest of numbered rows. -/
def digestOf (rows : List (Nat × List Byte)) : Nat := (rows.foldl (fun d r => d + rowHash r.1 r.2) 0) % 2 ^ 64

end Sys2Proof.Machine
end

