-- ==== Sys2Proof/Config.lean ====
section
/-! DEFINITION. What the manual leaves open and the model leaves free. Each constant has no usable body: nothing in Lean
can evaluate it or prove a value of it, so a statement that holds of the model holds for every choice. -/

namespace Sys2Proof.Config

/-- The n-th free value of a run (State.freeCtr counts them): bits of a corrupted word, outcomes the manual leaves
unspecified (log entry 3). -/
opaque freeNat : Nat → Nat

/-- The payload of an FP32 NaN that the vector unit writes: R79 gives FP32 no NaN of its own (log entry 12). -/
opaque nan32 : Nat

/-- Results of vector operators that the contract entries the manual prints do not state, by operator code and operand
codes: CMP's predicates and result codes, SELECT's condition, MIN, MAX and CLAMP on NaN or on zeros of both signs, a
function at an infinity or a pole (log entry 13). -/
opaque vec : Nat → Nat → Nat → Nat → Nat

/-- The temperature in 0.001 °C that a type B thermocouple's voltage stands for where its reference function has that
voltage twice, by the voltage as a fraction of 10 nV units (log entry 20). -/
opaque tcLow : Int → Nat → Int

/-- A thermocouple's reference function at a junction temperature beyond its range, by curve code and 0.001 °C, in units of
10 nV × 10^-6: the standard defines none there (log entry 20). -/
opaque tcRef : Nat → Int → Int

/-- By how many 0.001 °C the computed inverse of an RTD or thermocouple curve differs from the exact one, before R350's
bound of 5 is applied, by curve code and code of the value (log entry 20). -/
opaque curveErr : Nat → Int → Nat → Int

/-- A slot's value where its curve does not fit its reference: the manual states none (log entry 20). -/
opaque curveMismatch : Nat → Bool → Int → Nat → Int

/-- A rate or total that does not fit its register (log entry 21). -/
opaque overflow : Nat → Nat

/-- By how many units a feature of the DSP differs from the exact one, before R381's bound of 1 is applied, by feature and
samples (log entry 22). -/
opaque dspErr : Nat → List Int → Int

/-- Places of the instruction register of the IEEE 1149.1 port beyond the two that the standard asks for, the instruction
that a code other than all ones names, and the cells of its boundary register: the manual gives none of them (log entry
81). -/
opaque tapIrBits : Nat
opaque tapCode : List Bool → Nat
opaque tapCells : Nat

end Sys2Proof.Config
end

