-- ==== Sys2Proof/Machine/RegMap.lean ====
section
/-! DEFINITION. The register map: the word address of every register the manual's register tables name (R6, R7 and
the table of each chapter), and for each the bits a write sets (RW, RWS) and the bits a written 1 clears (W1C).
A register in a numbered family is a function of its number. -/

namespace Sys2Proof.Machine

namespace Reg

abbrev CTL_ROOT_CTRL : Nat := 0x0040
abbrev CTL_ROOT_STATUS : Nat := 0x0041
abbrev CTL_SDT_BASE : Nat := 0x0042
abbrev CTL_SDT_COUNT : Nat := 0x0043
abbrev CTL_QDT_BASE : Nat := 0x0044
abbrev CTL_QDT_COUNT : Nat := 0x0045
abbrev CTL_SOT_BASE : Nat := 0x0046
abbrev CTL_TDT_COUNT : Nat := 0x0047
abbrev CTL_TDT_BASE_LO : Nat := 0x0048
abbrev CTL_TDT_BASE_HI : Nat := 0x0049
abbrev QNT_CFG (n : Nat) : Nat := 0x0500 + 8 * n
abbrev QNT_COUNT (n : Nat) : Nat := 0x0501 + 8 * n
abbrev QNT_ERR_LO (n : Nat) : Nat := 0x0502 + 8 * n
abbrev QNT_ERR_HI (n : Nat) : Nat := 0x0503 + 8 * n
abbrev QNT_CLIPS (n : Nat) : Nat := 0x0504 + 8 * n
abbrev QNT_CONST (n : Nat) : Nat := 0x0505 + 8 * n
abbrev QNT_NONFIN (n : Nat) : Nat := 0x0506 + 8 * n
abbrev QNT_LIM (n : Nat) : Nat := 0x0507 + 8 * n
abbrev QNT_SNAP_CTRL : Nat := 0x0600
abbrev QNT_SNAP_STATUS : Nat := 0x0601
abbrev QNT_SNAP_COUNT : Nat := 0x0602
abbrev QNT_SNAP_ERR_LO : Nat := 0x0603
abbrev QNT_SNAP_ERR_HI : Nat := 0x0604
abbrev QNT_SNAP_CLIPS : Nat := 0x0605
abbrev QNT_SNAP_CONST : Nat := 0x0606
abbrev QNT_SNAP_NONFIN : Nat := 0x0607
abbrev QNT_ALARM : Nat := 0x0608
abbrev ENG_FAULT_STATUS : Nat := 0x0400
abbrev ENG_FAULT_OP : Nat := 0x0401
abbrev ENG_FAULT_ROW : Nat := 0x0402
abbrev ENG_SAT_CNT : Nat := 0x0403
abbrev ENG_SAT_FIRST : Nat := 0x0404
abbrev ENG_SAT_OP : Nat := 0x0405
abbrev ENG_BUSY_LO : Nat := 0x0406
abbrev ENG_BUSY_HI : Nat := 0x0407
abbrev ENG_CTRL : Nat := 0x0408
abbrev SCH_Q_CTRL : Nat := 0x0800
abbrev SCH_Q_STATUS : Nat := 0x0801
abbrev SCH_WDOG : Nat := 0x0802
abbrev SCH_FAULT_STATUS : Nat := 0x0803
abbrev SCH_FAULT_OP : Nat := 0x0804
abbrev SCH_CTRL : Nat := 0x0805
abbrev SCH_SB_SEL : Nat := 0x0808
abbrev SCH_SB_DATA (n : Nat) : Nat := 0x0809 + 1 * n
abbrev SCH_CTX_CFG (n : Nat) : Nat := 0x0900 + 1 * n
abbrev SCH_CTX_STATE (n : Nat) : Nat := 0x0A00 + 1 * n
abbrev SCH_ENG_SUB (n : Nat) : Nat := 0x0B00 + 1 * n
abbrev SCH_CORE_SUB (n : Nat) : Nat := 0x0B40 + 1 * n
abbrev SCH_OCC (n : Nat) : Nat := 0x0B80 + 1 * n
abbrev SCH_CTX_POS (n : Nat) : Nat := 0x0C00 + 1 * n
abbrev MEM_LPDDR_CFG : Nat := 0x1000
abbrev MEM_LPDDR_STATUS : Nat := 0x1002
abbrev MEM_ECC_STATUS : Nat := 0x1004
abbrev MEM_ECC_LOC : Nat := 0x1005
abbrev MEM_ECC_CE_CNT : Nat := 0x1006
abbrev MEM_ECC_UE_CNT : Nat := 0x1007
abbrev MEM_SCRUB_CFG : Nat := 0x1008
abbrev MEM_ADDR_FAULT : Nat := 0x100C
abbrev MEM_ADDR_FAULT_LO : Nat := 0x100D
abbrev MEM_ADDR_FAULT_HI : Nat := 0x100E
abbrev MEM_WLD_ONCHIP_LO : Nat := 0x1010
abbrev MEM_WLD_ONCHIP_HI : Nat := 0x1011
abbrev MEM_WLD_SPILL_LO : Nat := 0x1012
abbrev MEM_WLD_SPILL_HI : Nat := 0x1013
abbrev MEM_SPILL_RATIO : Nat := 0x1014
abbrev MEM_CTRL : Nat := 0x1015
abbrev LNK_STATUS (n : Nat) : Nat := 0x1100 + 8 * n
abbrev LNK_RETRY (n : Nat) : Nat := 0x1101 + 8 * n
abbrev LNK_CE (n : Nat) : Nat := 0x1102 + 8 * n
abbrev LNK_STALL_A (n : Nat) : Nat := 0x1103 + 8 * n
abbrev LNK_STALL_B (n : Nat) : Nat := 0x1104 + 8 * n
abbrev LNK_CTRL : Nat := 0x1120
abbrev SYN_CTR_SEL : Nat := 0x1400
abbrev SYN_CTR_VAL_LO : Nat := 0x1401
abbrev SYN_CTR_VAL_HI : Nat := 0x1402
abbrev SYN_CTR_INFO : Nat := 0x1403
abbrev SYN_CTR_TS_LO : Nat := 0x1404
abbrev SYN_CTR_TS_HI : Nat := 0x1405
abbrev SYN_CTR_END_LO : Nat := 0x1406
abbrev SYN_CTR_END_HI : Nat := 0x1407
abbrev SYN_CTR_SET_LO : Nat := 0x1408
abbrev SYN_CTR_SET_HI : Nat := 0x1409
abbrev SYN_WTR_LO (n : Nat) : Nat := 0x1410 + 2 * n
abbrev SYN_WTR_HI (n : Nat) : Nat := 0x1411 + 2 * n
abbrev SYN_ERR_STATUS : Nat := 0x1440
abbrev SYN_ERR_SRC : Nat := 0x1441
abbrev SYN_ERR_INFO : Nat := 0x1442
abbrev SYN_ERR_CNT : Nat := 0x1443
abbrev SYN_UF_STATUS : Nat := 0x1448
abbrev SYN_END_STATUS : Nat := 0x1450
abbrev SYN_END_FIRST : Nat := 0x1451
abbrev SYN_DUMP_CTRL : Nat := 0x1458
abbrev SYN_DUMP_STATUS : Nat := 0x1459
abbrev SYN_DUMP_BASE_LO : Nat := 0x145A
abbrev SYN_DUMP_BASE_HI : Nat := 0x145B
abbrev SYN_HUD_ARRIVE : Nat := 0x1460
abbrev SYN_HUD_ROUND : Nat := 0x1461
abbrev SYN_CTRL : Nat := 0x1468
abbrev SYN_ADD (n : Nat) : Nat := 0x2000 + 1 * n
abbrev SCH_FAULT_DETAIL : Nat := 0x0806
abbrev SCH_FAULT_RESUME : Nat := 0x0807
abbrev ING_STRM_CTRL : Nat := 0x1800
abbrev ING_STRM_STATUS : Nat := 0x1801
abbrev ING_BUF_STATUS : Nat := 0x1802
abbrev ING_CTRL : Nat := 0x1803
abbrev ING_ALARM_LO : Nat := 0x1804
abbrev ING_ALARM_HI : Nat := 0x1805
abbrev ING_STATE (n : Nat) : Nat := 0x1840 + 4 * n
abbrev ING_DELIV (n : Nat) : Nat := 0x1841 + 4 * n
abbrev ING_DROP (n : Nat) : Nat := 0x1842 + 4 * n
abbrev ING_LOSS (n : Nat) : Nat := 0x1843 + 4 * n
abbrev ING_CSI_CFG (n : Nat) : Nat := 0x1980 + 2 * n
abbrev ING_CSI_STAT (n : Nat) : Nat := 0x1981 + 2 * n
abbrev ING_ETH_CFG (n : Nat) : Nat := 0x1990 + 8 * n
abbrev ING_ETH_STAT (n : Nat) : Nat := 0x1991 + 8 * n
abbrev ING_ETH_UNM (n : Nat) : Nat := 0x1992 + 8 * n
abbrev ING_ETH_BAD (n : Nat) : Nat := 0x1993 + 8 * n
abbrev ING_CAN_CTRL (n : Nat) : Nat := 0x19C0 + 8 * n
abbrev ING_CAN_NBT (n : Nat) : Nat := 0x19C1 + 8 * n
abbrev ING_CAN_DBT (n : Nat) : Nat := 0x19C2 + 8 * n
abbrev ING_CAN_STATUS (n : Nat) : Nat := 0x19C3 + 8 * n
abbrev ING_CAN_UNM (n : Nat) : Nat := 0x19C4 + 8 * n
abbrev ING_TX_BASE_LO (n : Nat) : Nat := 0x1A00 + 4 * n
abbrev ING_TX_BASE_HI (n : Nat) : Nat := 0x1A01 + 4 * n
abbrev ING_TX_CFG (n : Nat) : Nat := 0x1A02 + 4 * n
abbrev TIM_SEC_LO : Nat := 0x1C00
abbrev TIM_SEC_HI : Nat := 0x1C01
abbrev TIM_NOW0 : Nat := 0x1C04
abbrev TIM_NOW1 : Nat := 0x1C05
abbrev TIM_NOW2 : Nat := 0x1C06
abbrev TIM_NOW3 : Nat := 0x1C07
abbrev TIM_STEP_NS : Nat := 0x1C08
abbrev TIM_STEP_SEC_LO : Nat := 0x1C09
abbrev TIM_STEP_SEC_HI : Nat := 0x1C0A
abbrev TIM_RATE : Nat := 0x1C0C
abbrev TIM_OFFSET_LO : Nat := 0x1C0D
abbrev TIM_OFFSET_HI : Nat := 0x1C0E
abbrev TIM_REM_LO : Nat := 0x1C0F
abbrev TIM_REM_HI : Nat := 0x1C10
abbrev TIM_SERVO : Nat := 0x1C11
abbrev TIM_DIV_LIM : Nat := 0x1C12
abbrev TIM_STATUS : Nat := 0x1C13
abbrev TIM_TSI_CFG (n : Nat) : Nat := 0x1C20 + 1 * n
abbrev TIM_TSI_SEL : Nat := 0x1C30
abbrev TIM_TSI_LO : Nat := 0x1C31
abbrev TIM_TSI_HI : Nat := 0x1C32
abbrev TIM_TSI_INFO : Nat := 0x1C33
abbrev TIM_KO_EVT : Nat := 0x1C40
abbrev TIM_KO_NS (n : Nat) : Nat := 0x1D00 + 8 * n
abbrev TIM_KO_SEC_LO (n : Nat) : Nat := 0x1D01 + 8 * n
abbrev TIM_KO_SEC_HI (n : Nat) : Nat := 0x1D02 + 8 * n
abbrev TIM_KO_CFG (n : Nat) : Nat := 0x1D03 + 8 * n
abbrev TIM_KO_PER (n : Nat) : Nat := 0x1D04 + 8 * n
abbrev TIM_KO_STAT (n : Nat) : Nat := 0x1D05 + 8 * n
abbrev TIM_KO_FIRE_LO (n : Nat) : Nat := 0x1D06 + 8 * n
abbrev TIM_KO_FIRE_HI (n : Nat) : Nat := 0x1D07 + 8 * n
abbrev MSR_CTRL : Nat := 0x3000
abbrev MSR_STATUS : Nat := 0x3001
abbrev MSR_CMD : Nat := 0x3002
abbrev MSR_VIB_MODE : Nat := 0x3004
abbrev MSR_VIB_CFG (n : Nat) : Nat := 0x3008 + 1 * n
abbrev MSR_VIB_STAT (n : Nat) : Nat := 0x300C + 1 * n
abbrev MSR_VIB_WIDX (n : Nat) : Nat := 0x3010 + 1 * n
abbrev MSR_VIB_RDSEL : Nat := 0x3014
abbrev MSR_VIB_TSTART_LO : Nat := 0x3016
abbrev MSR_VIB_TSTART_HI : Nat := 0x3017
abbrev MSR_PCH_CFG0 (n : Nat) : Nat := 0x3020 + 2 * n
abbrev MSR_PCH_CFG1 (n : Nat) : Nat := 0x3021 + 2 * n
abbrev MSR_SCAN_CTRL : Nat := 0x3040
abbrev MSR_SCAN_STAT : Nat := 0x3041
abbrev MSR_PCH_VAL (n : Nat) : Nat := 0x3050 + 4 * n
abbrev MSR_PCH_RAW (n : Nat) : Nat := 0x3051 + 4 * n
abbrev MSR_PCH_SEQ (n : Nat) : Nat := 0x3052 + 4 * n
abbrev MSR_PLS_CFG (n : Nat) : Nat := 0x3090 + 4 * n
abbrev MSR_PLS_CNT_LO (n : Nat) : Nat := 0x3091 + 4 * n
abbrev MSR_PLS_CNT_HI (n : Nat) : Nat := 0x3092 + 4 * n
abbrev MSR_PLS_PER (n : Nat) : Nat := 0x3093 + 4 * n
abbrev MSR_PLS_RATE (n : Nat) : Nat := 0x30A0 + 1 * n
abbrev MSR_BLANK_CFG : Nat := 0x30A8
abbrev MSR_SW_CFG (n : Nat) : Nat := 0x30B0 + 4 * n
abbrev MSR_SW_SET (n : Nat) : Nat := 0x30B1 + 4 * n
abbrev MSR_SW_RST (n : Nat) : Nat := 0x30B2 + 4 * n
abbrev MSR_SW_DWELL (n : Nat) : Nat := 0x30B3 + 4 * n
abbrev MSR_SW_STATE : Nat := 0x30D0
abbrev MSR_SW_ACK : Nat := 0x30D1
abbrev MSR_SEAL : Nat := 0x30E0
abbrev MSR_CAL_CRC : Nat := 0x30E1
abbrev MSR_CAL_STATUS : Nat := 0x30E2
abbrev MSR_DEVID_LO : Nat := 0x30E4
abbrev MSR_DEVID_HI : Nat := 0x30E5
abbrev MSR_TOT_RUN (n : Nat) : Nat := 0x30E8 + 4 * n
abbrev MSR_TOT_FUEL_LO (n : Nat) : Nat := 0x30E9 + 4 * n
abbrev MSR_TOT_FUEL_HI (n : Nat) : Nat := 0x30EA + 4 * n
abbrev MSR_LOG_HEAD : Nat := 0x30F0
abbrev MSR_LOG_SEL : Nat := 0x30F1
abbrev MSR_LOG_CAPST : Nat := 0x30F2
abbrev MSR_CKPT_SEL : Nat := 0x30F4
abbrev MSR_CKPT_CAPST : Nat := 0x30F5
abbrev MSR_VIB_WIN (n : Nat) : Nat := 0x3100 + 1 * n
abbrev MSR_UTAB (n : Nat) : Nat := 0x3200 + 1 * n
abbrev MSR_CAL_WIN (n : Nat) : Nat := 0x3300 + 1 * n
abbrev MSR_LOG_DATA (n : Nat) : Nat := 0x3340 + 1 * n
abbrev MSR_CKPT_DATA (n : Nat) : Nat := 0x3350 + 1 * n
abbrev LRN_CTRL : Nat := 0x3400
abbrev LRN_STATUS : Nat := 0x3401
abbrev LRN_CMD : Nat := 0x3402
abbrev LRN_EPOCH : Nat := 0x3403
abbrev LRN_STEP : Nat := 0x3404
abbrev LRN_SENT_CFG : Nat := 0x3405
abbrev LRN_WIN : Nat := 0x3406
abbrev LRN_EPOCH_CFG : Nat := 0x3407
abbrev LRN_RULE0 : Nat := 0x3408
abbrev LRN_RULE1 : Nat := 0x3409
abbrev LRN_SEED : Nat := 0x340A
abbrev LRN_CONFIRM : Nat := 0x340B
abbrev LRN_SCORE_CFG : Nat := 0x340C
abbrev LRN_SCORE_CFG1 : Nat := 0x340D
abbrev LRN_EVCNT : Nat := 0x340E
abbrev LRN_SATCNT : Nat := 0x340F
abbrev LRN_ENC (n : Nat) : Nat := 0x3410 + 1 * n
abbrev LRN_BAND (n : Nat) : Nat := 0x3420 + 1 * n
abbrev LRN_GRP_CFG (n : Nat) : Nat := 0x3440 + 2 * n
abbrev LRN_GRP_TH (n : Nat) : Nat := 0x3441 + 2 * n
abbrev LRN_SRC_SEL : Nat := 0x3460
abbrev LRN_SRC_DATA : Nat := 0x3461
abbrev LRN_SYN_SEL : Nat := 0x3462
abbrev LRN_SYN_DATA : Nat := 0x3463
abbrev LRN_RELEARN : Nat := 0x3464
abbrev LRN_RES_HEAD : Nat := 0x3470
abbrev LRN_RES_SEL : Nat := 0x3471
abbrev LRN_RES_CAPST : Nat := 0x3472
abbrev LRN_RES_DATA (n : Nat) : Nat := 0x3480 + 1 * n
abbrev NVS_STATUS : Nat := 0x3500
abbrev NVS_BANK_FAIL : Nat := 0x3501
abbrev NVS_COMMITTED : Nat := 0x3502
abbrev NVS_JFILL : Nat := 0x3503
abbrev NVS_WEAR_LO : Nat := 0x3504
abbrev NVS_WEAR_HI : Nat := 0x3505
abbrev NVS_COMPACTS : Nat := 0x3506
abbrev PWR_STATE : Nat := 0x3600
abbrev PWR_REQ : Nat := 0x3601
abbrev PWR_CFG : Nat := 0x3602
abbrev PWR_CFG1 : Nat := 0x3603
abbrev PWR_WAKE_EN : Nat := 0x3604
abbrev PWR_WAKE_CAUSE : Nat := 0x3605
abbrev PWR_WAKE_TIME_LO : Nat := 0x3606
abbrev PWR_WAKE_TIME_HI : Nat := 0x3607
abbrev PWR_WAKE_INFO : Nat := 0x3608
abbrev PWR_RESUME : Nat := 0x3609
abbrev PWR_STATUS : Nat := 0x360A
abbrev PWR_RTC_LO : Nat := 0x3610
abbrev PWR_RTC_HI : Nat := 0x3611
abbrev PWR_RTC_SET_LO : Nat := 0x3612
abbrev PWR_RTC_SET_HI : Nat := 0x3613
abbrev PWR_ALARM_LO : Nat := 0x3614
abbrev PWR_ALARM_HI : Nat := 0x3615
abbrev PWR_ALARM_CFG : Nat := 0x3616
abbrev CLK_PLL_CTRL : Nat := 0x0182
abbrev CLK_PLL_STATUS : Nat := 0x0183
abbrev CLK_SRC : Nat := 0x0184
abbrev CLK_PAIR_CTRL : Nat := 0x0185
abbrev CLK_PAIR_RTC_LO : Nat := 0x0186
abbrev CLK_PAIR_RTC_HI : Nat := 0x0187
abbrev CLK_PAIR_TB_LO : Nat := 0x0188
abbrev CLK_PAIR_TB_HI : Nat := 0x0189
abbrev PWR_RST_CAUSE : Nat := 0x01C0
abbrev TST_KEY : Nat := 0x1F00
abbrev TST_STATUS : Nat := 0x1F01
abbrev TST_LNK : Nat := 0x1F02
abbrev TST_BP : Nat := 0x1F03
abbrev TST_ECC : Nat := 0x1F04
abbrev TST_ENG : Nat := 0x1F05
abbrev TST_DIG : Nat := 0x1F06
abbrev TST_FAULT : Nat := 0x1F07
abbrev SAF_CTRL : Nat := 0x1E00
abbrev SAF_STATUS : Nat := 0x1E01
abbrev SAF_FTI : Nat := 0x1E02
abbrev SAF_FAULT : Nat := 0x1E03
abbrev SAF_FAULT_LOC : Nat := 0x1E04
abbrev SAF_FAULT_TIME_LO : Nat := 0x1E05
abbrev SAF_FAULT_TIME_HI : Nat := 0x1E06
abbrev SAF_FAULT_CNT : Nat := 0x1E07
abbrev SAF_DIG_QMASK (n : Nat) : Nat := 0x1E08 + 1 * n
abbrev SAF_DIG_SMASK_LO : Nat := 0x1E10
abbrev SAF_DIG_SMASK_HI : Nat := 0x1E11
abbrev SAF_DBL_CFG : Nat := 0x1E18
abbrev SAF_DBL_STATUS : Nat := 0x1E19
abbrev SAF_DBL_MATCH : Nat := 0x1E1A
abbrev SAF_DBL_KEY_LO : Nat := 0x1E1B
abbrev SAF_DBL_KEY_HI : Nat := 0x1E1C
abbrev SAF_CHK_CNT : Nat := 0x1E20
abbrev SAF_COV_LO : Nat := 0x1E21
abbrev SAF_COV_HI : Nat := 0x1E22
abbrev SAF_GOLD_BASE_LO : Nat := 0x1E28
abbrev SAF_GOLD_BASE_HI : Nat := 0x1E29
abbrev SAF_GOLD_CFG : Nat := 0x1E2A
abbrev SAF_GOLD_CNT : Nat := 0x1E2B
abbrev SAF_BIST_CFG : Nat := 0x1E30
abbrev SAF_BIST_STAT : Nat := 0x1E31
abbrev SAF_REC_STATUS : Nat := 0x1E38
abbrev SAF_SPARE_STAT : Nat := 0x1E39
abbrev SAF_REC_QMASK (n : Nat) : Nat := 0x1E40 + 1 * n
abbrev SAF_RESET : Nat := 0x1E48
abbrev CTL_ID : Nat := 0x0000
abbrev CTL_ACC_ERR : Nat := 0x0010
abbrev CTL_WIN_BASE_LO : Nat := 0x0020
abbrev CTL_WIN_BASE_HI : Nat := 0x0021
abbrev CTL_PCIE_STAT : Nat := 0x0022
abbrev CTL_EVT_STATUS : Nat := 0x0030
abbrev CTL_EVT_EN : Nat := 0x0031
abbrev CTL_EVT_CFG : Nat := 0x0032
abbrev CTL_EVT_VEC (n : Nat) : Nat := 0x0038 + 1 * n
abbrev CTL_RI_STAT : Nat := 0x0050
abbrev CTL_RI_ADDR : Nat := 0x3700
abbrev CTL_TACC_ERR : Nat := 0x3701
abbrev CTL_TRI_STAT : Nat := 0x3702
abbrev CLK_ALIGN_STATUS : Nat := 0x0180
abbrev CLK_ALIGN_FAIL : Nat := 0x0181
abbrev PWR_AVS_CTRL : Nat := 0x01A0
abbrev PWR_AVS_LIMIT : Nat := 0x01A1
abbrev PWR_AVS_TARGET : Nat := 0x01A2
abbrev PWR_AVS_STATUS : Nat := 0x01A3
abbrev PWR_AVS_RATE : Nat := 0x01A4
abbrev PWR_AVS_HEADROOM : Nat := 0x01A5
abbrev PWR_AVS_THROTTLE : Nat := 0x01A6
abbrev PWR_AVS_MON_CNT (n : Nat) : Nat := 0x01B0 + 1 * n
abbrev PWR_AVS_MON_DL (n : Nat) : Nat := 0x01B8 + 1 * n

end Reg

/-- One line of a register table: the first word address, the distance and number of the registers of a family,
and the masks of the bits a write sets and of the bits a written 1 clears. -/
structure RegRow where
  base : Nat
  stride : Nat
  count : Nat
  rw : Nat
  w1c : Nat
  deriving DecidableEq, Repr

/-- Address `a` is one of the row's registers. -/
def RegRow.holds (r : RegRow) (a : Nat) : Bool :=
  decide (r.base ≤ a) && decide ((a - r.base) % r.stride = 0) && decide ((a - r.base) / r.stride < r.count)

/-- Register rows, part 0, in address order. -/
def regRows0 : List RegRow := [
  ⟨0x0000, 1, 1, 0x00000000, 0x00000000⟩,
  ⟨0x0010, 1, 1, 0x00000000, 0x0000000F⟩,
  ⟨0x0020, 1, 1, 0xFF000000, 0x00000000⟩,
  ⟨0x0021, 1, 1, 0x7FFFFFFF, 0x00000000⟩,
  ⟨0x0022, 1, 1, 0x00000000, 0x00000100⟩,
  ⟨0x0030, 1, 1, 0x00000000, 0x00000000⟩,
  ⟨0x0031, 1, 1, 0x0FFFFFFF, 0x00000000⟩,
  ⟨0x0032, 1, 1, 0x00000001, 0x00000000⟩,
  ⟨0x0038, 1, 7, 0x1F1F1F1F, 0x00000000⟩,
  ⟨0x003F, 1, 1, 0x00000000, 0x00000000⟩,
  ⟨0x0040, 1, 1, 0x00000000, 0x00000000⟩,
  ⟨0x0041, 1, 1, 0x00000000, 0x000010F0⟩,
  ⟨0x0042, 1, 1, 0x00FFFFFF, 0x00000000⟩,
  ⟨0x0043, 1, 1, 0x0000007F, 0x00000000⟩,
  ⟨0x0044, 1, 1, 0x00FFFFFF, 0x00000000⟩,
  ⟨0x0045, 1, 1, 0x000001FF, 0x00000000⟩,
  ⟨0x0046, 1, 1, 0x00FFFFFF, 0x00000000⟩,
  ⟨0x0047, 1, 1, 0x001FFFFF, 0x00000000⟩,
  ⟨0x0048, 1, 1, 0xFFFFFFFF, 0x00000000⟩,
  ⟨0x0049, 1, 1, 0xFFFFFFFF, 0x00000000⟩,
  ⟨0x0050, 1, 1, 0x00000000, 0x00000000⟩,
  ⟨0x0180, 1, 1, 0x00000000, 0x00000000⟩,
  ⟨0x0181, 1, 1, 0x00000000, 0x00000000⟩,
  ⟨0x0182, 1, 1, 0x0000003B, 0x00000000⟩,
  ⟨0x0183, 1, 1, 0x00000000, 0x0000FF00⟩,
  ⟨0x0184, 1, 1, 0x0043FBFF, 0x00000000⟩,
  ⟨0x0185, 1, 1, 0x00000000, 0x00000000⟩,
  ⟨0x0186, 1, 1, 0x00000000, 0x00000000⟩,
  ⟨0x0187, 1, 1, 0x00000000, 0x00000000⟩,
  ⟨0x0188, 1, 1, 0x00000000, 0x00000000⟩,
  ⟨0x0189, 1, 1, 0x00000000, 0x00000000⟩]

/-- Register rows, part 1, in address order. -/
def regRows1 : List RegRow := [
  ⟨0x01A0, 1, 1, 0x03FF0003, 0x00000000⟩,
  ⟨0x01A1, 1, 1, 0x03FF03FF, 0x00000000⟩,
  ⟨0x01A2, 1, 1, 0x03FF03FF, 0x00000000⟩,
  ⟨0x01A3, 1, 1, 0x00000000, 0x0000FF39⟩,
  ⟨0x01A4, 1, 1, 0x00000000, 0x00000000⟩,
  ⟨0x01A5, 1, 1, 0x00000000, 0x00000000⟩,
  ⟨0x01A6, 1, 1, 0x03FFFFFF, 0x00000000⟩,
  ⟨0x01B0, 1, 8, 0x8FFF0FFF, 0x00000000⟩,
  ⟨0x01B8, 1, 8, 0x000FFFFF, 0x00000000⟩,
  ⟨0x01C0, 1, 1, 0x00000000, 0x00000000⟩,
  ⟨0x0400, 1, 1, 0x00000000, 0x00000003⟩,
  ⟨0x0401, 1, 1, 0x00000000, 0x00000000⟩,
  ⟨0x0402, 1, 1, 0x00000000, 0x00000000⟩,
  ⟨0x0403, 1, 1, 0x00000000, 0x00000000⟩,
  ⟨0x0404, 1, 1, 0x00000000, 0x80000000⟩,
  ⟨0x0405, 1, 1, 0x00000000, 0x00000000⟩,
  ⟨0x0406, 1, 1, 0x00000000, 0x00000000⟩,
  ⟨0x0407, 1, 1, 0x00000000, 0x00000000⟩,
  ⟨0x0408, 1, 1, 0x00000000, 0x00000000⟩,
  ⟨0x0500, 8, 32, 0x0000003F, 0x00000000⟩,
  ⟨0x0501, 8, 32, 0x00000000, 0x00000000⟩,
  ⟨0x0502, 8, 32, 0x00000000, 0x00000000⟩,
  ⟨0x0503, 8, 32, 0x00000000, 0x00000000⟩,
  ⟨0x0504, 8, 32, 0x00000000, 0x00000000⟩,
  ⟨0x0505, 8, 32, 0x00000000, 0x00000000⟩,
  ⟨0x0506, 8, 32, 0x00000000, 0x00000000⟩,
  ⟨0x0507, 8, 32, 0x0FFFFFFF, 0x00000000⟩,
  ⟨0x0600, 1, 1, 0x00000000, 0x00000000⟩,
  ⟨0x0601, 1, 1, 0x00000000, 0x00000000⟩,
  ⟨0x0602, 1, 1, 0x00000000, 0x00000000⟩]

/-- Register rows, part 2, in address order. -/
def regRows2 : List RegRow := [
  ⟨0x0603, 1, 1, 0x00000000, 0x00000000⟩,
  ⟨0x0604, 1, 1, 0x00000000, 0x00000000⟩,
  ⟨0x0605, 1, 1, 0x00000000, 0x00000000⟩,
  ⟨0x0606, 1, 1, 0x00000000, 0x00000000⟩,
  ⟨0x0607, 1, 1, 0x00000000, 0x00000000⟩,
  ⟨0x0608, 1, 1, 0x00000000, 0xFFFFFFFF⟩,
  ⟨0x0800, 1, 1, 0x00000000, 0x00000000⟩,
  ⟨0x0801, 1, 1, 0x00000000, 0x00000001⟩,
  ⟨0x0802, 1, 1, 0x0000FFFF, 0x00000000⟩,
  ⟨0x0803, 1, 1, 0x00000000, 0x00000003⟩,
  ⟨0x0804, 1, 1, 0x00000000, 0x00000000⟩,
  ⟨0x0805, 1, 1, 0x00000000, 0x00000000⟩,
  ⟨0x0806, 1, 1, 0x00000000, 0x00000000⟩,
  ⟨0x0807, 1, 1, 0x00000000, 0x00000000⟩,
  ⟨0x0808, 1, 1, 0x00003F3F, 0x00000000⟩,
  ⟨0x0809, 1, 4, 0x00000000, 0x00000000⟩,
  ⟨0x0900, 1, 256, 0x00007F03, 0x00000000⟩,
  ⟨0x0A00, 1, 256, 0x00000000, 0x00000000⟩,
  ⟨0x0B00, 1, 64, 0x00000000, 0x00000000⟩,
  ⟨0x0B40, 1, 16, 0x00000000, 0x00000000⟩,
  ⟨0x0B80, 1, 64, 0x00000000, 0x00000000⟩,
  ⟨0x0C00, 1, 256, 0x00000000, 0x00000000⟩,
  ⟨0x1000, 1, 1, 0x00000337, 0x00000000⟩,
  ⟨0x1002, 1, 1, 0x00000000, 0x00000440⟩,
  ⟨0x1004, 1, 1, 0x00000000, 0x00000003⟩,
  ⟨0x1005, 1, 1, 0x00000000, 0x00000000⟩,
  ⟨0x1006, 1, 1, 0x00000000, 0x00000000⟩,
  ⟨0x1007, 1, 1, 0x00000000, 0x00000000⟩,
  ⟨0x1008, 1, 1, 0x000083FF, 0x00010000⟩,
  ⟨0x100C, 1, 1, 0x00000000, 0x00000003⟩]

/-- Register rows, part 3, in address order. -/
def regRows3 : List RegRow := [
  ⟨0x100D, 1, 1, 0x00000000, 0x00000000⟩,
  ⟨0x100E, 1, 1, 0x00000000, 0x00000000⟩,
  ⟨0x1010, 1, 1, 0x00000000, 0x00000000⟩,
  ⟨0x1011, 1, 1, 0x00000000, 0x00000000⟩,
  ⟨0x1012, 1, 1, 0x00000000, 0x00000000⟩,
  ⟨0x1013, 1, 1, 0x00000000, 0x00000000⟩,
  ⟨0x1014, 1, 1, 0x00000000, 0x00000000⟩,
  ⟨0x1015, 1, 1, 0x00000000, 0x00000000⟩,
  ⟨0x1100, 8, 4, 0x00000000, 0x00000004⟩,
  ⟨0x1101, 8, 4, 0x00000000, 0x00000000⟩,
  ⟨0x1102, 8, 4, 0x00000000, 0x00000000⟩,
  ⟨0x1103, 8, 4, 0x00000000, 0x00000000⟩,
  ⟨0x1104, 8, 4, 0x00000000, 0x00000000⟩,
  ⟨0x1120, 1, 1, 0x00000000, 0x00000000⟩,
  ⟨0x1400, 1, 1, 0x0000FFFF, 0x00000000⟩,
  ⟨0x1401, 1, 1, 0x00000000, 0x00000000⟩,
  ⟨0x1402, 1, 1, 0x00000000, 0x00000000⟩,
  ⟨0x1403, 1, 1, 0x00000000, 0x00000000⟩,
  ⟨0x1404, 1, 1, 0x00000000, 0x00000000⟩,
  ⟨0x1405, 1, 1, 0x00000000, 0x00000000⟩,
  ⟨0x1406, 1, 1, 0xFFFFFFFF, 0x00000000⟩,
  ⟨0x1407, 1, 1, 0x0000FFFF, 0x00000000⟩,
  ⟨0x1408, 1, 1, 0xFFFFFFFF, 0x00000000⟩,
  ⟨0x1409, 1, 1, 0x0000FFFF, 0x00000000⟩,
  ⟨0x1410, 2, 16, 0x00000000, 0x00000000⟩,
  ⟨0x1411, 2, 16, 0x00000000, 0x00000000⟩,
  ⟨0x1440, 1, 1, 0x00000000, 0x00000003⟩,
  ⟨0x1441, 1, 1, 0x00000000, 0x00000000⟩,
  ⟨0x1442, 1, 1, 0x00000000, 0x00000000⟩,
  ⟨0x1443, 1, 1, 0x00000000, 0x00000000⟩]

/-- Register rows, part 4, in address order. -/
def regRows4 : List RegRow := [
  ⟨0x1448, 1, 1, 0x00000000, 0x00000003⟩,
  ⟨0x1450, 1, 1, 0x00000000, 0x00000001⟩,
  ⟨0x1451, 1, 1, 0x00000000, 0x00000000⟩,
  ⟨0x1458, 1, 1, 0x00000000, 0x00000000⟩,
  ⟨0x1459, 1, 1, 0x00000000, 0x00000006⟩,
  ⟨0x145A, 1, 1, 0xFFFFFFFF, 0x00000000⟩,
  ⟨0x145B, 1, 1, 0xFFFFFFFF, 0x00000000⟩,
  ⟨0x1460, 1, 1, 0x00000000, 0x00000000⟩,
  ⟨0x1461, 1, 1, 0xFFFFFFFF, 0x00000000⟩,
  ⟨0x1468, 1, 1, 0x00000000, 0x00000000⟩,
  ⟨0x1800, 1, 1, 0x00000000, 0x00000000⟩,
  ⟨0x1801, 1, 1, 0x00000000, 0x00000001⟩,
  ⟨0x1802, 1, 1, 0x00000000, 0x00000000⟩,
  ⟨0x1803, 1, 1, 0x00000000, 0x00000000⟩,
  ⟨0x1804, 1, 1, 0x00000000, 0xFFFFFFFF⟩,
  ⟨0x1805, 1, 1, 0x00000000, 0xFFFFFFFF⟩,
  ⟨0x1840, 4, 64, 0x00000000, 0x00000000⟩,
  ⟨0x1841, 4, 64, 0x00000000, 0x00000000⟩,
  ⟨0x1842, 4, 64, 0x00000000, 0x00000000⟩,
  ⟨0x1843, 4, 64, 0x00000000, 0x00000000⟩,
  ⟨0x1980, 2, 8, 0x00000013, 0x00000000⟩,
  ⟨0x1981, 2, 8, 0x00000000, 0x00000000⟩,
  ⟨0x1990, 8, 2, 0x00FFFF01, 0x00000000⟩,
  ⟨0x1991, 8, 2, 0x00000000, 0x00000000⟩,
  ⟨0x1992, 8, 2, 0x00000000, 0x00000000⟩,
  ⟨0x1993, 8, 2, 0x00000000, 0x00000000⟩,
  ⟨0x19C0, 8, 2, 0x0000000F, 0x00000000⟩,
  ⟨0x19C1, 8, 2, 0x7F7FFFFF, 0x00000000⟩,
  ⟨0x19C2, 8, 2, 0x0F0F1F1F, 0x00000000⟩,
  ⟨0x19C3, 8, 2, 0x00000000, 0x01000000⟩]

/-- Register rows, part 5, in address order. -/
def regRows5 : List RegRow := [
  ⟨0x19C4, 8, 2, 0x00000000, 0x00000000⟩,
  ⟨0x1A00, 4, 4, 0xFFFFFFFF, 0x00000000⟩,
  ⟨0x1A01, 4, 4, 0xFFFFFFFF, 0x00000000⟩,
  ⟨0x1A02, 4, 4, 0x8FFFFFFF, 0x00000000⟩,
  ⟨0x1C00, 1, 1, 0x00000000, 0x00000000⟩,
  ⟨0x1C01, 1, 1, 0x00000000, 0x00000000⟩,
  ⟨0x1C04, 1, 1, 0x00000000, 0x00000000⟩,
  ⟨0x1C05, 1, 1, 0x00000000, 0x00000000⟩,
  ⟨0x1C06, 1, 1, 0x00000000, 0x00000000⟩,
  ⟨0x1C07, 1, 1, 0x00000000, 0x00000000⟩,
  ⟨0x1C08, 1, 1, 0x3FFFFFFF, 0x00000000⟩,
  ⟨0x1C09, 1, 1, 0xFFFFFFFF, 0x00000000⟩,
  ⟨0x1C0A, 1, 1, 0xFFFFFFFF, 0x00000000⟩,
  ⟨0x1C0C, 1, 1, 0xFFFFFFFF, 0x00000000⟩,
  ⟨0x1C0D, 1, 1, 0xFFFFFFFF, 0x00000000⟩,
  ⟨0x1C0E, 1, 1, 0xFFFFFFFF, 0x00000000⟩,
  ⟨0x1C0F, 1, 1, 0x00000000, 0x00000000⟩,
  ⟨0x1C10, 1, 1, 0x00000000, 0x00000000⟩,
  ⟨0x1C11, 1, 1, 0x007FFFFF, 0x00000000⟩,
  ⟨0x1C12, 1, 1, 0xFFFFFFFF, 0x00000000⟩,
  ⟨0x1C13, 1, 1, 0x00000000, 0x0000008C⟩,
  ⟨0x1C20, 1, 16, 0x8FFFFF03, 0x00000000⟩,
  ⟨0x1C30, 1, 1, 0x0000000F, 0x00000000⟩,
  ⟨0x1C31, 1, 1, 0x00000000, 0x00000000⟩,
  ⟨0x1C32, 1, 1, 0x00000000, 0x00000000⟩,
  ⟨0x1C33, 1, 1, 0x00000000, 0xFFFF0000⟩,
  ⟨0x1C40, 1, 1, 0x00000000, 0xFFFFFFFF⟩,
  ⟨0x1D00, 8, 32, 0x3FFFFFFF, 0x00000000⟩,
  ⟨0x1D01, 8, 32, 0xFFFFFFFF, 0x00000000⟩,
  ⟨0x1D02, 8, 32, 0xFFFFFFFF, 0x00000000⟩]

/-- Register rows, part 6, in address order. -/
def regRows6 : List RegRow := [
  ⟨0x1D03, 8, 32, 0xFF3FFFF7, 0x00000000⟩,
  ⟨0x1D04, 8, 32, 0xFFFFFFFF, 0x00000000⟩,
  ⟨0x1D05, 8, 32, 0x00000000, 0x00000003⟩,
  ⟨0x1D06, 8, 32, 0x00000000, 0x00000000⟩,
  ⟨0x1D07, 8, 32, 0x00000000, 0x00000000⟩,
  ⟨0x1E00, 1, 1, 0x0000007F, 0x00000000⟩,
  ⟨0x1E01, 1, 1, 0x00000000, 0x00000002⟩,
  ⟨0x1E02, 1, 1, 0x0000007F, 0x00000000⟩,
  ⟨0x1E03, 1, 1, 0x00000000, 0x00000003⟩,
  ⟨0x1E04, 1, 1, 0x00000000, 0x00000000⟩,
  ⟨0x1E05, 1, 1, 0x00000000, 0x00000000⟩,
  ⟨0x1E06, 1, 1, 0x00000000, 0x00000000⟩,
  ⟨0x1E07, 1, 1, 0x00000000, 0x00000000⟩,
  ⟨0x1E08, 1, 8, 0xFFFFFFFF, 0x00000000⟩,
  ⟨0x1E10, 1, 1, 0xFFFFFFFF, 0x00000000⟩,
  ⟨0x1E11, 1, 1, 0xFFFFFFFF, 0x00000000⟩,
  ⟨0x1E18, 1, 1, 0x0000037F, 0x00000000⟩,
  ⟨0x1E19, 1, 1, 0x00000000, 0x00000000⟩,
  ⟨0x1E1A, 1, 1, 0x00000000, 0x00000000⟩,
  ⟨0x1E1B, 1, 1, 0x00000000, 0x00000000⟩,
  ⟨0x1E1C, 1, 1, 0x00000000, 0x00000000⟩,
  ⟨0x1E20, 1, 1, 0x00000000, 0x00000000⟩,
  ⟨0x1E21, 1, 1, 0x00000000, 0x00000000⟩,
  ⟨0x1E22, 1, 1, 0x00000000, 0x00000000⟩,
  ⟨0x1E28, 1, 1, 0xFFFFFFFF, 0x00000000⟩,
  ⟨0x1E29, 1, 1, 0xFFFFFFFF, 0x00000000⟩,
  ⟨0x1E2A, 1, 1, 0x0000011F, 0x00000000⟩,
  ⟨0x1E2B, 1, 1, 0x00000000, 0x00000000⟩,
  ⟨0x1E30, 1, 1, 0x000003FF, 0x00000000⟩,
  ⟨0x1E31, 1, 1, 0x00000000, 0x00000000⟩]

/-- Register rows, part 7, in address order. -/
def regRows7 : List RegRow := [
  ⟨0x1E38, 1, 1, 0x00000000, 0x00000000⟩,
  ⟨0x1E39, 1, 1, 0x00000000, 0x00000000⟩,
  ⟨0x1E40, 1, 8, 0x00000000, 0x00000000⟩,
  ⟨0x1E48, 1, 1, 0x00000000, 0x00000000⟩,
  ⟨0x1F00, 1, 1, 0x00000000, 0x00000000⟩,
  ⟨0x1F01, 1, 1, 0x00000000, 0x00000000⟩,
  ⟨0x1F02, 1, 1, 0x83FFFFFF, 0x00000000⟩,
  ⟨0x1F03, 1, 1, 0x800007FF, 0x00000000⟩,
  ⟨0x1F04, 1, 1, 0x8000FFFF, 0x00000000⟩,
  ⟨0x1F05, 1, 1, 0x800FFFFF, 0x00000000⟩,
  ⟨0x1F06, 1, 1, 0x80000000, 0x00000000⟩,
  ⟨0x1F07, 1, 1, 0x00000000, 0x00000000⟩,
  ⟨0x2000, 1, 4096, 0x00000000, 0x00000000⟩,
  ⟨0x3000, 1, 1, 0x00000003, 0x00000000⟩,
  ⟨0x3001, 1, 1, 0x00000000, 0x00000014⟩,
  ⟨0x3002, 1, 1, 0x00000000, 0x00000000⟩,
  ⟨0x3004, 1, 1, 0x0000FF3F, 0x00000000⟩,
  ⟨0x3008, 1, 4, 0x000000FF, 0x00000000⟩,
  ⟨0x300C, 1, 4, 0x00000000, 0x000F0000⟩,
  ⟨0x3010, 1, 4, 0x00000000, 0x00000000⟩,
  ⟨0x3014, 1, 1, 0x0000FFF3, 0x00000000⟩,
  ⟨0x3016, 1, 1, 0x00000000, 0x00000000⟩,
  ⟨0x3017, 1, 1, 0x00000000, 0x00000000⟩,
  ⟨0x3020, 2, 16, 0x3FFFFFFF, 0x00000000⟩,
  ⟨0x3021, 2, 16, 0xFFFFFFFF, 0x00000000⟩,
  ⟨0x3040, 1, 1, 0x0000FFFF, 0x00000000⟩,
  ⟨0x3041, 1, 1, 0x00000000, 0x00000000⟩,
  ⟨0x3050, 4, 16, 0x00000000, 0x00000000⟩,
  ⟨0x3051, 4, 16, 0x00000000, 0x00000000⟩,
  ⟨0x3052, 4, 16, 0x00000000, 0x00000000⟩]

/-- Register rows, part 8, in address order. -/
def regRows8 : List RegRow := [
  ⟨0x3090, 4, 4, 0x80FF01FF, 0x00000000⟩,
  ⟨0x3091, 4, 4, 0x00000000, 0x00000000⟩,
  ⟨0x3092, 4, 4, 0x00000000, 0x00000000⟩,
  ⟨0x3093, 4, 4, 0x00000000, 0x00000000⟩,
  ⟨0x30A0, 1, 4, 0x00000000, 0x00000000⟩,
  ⟨0x30A8, 1, 1, 0x0000FF07, 0x00000000⟩,
  ⟨0x30B0, 4, 8, 0x00000FFF, 0x00000000⟩,
  ⟨0x30B1, 4, 8, 0xFFFFFFFF, 0x00000000⟩,
  ⟨0x30B2, 4, 8, 0xFFFFFFFF, 0x00000000⟩,
  ⟨0x30B3, 4, 8, 0x0000FFFF, 0x00000000⟩,
  ⟨0x30D0, 1, 1, 0x00000000, 0x00000000⟩,
  ⟨0x30D1, 1, 1, 0x00000000, 0x00000000⟩,
  ⟨0x30E0, 1, 1, 0x00000000, 0x00000000⟩,
  ⟨0x30E1, 1, 1, 0x00000000, 0x00000000⟩,
  ⟨0x30E2, 1, 1, 0x00000000, 0x00000000⟩,
  ⟨0x30E4, 1, 1, 0x00000000, 0x00000000⟩,
  ⟨0x30E5, 1, 1, 0x00000000, 0x00000000⟩,
  ⟨0x30E8, 4, 2, 0x00000000, 0x00000000⟩,
  ⟨0x30E9, 4, 2, 0x00000000, 0x00000000⟩,
  ⟨0x30EA, 4, 2, 0x00000000, 0x00000000⟩,
  ⟨0x30F0, 1, 1, 0x00000000, 0x00000000⟩,
  ⟨0x30F1, 1, 1, 0xFFFFFFFF, 0x00000000⟩,
  ⟨0x30F2, 1, 1, 0x00000000, 0x00000000⟩,
  ⟨0x30F4, 1, 1, 0x00000000, 0x00000000⟩,
  ⟨0x30F5, 1, 1, 0x00000000, 0x00000000⟩,
  ⟨0x3100, 1, 256, 0x00000000, 0x00000000⟩,
  ⟨0x3200, 1, 256, 0xFFFFFFFF, 0x00000000⟩,
  ⟨0x3300, 1, 64, 0x00000000, 0x00000000⟩,
  ⟨0x3340, 1, 16, 0x00000000, 0x00000000⟩,
  ⟨0x3350, 1, 16, 0x00000000, 0x00000000⟩]

/-- Register rows, part 9, in address order. -/
def regRows9 : List RegRow := [
  ⟨0x3400, 1, 1, 0x00000007, 0x00000000⟩,
  ⟨0x3401, 1, 1, 0x00000000, 0x00000015⟩,
  ⟨0x3402, 1, 1, 0x00000000, 0x00000000⟩,
  ⟨0x3403, 1, 1, 0x00000000, 0x00000000⟩,
  ⟨0x3404, 1, 1, 0x00000000, 0x00000000⟩,
  ⟨0x3405, 1, 1, 0x00F3FFFF, 0x00000000⟩,
  ⟨0x3406, 1, 1, 0x0003FFFF, 0x00000000⟩,
  ⟨0x3407, 1, 1, 0xFFFFFFFF, 0x00000000⟩,
  ⟨0x3408, 1, 1, 0x0FFF7F7F, 0x00000000⟩,
  ⟨0x3409, 1, 1, 0x00FFFF7F, 0x00000000⟩,
  ⟨0x340A, 1, 1, 0x0000FFFF, 0x00000000⟩,
  ⟨0x340B, 1, 1, 0x000107FF, 0x00000000⟩,
  ⟨0x340C, 1, 1, 0xFFFFFFFF, 0x00000000⟩,
  ⟨0x340D, 1, 1, 0x000000FF, 0x00000000⟩,
  ⟨0x340E, 1, 1, 0x00000000, 0x00000000⟩,
  ⟨0x340F, 1, 1, 0x00000000, 0x00000000⟩,
  ⟨0x3410, 1, 5, 0xFFFFFFFF, 0x00000000⟩,
  ⟨0x3420, 1, 32, 0x80FFFFFF, 0x00000000⟩,
  ⟨0x3440, 2, 16, 0x000007FF, 0x00000000⟩,
  ⟨0x3441, 2, 16, 0x0000FFFF, 0x00000000⟩,
  ⟨0x3460, 1, 1, 0x000003FF, 0x00000000⟩,
  ⟨0x3461, 1, 1, 0x00009FFF, 0x00000000⟩,
  ⟨0x3462, 1, 1, 0x0003FFFF, 0x00000000⟩,
  ⟨0x3463, 1, 1, 0x00007FFF, 0x00000000⟩,
  ⟨0x3464, 1, 1, 0x0000FFFF, 0x00000000⟩,
  ⟨0x3470, 1, 1, 0x00000000, 0x00000000⟩,
  ⟨0x3471, 1, 1, 0xFFFFFFFF, 0x00000000⟩,
  ⟨0x3472, 1, 1, 0x00000000, 0x00000000⟩,
  ⟨0x3480, 1, 16, 0x00000000, 0x00000000⟩,
  ⟨0x3500, 1, 1, 0x00000000, 0x00000010⟩]

/-- Register rows, part 10, in address order. -/
def regRows10 : List RegRow := [
  ⟨0x3501, 1, 1, 0x00000000, 0x00000000⟩,
  ⟨0x3502, 1, 1, 0x00000000, 0x00000000⟩,
  ⟨0x3503, 1, 1, 0x00000000, 0x00000000⟩,
  ⟨0x3504, 1, 1, 0x00000000, 0x00000000⟩,
  ⟨0x3505, 1, 1, 0x00000000, 0x00000000⟩,
  ⟨0x3506, 1, 1, 0x00000000, 0x00000000⟩,
  ⟨0x3600, 1, 1, 0x00000000, 0x00000000⟩,
  ⟨0x3601, 1, 1, 0x00000000, 0x00000000⟩,
  ⟨0x3602, 1, 1, 0xFFFFFFFF, 0x00000000⟩,
  ⟨0x3603, 1, 1, 0x0000FFFF, 0x00000000⟩,
  ⟨0x3604, 1, 1, 0x00000735, 0x00000000⟩,
  ⟨0x3605, 1, 1, 0x00000000, 0x00000000⟩,
  ⟨0x3606, 1, 1, 0x00000000, 0x00000000⟩,
  ⟨0x3607, 1, 1, 0x00000000, 0x00000000⟩,
  ⟨0x3608, 1, 1, 0x00000000, 0x00000000⟩,
  ⟨0x3609, 1, 1, 0x000001FF, 0x00000000⟩,
  ⟨0x360A, 1, 1, 0x00000000, 0x0000000F⟩,
  ⟨0x3610, 1, 1, 0x00000000, 0x00000000⟩,
  ⟨0x3611, 1, 1, 0x00000000, 0x00000000⟩,
  ⟨0x3612, 1, 1, 0xFFFFFFFF, 0x00000000⟩,
  ⟨0x3613, 1, 1, 0xFFFFFFFF, 0x00000000⟩,
  ⟨0x3614, 1, 1, 0xFFFFFFFF, 0x00000000⟩,
  ⟨0x3615, 1, 1, 0xFFFFFFFF, 0x00000000⟩,
  ⟨0x3616, 1, 1, 0x00000003, 0x0000000C⟩,
  ⟨0x3700, 1, 1, 0x00000000, 0x00000000⟩,
  ⟨0x3701, 1, 1, 0x00000000, 0x0000000F⟩,
  ⟨0x3702, 1, 1, 0x00000000, 0x00000000⟩]

/-- Every implemented register (R7). -/
def regRows : List RegRow :=
  regRows0 ++ regRows1 ++ regRows2 ++ regRows3 ++ regRows4 ++ regRows5 ++ regRows6 ++ regRows7 ++ regRows8 ++ regRows9 ++ regRows10

/-- The row of a word address; none where no register is implemented (R8). -/
def regRow? (a : Nat) : Option RegRow := regRows.find? (fun r => r.holds a)

/-- The register is held on the Bruore tile (R7, R24): every tile register table lies from 0x3000 up. -/
def isTileReg (a : Nat) : Bool := decide (0x3000 ≤ a)

/-- The Reset column of the main dies, where it is not 0 (every other register resets to 0). -/
def mainResets : List (Nat × Word) := [
  (0x0000, 0x00B09160#32), (0x0184, 0x00380000#32), (0x01A0, 0x03200000#32), (0x01A1, 0x038402D0#32),
  (0x01A2, 0x00320064#32), (0x01A3, 0x03200000#32), (0x01A6, 0x02F86469#32), (0x01C0, 0x00000001#32),
  (0x0500, 0x00000010#32), (0x0508, 0x00000010#32), (0x0510, 0x00000010#32), (0x0518, 0x00000010#32),
  (0x0520, 0x00000010#32), (0x0528, 0x00000010#32), (0x0530, 0x00000010#32), (0x0538, 0x00000010#32),
  (0x0540, 0x00000010#32), (0x0548, 0x00000010#32), (0x0550, 0x00000010#32), (0x0558, 0x00000010#32),
  (0x0560, 0x00000010#32), (0x0568, 0x00000010#32), (0x0570, 0x00000010#32), (0x0578, 0x00000010#32),
  (0x0580, 0x00000010#32), (0x0588, 0x00000010#32), (0x0590, 0x00000010#32), (0x0598, 0x00000010#32),
  (0x05A0, 0x00000010#32), (0x05A8, 0x00000010#32), (0x05B0, 0x00000010#32), (0x05B8, 0x00000010#32),
  (0x05C0, 0x00000010#32), (0x05C8, 0x00000010#32), (0x05D0, 0x00000010#32), (0x05D8, 0x00000010#32),
  (0x05E0, 0x00000010#32), (0x05E8, 0x00000010#32), (0x05F0, 0x00000010#32), (0x05F8, 0x00000010#32),
  (0x0802, 0x000003E8#32), (0x1000, 0x00000320#32), (0x1008, 0x00008064#32), (0x1980, 0x00000002#32),
  (0x1982, 0x00000002#32), (0x1984, 0x00000002#32), (0x1986, 0x00000002#32), (0x1988, 0x00000002#32),
  (0x198A, 0x00000002#32), (0x198C, 0x00000002#32), (0x198E, 0x00000002#32), (0x1C11, 0x00418937#32),
  (0x1C12, 0x000F4240#32), (0x1E00, 0x00000070#32), (0x1E02, 0x00000064#32), (0x1E18, 0x0000000A#32),
  (0x1E30, 0x00000064#32)]

/-- The Reset column of the Bruore tile, where it is not 0. -/
def tileResets : List (Nat × Word) := [
  (0x3004, 0x00000004#32), (0x3405, 0x00F20032#32), (0x3406, 0x00002040#32), (0x3407, 0x02580100#32),
  (0x3408, 0x06480C10#32), (0x3409, 0x00200018#32), (0x340A, 0x0000ACE1#32), (0x340C, 0x01000200#32),
  (0x340D, 0x00000031#32), (0x3441, 0x00000040#32), (0x3443, 0x00000040#32), (0x3445, 0x00000040#32),
  (0x3447, 0x00000040#32), (0x3449, 0x00000040#32), (0x344B, 0x00000040#32), (0x344D, 0x00000040#32),
  (0x344F, 0x00000040#32), (0x3451, 0x00000040#32), (0x3453, 0x00000040#32), (0x3455, 0x00000040#32),
  (0x3457, 0x00000040#32), (0x3459, 0x00000040#32), (0x345B, 0x00000040#32), (0x345D, 0x00000040#32),
  (0x345F, 0x00000040#32), (0x3603, 0x00000701#32), (0x3609, 0x000001C0#32)]

/-- Main-die registers whose value survives warm reset (RWS, R12, R185): the substitution maps and SAF_SPARE_STAT. -/
def isRws (a : Nat) : Bool :=
  (decide (0x0B00 ≤ a) && decide (a < 0x0B50)) || decide (a = Reg.SAF_SPARE_STAT)

end Sys2Proof.Machine
end

