-- ==== Sys2Proof/Machine/State.lean ====
section
/-! DEFINITION. The machine's state, as plain data. Registers that the manual numbers live in one register file
keyed by word address; everything else the manual names (root tables, contexts, scoreboards, counters, huddle nodes,
streams, FIFOs, engines, the tile's rings and cells, the power controller, ...) is a typed field of a part of `State`. -/

namespace Sys2Proof.Machine

/-- Why a step can stop with a fault. No command of this model does: every outcome the manual describes is a next
state. Closed and named for the host's interface. -/
inductive Fault where
  /-- Raised by no command (safe: a stop proves nothing false). -/
  | neverRaised
  deriving DecidableEq, Repr

/-- Why a command has no meaning. -/
inductive Refusal where
  /-- The command is not modelled yet (safe). Raised by exec's arms only. -/
  | notModelled (mnemonic : String)
  deriving DecidableEq, Repr

/-! ### Root tables (R28 to R35) -/

/-- A root table: the snapshot of the commit that is loading or in force (R31) and, for the SDT and the QDT, the
64-byte entries cached at the load (R35), each as a 512-bit little-endian number. -/
structure Table where
  base : Nat := 0
  count : Nat := 0
  /-- A load is in progress (R33). -/
  loading : Bool := false
  entries : List Nat := []
  deriving DecidableEq, Repr

/-- The four root tables. -/
structure Roots where
  sdt : Table := {}
  qdt : Table := {}
  sot : Table := {}
  tdt : Table := {}
  deriving DecidableEq, Repr

/-- One wide value (R14) on one access path: the shadow of the higher words latched by the last read of the lowest word
(none before one), the lower words written since the path's last commit, and what a lower word not written since
commits with (the value at the path's last commit; none before one). -/
structure WideSide where
  latched : Option (List Word) := none
  staged : List (Option Word) := []
  last : Option (List Word) := none
  deriving DecidableEq, Repr

/-! ### Alignment and adaptive voltage (R52 to R75) -/

/-- One direction of a crossing's 8-entry FIFO (R51): its write and read pointers, and the entries that its writer may
still write. All 0 while the pointers are held, until an alignment sets the start values (R52). -/
structure XFifo where
  wptr : Nat := 0
  rptr : Nat := 0
  credit : Nat := 0
  deriving DecidableEq, Repr

/-- A crossing: its FIFO from the fabric to the clocked domain, and the one back. -/
structure Crossing where
  toDomain : XFifo := {}
  toFabric : XFifo := {}
  deriving DecidableEq, Repr

/-- The reset and alignment state of the crossings (R51 to R54). -/
structure AlignState where
  /-- The C-dies and the H-die are in reset: from a reset to the start of the next alignment. -/
  inReset : Bool := true
  /-- The reset is held, by the supplies or by PERST# (R441, R543). -/
  line : Bool := true
  /-- Crossings whose marker is awaited, as (domain, second crossing of a die-link domain). -/
  waiting : List (Nat × Bool) := []
  /-- Domains whose block is held in reset after a failed alignment (R54). -/
  held : List Nat := []
  /-- The crossings' FIFOs: domain d at key 2 d, the second crossing of a die-link domain at 2 d + 1. -/
  fifos : SMap Crossing := []
  /-- A reset other than a warm one has been taken since the last reset release: the substitution state is to be restored
  from the tile's copy (R12, R186). -/
  restore : Bool := true
  deriving DecidableEq, Repr

/-- An open case of a deadline monitor: each ring's token count and the µs count at its start (R58). -/
structure MonCase where
  tokens : List Nat
  us : Nat
  deriving DecidableEq, Repr

/-- One deadline monitor (R58, R59). -/
structure Monitor where
  /-- Oldest first, at most 4. -/
  opened : List MonCase := []
  w : Option Nat := none
  /-- Rate in Mtok/s of the update at which the monitor was enabled; none until that update. -/
  rAtEnable : Option Nat := none
  deriving DecidableEq, Repr

/-- The adaptive voltage loop. -/
structure Avs where
  /-- VDD_C target in mV (v of R59). -/
  target : Nat := 800
  /-- Tokens each replica ring has counted, and the microseconds measured. -/
  rings : List Nat := []
  us : Nat := 0
  /-- The AVSBus write in progress: its target in mV and the retries made (R66). -/
  bus : Option (Nat × Nat) := none
  /-- No voltage write until the driver sets loop_en again (R66). -/
  blocked : Bool := false
  monitors : SMap Monitor := []
  deriving DecidableEq, Repr

/-! ### Operators, scheduler and scoreboards (R153 to R198, R269 to R294) -/

/-- The context states of R155. -/
inductive CtxMode where
  | idle | ready | issuing | waiting | following | halted | faulted
  deriving DecidableEq, Repr

/-- What the lead of a queue is doing with the entry at its position. -/
inductive LeadPhase where
  /-- The entry has not been fetched. -/
  | needFetch
  /-- The entry is held and stands for its own command. -/
  | holding
  /-- The entry's arrival is applied and the lead waits for the round (R283). -/
  | arrived
  deriving DecidableEq, Repr

/-- One hardware context (R153 to R156, R194, R195). -/
structure Ctx where
  mode : CtxMode := .idle
  lead : Bool := false
  haltPend : Bool := false
  queue : Nat := 0
  /-- Lead: index of the next entry to be admitted. Follower: index of the last forwarded operator admitted. -/
  pos : Nat := 0
  phase : LeadPhase := .needFetch
  /-- The entry held, a 512-bit number, and the entries after it that have been fetched ahead, nearest first (R167). -/
  entry : Nat := 0
  ahead : List Nat := []
  /-- Lead: whether each of the entries before the position was an operator, the nearest first, at most 255 (R284). -/
  hist : List Bool := []
  /-- The QDT entry has been checked at the first fetch after Start (R278). -/
  checked : Bool := false
  /-- The counter and the value the context waits for, and whether its waiter record is registered (R239). -/
  wait : Option (Nat × Nat) := none
  registered : Bool := false
  deriving DecidableEq, Repr

/-- One scoreboard entry (R160). -/
structure SbEntry where
  valid : Bool := false
  ctx : Nat := 0
  /-- State code of R160. -/
  state : Nat := 0
  fwd : Bool := false
  engMask : Nat := 0
  /-- u_load, u_rr, u_vec, u_red, u_store in bits 0 to 4. -/
  units : Nat := 0
  dep0 : Option Nat := none
  dep1 : Option Nat := none
  queue : Nat := 0
  /-- Index of the operator's entry (48 bits; the entry's field holds bits [23:0]). -/
  entry : Nat := 0
  age : Nat := 0
  rowsDone : Nat := 0
  /-- Watchdog: µs for which the scans have seen this state and rows_done unchanged, and what they saw (R183). -/
  stuckUs : Nat := 0
  seen : Option (Nat × Nat) := none
  deriving DecidableEq, Repr

/-- Where an operator's part on one core stands. -/
inductive PartPhase where
  /-- Forwarded by the lead, not yet at the follower. -/
  | sent
  /-- At the follower, awaiting admission. -/
  | arrived
  /-- Admitted, in this scoreboard entry. -/
  | admitted (idx : Nat)
  /-- Retired on its core, not yet reported to the lead. -/
  | retired
  /-- Known to the lead to have retired. -/
  | reported
  deriving DecidableEq, Repr

/-- An operator's part on one core of its group. -/
structure OpPart where
  core : Nat
  phase : PartPhase
  /-- Every unit of the part has finished and its writes are acknowledged. -/
  finished : Bool := false
  /-- Operators whose rows are divided over the cores (R561): rows this core has finished, and the blocks or bursts of its
  present row (R171). -/
  rows : Nat := 0
  block : Nat := 0
  deriving DecidableEq, Repr

/-- An operator that its lead has admitted and that has not yet been reported retired on every core of its group: its
entry, the descriptors read at admission (R277), the codebook captured, and its parts. -/
structure Op where
  queue : Nat
  entry : Nat
  /-- Package context of the lead. -/
  lead : Nat
  code : Nat
  /-- The 64 bytes of the entry. -/
  bits : Nat
  /-- The tensor descriptors of the operands; 0 where the slot is not valid. -/
  in0 : Nat := 0
  in1 : Nat := 0
  in2 : Nat := 0
  out : Nat := 0
  acc : Nat := 0
  hasAcc : Bool := false
  codebook : List Int := []
  /-- Entry indices of its predecessors (R162). -/
  preds : List Nat := []
  parts : List OpPart
  /-- Engine operators: output rows written, as tile × rows + row, and the passes each relative engine has finished. -/
  rowsOut : List Nat := []
  passes : SMap Nat := []
  /-- An engine operator or ENCODE_ROW has been issued to its units, once every predecessor has retired: an engine operator
  has captured its codebook (R83). -/
  executed : Bool := false
  /-- Digested (R469), whether a drained accumulator was saturated (R470), the sum of R468 over the rows written, and of rows
  written in part the pieces: row, place in the row, bytes. -/
  digested : Bool := false
  satSeen : Bool := false
  digest : Nat := 0
  pieces : List (Nat × Nat × List Byte) := []
  deriving DecidableEq, Repr

/-- The schedulers of the package. -/
structure Sched where
  ctxs : SMap Ctx := []
  /-- Scoreboard entry i of core n is at key 64 n + i. -/
  sb : SMap SbEntry := []
  /-- Next admission sequence number of each core. -/
  ages : SMap Nat := []
  /-- Per core: the context number that stands first in round-robin order (R165), and SCH_OCCn.high (R198). -/
  rr : SMap Nat := []
  high : SMap Nat := []
  /-- The round-robin pointers at unit inputs (R173): the context number that stands first. -/
  ptr : SMap Nat := []
  /-- Followers' retirements on their way to the lead, oldest first: core, queue, entry (R162). -/
  reports : List (Nat × Nat × Nat) := []
  /-- In admission order. -/
  ops : List Op := []
  deriving DecidableEq, Repr

/-! ### Engines (R113 to R133) -/

/-- A row in the activation buffer (R117): its index, the codes of the engine's slice, the 64-bit words of the buffer that it
takes (the first and their number), and its entry in the scale FIFO (none where the operator uses a broadcast entry). -/
structure BufRow where
  row : Nat
  codes : List Nat
  word : Nat
  words : Nat
  entry : Option Nat
  deriving DecidableEq, Repr

/-- One half of an engine's weight SRAM, its codebook register, and what the activation buffer and the scale FIFO hold for
the operator (queue, entry) that the half serves in this pass: the weight rows loaded (one list of 128 codes or weights per
input channel of the slice), the next row to start, the next row to enter the buffer, the rows in it, oldest first, and a
broadcast entry. An operator that uses both halves is held in half 0, with half 1 marked by `shared`. -/
structure WeightHalf where
  owner : Option (Nat × Nat) := none
  shared : Bool := false
  pass : Nat := 0
  rows : List (List Nat) := []
  codebook : List Int := []
  nextRow : Nat := 0
  fill : Nat := 0
  buf : List BufRow := []
  cast : Option Nat := none
  deriving DecidableEq, Repr

/-- An accumulator with its saturation flag (R109, R110). -/
abbrev Acc := Int × Bool

/-- The row an engine is working on (R126): the half it uses, its index, the entry's zero point and scale, the next channel
of the slice, and in W8A8 the next of its four passes (R122). -/
structure RowRun where
  half : Bool
  row : Nat
  zp : Nat
  scale : Nat
  k : Nat
  pass : Nat := 0
  deriving DecidableEq, Repr

/-- The drain latch: a finished row and whose it is. -/
structure Latched where
  owner : Nat × Nat
  pass : Nat
  row : Nat
  scale : Nat
  accs : List Acc
  deriving DecidableEq, Repr

structure Engine where
  half0 : WeightHalf := {}
  half1 : WeightHalf := {}
  run : Option RowRun := none
  accs : List Acc := []
  /-- W8A8: the lanes' product registers (R122). -/
  prod : List Int := []
  /-- The product table built last: 16 entries, in W4A4 the second table after them (R118, R121). -/
  table : List Int := []
  latch : Option Latched := none
  deriving DecidableEq, Repr

/-- A RAW40 partial waiting in a reduction unit: operator, output tile, row, the relative engine within the tile, the
logical engine it came from, the row's scale. -/
structure Partial where
  owner : Nat × Nat
  tile : Nat
  row : Nat
  rel : Nat
  eng : Nat
  scale : Nat
  accs : List Acc
  deriving DecidableEq, Repr

/-- One lane of a combination: the sum, the engine whose partial was the first to carry the flag, and the engine that
R130 names when no partial carries it. -/
structure CombLane where
  acc : Acc
  byPartial : Option Nat := none
  bySum : Option Nat := none
  deriving DecidableEq, Repr

/-- A combination in progress (R131): the next relative engine and the lanes. -/
structure Combine where
  owner : Nat × Nat
  tile : Nat
  row : Nat
  next : Nat
  scale : Nat
  lanes : List CombLane
  deriving DecidableEq, Repr

structure Engines where
  eng : SMap Engine := []
  partials : List Partial := []
  combines : List Combine := []
  deriving DecidableEq, Repr

/-! ### Memory, ECC, links (R199 to R231) -/

/-- A flawed word of an SRAM array (R211): the array, the index of the 64-bit word, and what is wrong with it. -/
structure EccError where
  arr : SramArray
  word : Nat
  flaw : Flaw
  deriving DecidableEq, Repr

/-- One direction of a link: its sender with the replay buffer, which holds the flits from `expect` to `sent` - 1, and its
receiver (R216, R218, R493). -/
structure LinkDir where
  /-- The sequence number that the sender gives its next flit. -/
  sent : Nat := 0
  /-- The sequence number the receiver accepts next. -/
  expect : Nat := 0
  /-- A replay has been requested from `expect` and not yet served: every flit is discarded. TST_LNK has forced it. -/
  asked : Bool := false
  forced : Bool := false
  /-- Flits of the replay under way that are still to come, and flits received since the last forced replay. -/
  replays : Nat := 0
  count : Nat := 0
  /-- The flit last replayed and the number of its successive unforced replays. -/
  last : Nat := 0
  streak : Nat := 0
  deriving DecidableEq, Repr

structure MemLinks where
  errors : List EccError := []
  /-- Corrected words awaiting write-back (R212). -/
  writebacks : List EccError := []
  /-- Scrub reads left in the pass in progress, none when no pass is; and where the scrub stands, in 64-byte steps through the
  arrays in address order (R215). -/
  scrub : Option Nat := none
  scrubPos : Nat := 0
  /-- Direction A of link i at 2 i, direction B at 2 i + 1. -/
  dirs : SMap LinkDir := []
  selfRefresh : Bool := false
  /-- Units stopped by a credit error (R247). -/
  stopped : List CreditError := []
  deriving DecidableEq, Repr

/-! ### Counters and huddles (R232 to R268) -/

/-- A waiter record (R239): the expected value and the package context. -/
structure Waiter where
  e : Nat
  ctx : Nat
  deriving DecidableEq, Repr

/-- A sync counter (R233) and the attributes its SOT entry loaded (R237, R238). -/
structure Counter where
  v : Nat := 0
  sat : Bool := false
  lastUnit : Nat := 0
  /-- Timebase time in the compact form of R260. -/
  lastTime : Nat := 0
  /-- In order of registration. -/
  waiters : List Waiter := []
  shadowEn : Bool := false
  msixEn : Bool := false
  endChk : Bool := false
  huddle : Bool := false
  msixVec : Nat := 0
  owner : Nat := 0
  endv : Nat := 0
  shadowAddr : Nat := 0
  /-- A shadow write has been requested and not issued; an SOT load requested it (R253). -/
  shadowReq : Bool := false
  shadowLoad : Bool := false
  deriving DecidableEq, Repr

/-- A node of one huddle (R249): base round b, and for rounds b and b + 1 the children that have arrived and the
count of members they stand for. -/
structure HNode where
  b : Nat := 0
  mask0 : List Nat := []
  mask1 : List Nat := []
  cnt0 : Nat := 0
  cnt1 : Nat := 0
  deriving DecidableEq, Repr

/-- A huddle in force: its member record (R248), n, and its nodes (0 to 15 clusters, 16 and 17 dies, 18 root). -/
structure Huddle where
  ctxMask : Nat := 0
  host : Bool := false
  n : Nat := 0
  nodes : SMap HNode := []
  deriving DecidableEq, Repr

/-- An arrival on its way to a node (R249): the child it comes from (a context, a cluster, a die, or 2 for the host),
the unit identifier a discard or the root's add names, and the context a discard is charged to. -/
structure Arrival where
  root : Nat
  node : Nat
  child : Nat
  tag : Nat
  weight : Nat
  unit : Nat
  ctx : Option Nat
  deriving DecidableEq, Repr

/-- A counter operation held at the store, while an SOT loads (R235) or a frozen dump runs (R259). -/
inductive HeldOp where
  | add (ctr k unit : Nat)
  | set (ctr v : Nat)
  | arrive (root tag unit : Nat)
  deriving DecidableEq, Repr

/-- A counter dump in progress (R259). -/
structure Dump where
  freeze : Bool := false
  base : Nat := 0
  tStart : Nat := 0
  deriving DecidableEq, Repr

structure Sync where
  ctrs : SMap Counter := []
  huddles : SMap Huddle := []
  arrivals : List Arrival := []
  /-- In order of arrival. -/
  held : List HeldOp := []
  dump : Option Dump := none
  deriving DecidableEq, Repr

/-! ### Ingest (R295 to R313, R326 to R328) -/

inductive StreamMode where
  | stopped | running | stopping | faulted
  deriving DecidableEq, Repr

/-- A frame admitted to a stream and not yet delivered (R299 to R302). A packet frame that was dropped or broken goes on
as `broken` until its close: its packets are discarded (R307). -/
structure FrameRun where
  fnum : Nat := 0
  tSof : Nat := 0
  tEof : Nat := 0
  /-- Long packets or packets of the frame so far, and of those the ones written. -/
  seen : Nat := 0
  units : Nat := 0
  bytes : Nat := 0
  crc : Bool := false
  ecc : Bool := false
  long : Bool := false
  gap : Bool := false
  broken : Bool := false
  /-- Digested (R469), and the sum of R468 over the rows written. -/
  digested : Bool := false
  digest : Nat := 0
  deriving DecidableEq, Repr

structure Stream where
  mode : StreamMode := .stopped
  /-- ING_STATEn.fault. -/
  fault : Nat := 0
  /-- The SDT entry taken at Start, a 512-bit number. -/
  entry : Nat := 0
  d : Nat := 0
  run : Nat := 0
  drops : Nat := 0
  /-- The frame being received, and frames ended and awaiting delivery, oldest first. -/
  frame : Option FrameRun := none
  ended : List FrameRun := []
  deriving DecidableEq, Repr

/-- A transmit ring: the index of its next descriptor, and the descriptor being sent. -/
structure TxRing where
  next : Nat := 0
  sending : Option Nat := none
  deriving DecidableEq, Repr

structure Ingest where
  streams : SMap Stream := []
  tx : SMap TxRing := []
  /-- Frames and messages sent: ring and bytes, newest last. -/
  txOut : List (Nat × List Byte) := []
  /-- CAN controllers whose bus-off recovery is under way. -/
  canRecovering : List Nat := []
  deriving DecidableEq, Repr

/-! ### Timebase, timestamp inputs, kickoffs (R314 to R332) -/

/-- A captured edge: its time in compact form, and the level after it. -/
structure TsiEntry where
  time : Nat
  level : Bool
  deriving DecidableEq, Repr

structure Kickoff where
  armed : Bool := false
  /-- Target in nanoseconds since 0. -/
  target : Nat := 0
  /-- The next fire is late (R322). -/
  lateNext : Bool := false
  deriving DecidableEq, Repr

/-- A trigger output: its level, and the end of a pulse in progress in nanoseconds since 0. -/
structure Trigger where
  level : Bool := false
  pulseEnd : Option Nat := none
  deriving DecidableEq, Repr

structure TimeBase where
  counting : Bool := false
  sec : Nat := 0
  ns : Nat := 0
  /-- Fractional nanoseconds in units of 2^-32. -/
  frac : Nat := 0
  /-- Slew remainder in units of 2^-32 ns. -/
  rem : Int := 0
  tsi : SMap (List TsiEntry) := []
  ko : SMap Kickoff := []
  trg : SMap Trigger := []
  deriving DecidableEq, Repr

/-! ### Safety (R462 to R499) -/

/-- A dangerous fault on its way to the safety monitor (R462): the source code of R466 and what SAF_FAULT_LOC shows of
it (R497): the physical unit as its bits [11:0], the queue, the link. -/
structure FaultReport where
  src : Nat
  unit : Option Nat := none
  queue : Option Nat := none
  link : Option Nat := none
  deriving DecidableEq, Repr

/-- A digest record (R470). -/
structure DigestRec where
  d : Nat
  index : Nat
  id : Nat
  kind : Nat
  sat : Bool
  rows : Nat
  deriving DecidableEq, Repr

/-- A record in the match table (R473): the side it came from, the scans of 100 µs it has stayed, and whether its timeout has
been reported. -/
structure MatchEntry where
  dig : DigestRec
  peer : Bool
  scans : Nat := 0
  late : Bool := false
  deriving DecidableEq, Repr

/-- A Single check taken (R478): the operator, the logical engine, and the row it recomputes among those the engine
processes (pass × rows + row). -/
structure CheckPlan where
  core : Nat
  queue : Nat
  entry : Nat
  eng : Nat
  row : Nat
  deriving DecidableEq, Repr

structure Safety where
  /-- Faults presented and not yet recorded. -/
  inbox : List FaultReport := []
  /-- Local records formed and not yet ready (R471), oldest first. -/
  forming : List DigestRec := []
  /-- Local operator records awaiting their golden check or capture (R480). -/
  golden : List DigestRec := []
  table : List MatchEntry := []
  /-- Records sent to the peer over the pair link, newest last. -/
  sent : List DigestRec := []
  peerSeen : Bool := false
  /-- Suspect units of the recovery sequence, kept until its state is ready, and the substitutes it has put in (places as in
  SAF_FAULT_LOC; engine 0x1F: the core outside its engines). -/
  suspects : List Nat := []
  substitutes : List Nat := []
  /-- Units declared failed before diagnostic BIST (R483). -/
  failedUnits : List Nat := []
  /-- Links that had failed when a full die reset was written (R489). -/
  linkFails : List Nat := []
  /-- Physical spares marked failed (R482), and logical cores held in reset (R485). -/
  failedSpares : List Nat := []
  heldCores : List Nat := []
  /-- Digested LINEAR and CONV2D operators admitted per core since reset, and the checks under way (R478). -/
  digCount : SMap Nat := []
  checks : List CheckPlan := []
  /-- Physical engines that have completed their logic test in this BIST period (R482). -/
  bistDone : List Nat := []
  /-- TST_KEY: the path of a first key write (R492), and whether the TST_ registers are unlocked. -/
  tstFirst : Option Path := none
  tstUnlocked : Bool := false
  /-- SAF_DBL_CFG in force while Doubles runs (R498). -/
  dblCfg : Word := 0x0000000A#32
  deriving DecidableEq, Repr

/-- The tile's copy of the substitution state (R186). -/
structure SubCopy where
  maps : SMap Word := []
  failedSpares : List Nat := []
  heldCores : List Nat := []
  deriving DecidableEq, Repr

/-! ### Host links (R500 to R532) -/

/-- A Riath request's command, tag, register address and data (R503). -/
structure RiathReq where
  cmd : Nat
  tag : Nat
  addr : Nat
  data : Word
  deriving DecidableEq, Repr

/-- A Riath response: status code, rep, tag, address echoed, data (R503). -/
structure RiathResp where
  status : Nat
  rep : Bool
  tag : Nat
  addr : Nat
  data : Word
  deriving DecidableEq, Repr

/-- One Riath listener: the kept request and response (R511), and responses waiting to be sent (R507), oldest first. -/
structure Listener where
  kept : Option (RiathReq × RiathResp) := none
  out : List RiathResp := []
  deriving DecidableEq, Repr

/-- What the device sends to the host over PCIe. -/
inductive HostMsg where
  | shadow (addr : Nat) (value : Nat)
  | msix (vec : Nat)
  deriving DecidableEq, Repr

structure HostLink where
  /-- The H-die's listener and the tile's. -/
  h : Listener := {}
  m : Listener := {}
  /-- Response frames sent on RO, newest last, each as its nine bytes. -/
  sent : List (List Nat) := []
  /-- The levels of (RO_D, RO_S) in the order in which the last response drove them, its park among them (R501, R503). -/
  ro : List (Bool × Bool) := []
  /-- Link state (R529): up, speed and width codes; the D3hot state. -/
  up : Bool := false
  speed : Nat := 0
  width : Nat := 0
  d3 : Bool := false
  /-- The host has enabled ASPM L1 (R427, R431). -/
  aspm : Bool := false
  /-- Bus Master Enable, MSI-X enable and function mask (R517, R519). -/
  bme : Bool := false
  msixEn : Bool := false
  fnMask : Bool := false
  /-- MSI-X mask bit and pending bit of each vector. -/
  vecMask : BitVec 32 := BitVec.allOnes 32
  pend : BitVec 32 := 0
  /-- CTL_PCIE_STAT.lost (R529). -/
  lost : Nat := 0
  /-- The link has been down with work continuing: the counter shadows are to be reissued (R518). -/
  owed : Bool := false
  /-- Events whose status and enable were both 1 after the last command (R521). -/
  evtSeen : Nat := 0
  /-- Posted traffic to the host in the order of issue, newest last. -/
  posted : List HostMsg := []
  /-- What register reads and BAR2 reads have returned, newest last. -/
  reads : List Nat := []
  deriving DecidableEq, Repr

/-! ### The IEEE 1149.1 port (R558) -/

/-- The controller's states. -/
inductive TapState where
  | reset | idle | selectDr | captureDr | shiftDr | exit1Dr | pauseDr | exit2Dr | updateDr
  | selectIr | captureIr | shiftIr | exit1Ir | pauseIr | exit2Ir | updateIr
  deriving DecidableEq, Repr

/-- The instructions; `sample` is SAMPLE/PRELOAD. -/
inductive TapInstr where
  | bypass | idcode | sample | extest
  deriving DecidableEq, Repr

/-- A sample of the port's balls: the level of TRST_N and, at a rising edge of TCK, those of TMS and TDI. -/
structure TapPins where
  trst : Bool := false
  tms : Bool := true
  tdi : Bool := true
  deriving DecidableEq, Repr

structure Tap where
  state : TapState := .reset
  /-- TRST_N's level; undriven it is low. -/
  trst : Bool := false
  ir : TapInstr := .idcode
  irShift : List Bool := []
  /-- The data register being shifted, and the update cells of the boundary register. -/
  dr : List Bool := []
  cells : List Bool := []
  /-- TDO, while it is driven. -/
  tdo : Option Bool := none
  /-- EXTEST has been in force since the last reset of the H-die: the device's operation is not specified. -/
  spoiled : Bool := false
  /-- Samples of the balls that wait, oldest first. -/
  pins : List TapPins := []
  deriving DecidableEq, Repr

/-! ### Power controller and RTC (R424 to R461) -/

inductive PwrState where
  | run | hold | dugout | dormant | toHold | fromHold | toDugout | toRun | toDormant | dormantToDugout
  deriving DecidableEq, Repr

/-- A latched request (R435): the target as PWR_STATE.pending codes it, the source as rep_src codes it, and for a wake
its source code of R438, whether a PWR_REQ write made it, the RTC time, and whether it arrived during an entry. -/
structure PwrReq where
  target : Nat
  src : Nat
  wake : Nat := 0
  cmd : Bool := false
  time : Nat := 0
  during : Bool := false
  deriving DecidableEq, Repr

structure Power where
  state : PwrState := .dugout
  pending : Option PwrReq := none
  /-- The tile time of the cycle in which requests were last latched, the slot before it, and those requests in the order
  in which R437 takes them. -/
  slotTick : Option Nat := none
  slotWas : Option PwrReq := none
  slotReqs : List PwrReq := []
  /-- PEN_C and PEN_H are asserted. -/
  enables : Bool := false
  /-- Levels of PG_MAIN and PERST#. -/
  pgMain : Bool := false
  perst : Bool := true
  /-- min_off has passed since the enables were released. -/
  minOff : Bool := true
  /-- The exit under way is that of tile power-on (R447): PWR_RESUME acts as cleared. -/
  bootExit : Bool := false
  /-- The automatic resume of R445 is under way, and PWR_STATE.resumed. -/
  resuming : Bool := false
  resumed : Bool := false
  /-- The H-die's output balls are at high impedance: from the loss of the main dies to the next reset release (R430). -/
  hiZ : Bool := true
  /-- The armed alarm fires late (R449). -/
  alarmLate : Bool := false
  /-- Sources that fired since the start of the preceding entry: bit s - 1 (R455). -/
  seen : Nat := 0
  rtcSec : Nat := 0
  rtcTick : Nat := 0
  /-- The tile is out of power-on reset, and the sampling-clock cycles (61.04 ns each) that it has run since; the sampling
  domain is stopped in DORMANT (R424). -/
  tileUp : Bool := true
  up : Nat := 0
  deriving DecidableEq, Repr

/-! ### Measurement front end (R333 to R376) -/

/-- A vibration channel: its ring by slot, the gain in force, and what the next samples carry (R342, R354). -/
structure VibChan where
  ring : SMap Word := []
  gain : Nat := 0
  /-- Samples written since acquisition last restarted. -/
  run : Nat := 0
  /-- Samples to come whose filter window spans a gain change. -/
  xrLeft : Nat := 0
  /-- The tile time of the newest sample: a blank window that opens in that sampling cycle takes it in (R355). -/
  tick : Option Nat := none
  /-- The classification of R339. -/
  openNow : Bool := false
  shortNow : Bool := false
  deriving DecidableEq, Repr

/-- Where the precision scan stands in the sequence of R344. `lead` is the second conversion of a 3-wire slot. -/
inductive ScanPhase where
  | idle | discharge | settle | convert | lead
  deriving DecidableEq, Repr

/-- A slot's gain in force, and whether it has changed since the slot's last conversion (R353). -/
structure PrecSlot where
  gain : Nat := 0
  fresh : Bool := false
  deriving DecidableEq, Repr

structure Prec where
  phase : ScanPhase := .idle
  slot : Nat := 0
  /-- The slot's configuration as its last step 1 took it (R371). -/
  cfg0 : Word := 0
  cfg1 : Word := 0
  /-- Code of the main conversion and whether it reached full scale, while the lead conversion runs. -/
  main : Option (Int × Bool) := none
  /-- The burn-out comparator is tripped, and whether it was during this settle or conversion (R348). -/
  tripped : Bool := false
  opened : Bool := false
  /-- The conversion has overlapped a blank window. -/
  blanked : Bool := false
  slots : SMap PrecSlot := []
  deriving DecidableEq, Repr

/-- A pulse input: the tile time of its last counted edge, and pulses since the last recalibration (R356, R357). -/
structure Pulse where
  last : Option Nat := none
  sinceCal : Nat := 0
  deriving DecidableEq, Repr

/-- An engine: its running state and since when, run time until then in ms, its fuel base in mL, and the dwell run of
R357 with its target and start. Times are tile times. -/
structure Meter where
  running : Bool := false
  start : Nat := 0
  runMs : Nat := 0
  base : Int := 0
  run : Option (Bool × Nat) := none
  deriving DecidableEq, Repr

/-- A threshold switch: its state, the registers as last committed (R360), its dwell run with target and start, and
whether its output has released on overcurrent (R554). -/
structure Switch where
  alarm : Bool := false
  latched : Bool := false
  cfg : Word := 0
  set : Word := 0
  rst : Word := 0
  dwell : Word := 0
  run : Option (Bool × Nat) := none
  released : Bool := false
  /-- The tile time at which the latch last set, which an acknowledgement in that cycle leaves set (R360). -/
  latchAt : Option Nat := none
  /-- The registers have been committed since tile power-on: only committed values can break a rule (R358). -/
  committed : Bool := false
  deriving DecidableEq, Repr

/-- A record due for the metrology log, and the tile time at which it fell due (R367). -/
structure LogDue where
  typ : Nat
  time : Nat := 0
  eng : Bool := false
  gap : Bool := false
  detail : Nat := 0
  aux : Nat := 0
  deriving DecidableEq, Repr

/-- The sealed set and the rest of the metrology partition (R336, R361), the log and checkpoint engines, and the
configuration images. -/
structure Metrology where
  /-- Calibration copies that are valid: image (2,048 bits) and seal counter. -/
  calA : Option (Nat × Nat) := none
  calB : Option (Nat × Nat) := none
  /-- The copy in force and whether it is copy B (R363). -/
  cal : Option (Nat × Nat) := none
  copyB : Bool := false
  fuse : Bool := false
  devid : Nat := 0
  session : Bool := false
  /-- Log records by slot (512 bits; 0: no valid record), the write position, the next sequence number (R366). -/
  log : SMap Nat := []
  wpos : Nat := 0
  seq : Nat := 0
  due : List LogDue := []
  /-- The record being written and its failed writes, and a record that failed at 8 positions (R368). -/
  cur : Option (Nat × Nat) := none
  kept : Option Nat := none
  /-- The sequence number a log search is looking for. -/
  search : Option Nat := none
  /-- Checkpoint slots and the number of the next checkpoint (R370). -/
  ckpt : SMap Nat := []
  cseq : Nat := 0
  ckptSearch : Bool := false
  /-- Tile times of the last PERIODIC record and the last checkpoint. -/
  lastPeriodic : Nat := 0
  lastCkpt : Nat := 0
  /-- Configuration images that are valid: sequence number and registers; and the registers of a save in progress. -/
  img0 : Option (Nat × List (Nat × Word)) := none
  img1 : Option (Nat × List (Nat × Word)) := none
  saving : Option (List (Nat × Word)) := none
  deriving DecidableEq, Repr

structure Measure where
  vib : SMap VibChan := []
  /-- Acquisition has restarted and sample 0 is yet to come (R342). -/
  vibFresh : Bool := true
  /-- Mode 0x1: excitation is on for a burst (R341). -/
  excited : Bool := false
  prec : Prec := {}
  pulses : SMap Pulse := []
  meters : SMap Meter := []
  switches : SMap Switch := []
  /-- The accepted level of the BLANK ball, whether it or force opens the window now, and whether the holdoff runs. -/
  blankBall : Bool := false
  blankActive : Bool := false
  blankHold : Bool := false
  /-- The tile times at which the level last left the active level, and at which the window last closed (R355). -/
  blankAt : Nat := 0
  blankShut : Option Nat := none
  met : Metrology := {}
  deriving DecidableEq, Repr

/-! ### Sentinel, event core, learning store (R377 to R423) -/

/-- A synapse word (R384). -/
structure Synapse where
  w : Int := 0
  d : Nat := 0
  en : Bool := false
  e : Int := 0
  sw : Int := 0
  sd : Int := 0
  chg : Bool := false
  deriving DecidableEq, Repr

structure Neuron where
  v : Int := 0
  ref : Nat := 0
  deriving DecidableEq, Repr

/-- How far a burst has come: none in progress; samples being written; judged by its flags; features ready; presented
to the event core; compared. -/
inductive BurstPhase where
  | none | sampling | judged | features | window | compared
  deriving DecidableEq, Repr

/-- The burst in progress (R377 to R382, R397 to R400), with the settings it was taken under (R416). -/
structure Burst where
  phase : BurstPhase := .none
  /-- RTC time of its start, and LRN_SENT_CFG, LRN_WIN, LRN_ENCk and LRN_BANDb at its start. -/
  t : Nat := 0
  sent : Word := 0
  win : Word := 0
  enc : List Word := []
  band : List Word := []
  /-- WIDX of each channel at its start. -/
  first : List Nat := []
  /-- The sample words of each channel of chan that takes samples. -/
  samples : List (Nat × List Word) := []
  blanked : Bool := false
  fault : Bool := false
  /-- Input lines with a value, and the lines that spike with their step. -/
  lines : List (Nat × Int) := []
  rms : List Nat := []
  events : List (Nat × Nat) := []
  /-- Steps of the window done, readout spikes, confirmation at the first step, epoch of the last step. -/
  step : Nat := 0
  nsp : Nat := 0
  confirmed : Bool := false
  epoch : Nat := 0
  score : Nat := 0
  changed : Bool := false
  wake : Bool := false
  deriving DecidableEq, Repr

/-- The parameters in force for the epoch (R416): the registers and the source lists (key 64 g + k). -/
structure EpochParams where
  rule0 : Word := 0
  rule1 : Word := 0
  epochCfg : Word := 0
  grpCfg : List Word := []
  grpTh : List Word := []
  src : SMap Nat := []
  deriving DecidableEq, Repr

/-- What is being written to the learning store: an epoch's journal records, a compaction, a model commit, a header. -/
inductive SaveKind where
  | journal | compaction | model | header
  deriving DecidableEq, Repr

/-- A commit or save in progress (R394 to R407, R414). -/
structure Save where
  kind : SaveKind
  epoch : Nat
  /-- Steps of the epoch. -/
  steps : Nat := 0
  /-- The sweep has run and the path is chosen; until then `kind` is not in force. -/
  begun : Bool := false
  /-- Journal: change records written. Otherwise: 64-byte rows written. -/
  part : Nat := 0
  /-- Journal: synapses still to be written, ascending. -/
  todo : List Nat := []
  /-- The header copy being written. -/
  hdr : Nat := 0
  /-- Failed tries of the present write. -/
  tries : Nat := 0
  /-- Banks that a relearn has started anew, whose bits the end of this commit clears. -/
  relearned : Nat := 0
  /-- Tile time at which it began. -/
  start : Nat := 0
  deriving DecidableEq, Repr

structure Learn where
  /-- T0 of R377 as a count of RTC ticks, the due time of the burst last due, and the period of LRN_SENT_CFG that took effect
  at that burst (R416). -/
  t0 : Int := 0
  lastDue : Option Int := none
  period : Nat := 0
  /-- RTC ticks at which MSR_VIB_MODE.mode last came to a mode in which the sentinel takes bursts. -/
  since : Int := 0
  burst : Burst := {}
  syn : SMap Synapse := []
  neurons : SMap Neuron := []
  /-- Spikes of the window: (source, step), newest first. -/
  spikes : List (Nat × Nat) := []
  lfsr : List Nat := []
  params : EpochParams := {}
  /-- Source entries as written: key 64 g + k holds LRN_SRC_DATA [15:0]. -/
  src : SMap Nat := []
  /-- The sweep of the last epoch is still to run (R395). -/
  sweepDue : Bool := false
  /-- Tile time at which the last commit began. -/
  commitStart : Nat := 0
  save : Option Save := none
  /-- The commit of an ended epoch that waits for a header being written, and a save_cfg that waits for what is being
  written (R393, R418). -/
  waiting : Option Save := none
  cfgReq : Bool := false
  /-- The comparison: its state (ANOMALY) and run count (R398). -/
  anomaly : Bool := false
  run : Nat := 0
  ballHigh : Bool := false
  /-- Result records by seq mod 64. -/
  results : SMap Nat := []
  recovering : Bool := true
  noModel : Bool := false
  /-- Cells of the learning store: offset / 64 to 512 bits. -/
  nvs : SMap Nat := []
  /-- Journal: next position and jseq, and those of the header in force; epoch and generation of that header. -/
  head : Nat := 0
  jseq : Nat := 0
  tailPos : Nat := 0
  tailJseq : Nat := 0
  hgen : Nat := 0
  ec : Nat := 0
  /-- The header in force is copy 1; bit b: bank b's image in use is in slot 1. -/
  copy1 : Bool := false
  slots : Nat := 0
  /-- The next commit takes the compaction path (R407, R411); banks that a relearn has started anew. -/
  forceCompact : Bool := false
  relearned : Nat := 0
  deriving DecidableEq, Repr

/-- The device. -/
structure State where
  /-- The register file: what each implemented word address stores; an unlisted address stores 0. -/
  regs : SMap Word
  /-- Wide values: key 2 × lowest word address + path. -/
  wide : SMap WideSide
  /-- Hub, core, LPDDR5X and host memory by device address (R25); an unlisted byte reads 0. -/
  mem : List Host.Cell
  roots : Roots
  align : AlignState
  avs : Avs
  sched : Sched
  engines : Engines
  links : MemLinks
  sync : Sync
  ingest : Ingest
  time : TimeBase
  safety : Safety
  subCopy : SubCopy
  host : HostLink
  tap : Tap
  power : Power
  meas : Measure
  learn : Learn
  /-- The model's own: how many free values the run has drawn (see Config.freeNat). -/
  freeCtr : Nat
  /-- Commands that wait, first in, first out. -/
  pending : List Instr
  deriving DecidableEq, Repr

/-- The machine right after tile power-on reset with every strap ball open and BOOT_RUN low: the tile runs, the main
dies are off (R447, R536), every register holds its Reset value, no memory and no non-volatile cell has been written, the
POWER_RESTORE record is due (R367) and model recovery runs (R409). -/
def State.reset : State where
  regs := mainResets ++ tileResets ++ [(Reg.CTL_RI_ADDR, 0x00030000#32)]
  wide := []
  mem := []
  roots := {}
  align := {}
  avs := {}
  sched := {}
  engines := {}
  links := {}
  sync := {}
  ingest := {}
  time := {}
  safety := {}
  subCopy := {}
  host := {}
  tap := {}
  power := {}
  meas := { met := { due := [{ typ := 6, gap := true, aux := 0xFFFFFFFF }] } }
  learn := {}
  freeCtr := 0
  pending := []

end Sys2Proof.Machine
end

