-- ==== Sys2Proof/Machine/Ops.lean ====
section
/-! DEFINITION. The named operations over registers, memory and the host's messages that every meaning uses. -/

namespace Sys2Proof.Machine

/-! ### Registers -/

/-- What a word address of the register file stores. -/
def State.reg (s : State) (a : Nat) : Word := s.regs.look 0#32 a

/-- Store a word at a register's address. -/
def State.setReg (s : State) (a : Nat) (w : Word) : State := { s with regs := s.regs.put 0#32 a w }

/-- A register's field [hi:lo]. -/
def State.fld (s : State) (a hi lo : Nat) : Nat := wfld (s.reg a) hi lo

/-- A register's bit. -/
def State.bit (s : State) (a n : Nat) : Bool := (s.reg a).getLsbD n

/-- Replace a register's field. -/
def State.setFld (s : State) (a hi lo v : Nat) : State := s.setReg a (wset (s.reg a) hi lo v)

/-- Set or clear a register's bit. -/
def State.setBit (s : State) (a n : Nat) (b : Bool) : State := s.setFld a n n (b2n b)

/-- A number in a register. -/
def State.setNat (s : State) (a v : Nat) : State := s.setReg a (BitVec.ofNat 32 v)

/-- Add to a count held in a field, saturating at the field's largest value. -/
def State.incFld (s : State) (a hi lo k : Nat) : State :=
  s.setFld a hi lo (satAdd (2 ^ (hi + 1 - lo) - 1) (s.fld a hi lo) k)

/-- Add to a count held in a whole register, saturating at 0xFFFF_FFFF. -/
def State.incSat (s : State) (a k : Nat) : State := s.incFld a 31 0 k

/-- The 64-bit number in two registers, low word first. -/
def State.reg64 (s : State) (a : Nat) : Nat := (s.reg a).toNat + (s.reg (a + 1)).toNat * 2 ^ 32

/-- Store a 64-bit number in two registers, low word first. -/
def State.setReg64 (s : State) (a v : Nat) : State := (s.setNat a v).setNat (a + 1) (v / 2 ^ 32)

/-- Store consecutive registers. -/
def State.setRegs (s : State) (a : Nat) : List Word → State
  | [] => s
  | w :: t => (s.setReg a w).setRegs (a + 1) t

/-- The write of a register with no action: its RW bits take the value, its W1C bits written 1 clear, the rest stay. -/
def State.plain (s : State) (a : Nat) (v : Word) : State :=
  match regRow? a with
  | none => s
  | some r =>
    let w := BitVec.ofNat 32 r.rw
    s.setReg a (((s.reg a &&& ~~~w) ||| (v &&& w)) &&& ~~~(v &&& BitVec.ofNat 32 r.w1c))

/-- The words of a wide value take their bits. -/
def State.plainWords (s : State) (a : Nat) : List Word → State
  | [] => s
  | w :: t => (s.plain a w).plainWords (a + 1) t

/-- The recording rules of R138 for a record whose valid bit is 0 and more bit is 1: the first event after valid was
cleared is recorded, a later one only sets more. -/
def State.recordFirst (s : State) (a : Nat) (put : State → State) : State :=
  if s.bit a 0 then s.setBit a 1 true else put (s.setBit a 0 true)

/-- Draw a free value (log entry 3). -/
def State.drawn (s : State) : Nat := Config.freeNat s.freeCtr

/-- Count `n` free values as drawn. -/
def State.draw (s : State) (n : Nat := 1) : State := { s with freeCtr := s.freeCtr + n }

/-! ### Power and reset of the main dies -/

/-- The main dies are powered and out of reset. -/
def State.mainUp (s : State) : Bool := !s.align.inReset

/-- The H-die's registers answer: alignment has ended (R512) and no entry to DUGOUT or DORMANT has begun. -/
def State.hAnswers (s : State) : Bool :=
  s.mainUp && s.bit Reg.CLK_ALIGN_STATUS 0 &&
    (match s.power.state with
     | .run | .hold | .toHold | .fromHold | .toRun => true
     | _ => false)

/-- A domain's block is held in reset after a failed alignment (R54). -/
def State.domHeld (s : State) (d : Nat) : Bool := s.align.held.contains d

/-- The clock domains whose block holds a main-die register (R49, R54); none for a register of the self-timed fabric. -/
def regDomains (a : Nat) : List Nat :=
  if 0x1C00 ≤ a ∧ a < 0x1E00 then [17]
  else if 0x1E00 ≤ a ∧ a < 0x2000 then [18]
  else if 0x1980 ≤ a ∧ a < 0x1990 then [(a - 0x1980) / 2]
  else if 0x1990 ≤ a ∧ a < 0x19A0 then [8 + (a - 0x1990) / 8]
  else if 0x19C0 ≤ a ∧ a < 0x19D0 then [15 + (a - 0x19C0) / 8]
  else if 0x1100 ≤ a ∧ a < 0x1120 then [19 + (a - 0x1100) / 8]
  else if a = 0x1120 then [22]
  else if a = 0x1000 ∨ a = 0x1002 then [11, 12, 13, 14]
  else if a = 0x0022 then [10]
  else []

/-- A main-die register belongs to a block that is held in reset: it reads its Reset value and ignores writes (R54). -/
def State.regHeld (s : State) (a : Nat) : Bool := (regDomains a).any s.domHeld

/-- The H-die takes a write to this register. -/
def State.takes (s : State) (a : Nat) : Bool := s.hAnswers && !s.regHeld a

/-! ### Power requests that wait, and activity in HOLD (R428, R435, R448) -/

/-- Ticks of the sampling clock in a second. -/
def tickHz : Nat := 16384000

/-- The RTC as software reads it: seconds above a 24-bit tick field (R448). -/
def State.rtc (s : State) : Nat := (s.power.rtcSec % 2 ^ 40) * 2 ^ 24 + s.power.rtcTick

/-- The RTC as a count of ticks. -/
def State.rtcTicks (s : State) : Nat := s.power.rtcSec * tickHz + s.power.rtcTick

/-- RUN or HOLD, or a transition between them, is in force. -/
def State.runOrHold (s : State) : Bool :=
  match s.power.state with
  | .run | .hold | .toHold | .fromHold => true
  | _ => false

/-- The place of a request among those of one cycle (R437): wakes by source code, activity, timers, PWR_REQ. -/
def PwrReq.rank (r : PwrReq) : Nat := if r.src < 8 then r.src else if r.src = 10 then 8 else if r.src = 9 then 9 else 10

/-- A request joins those of its cycle, behind every one of its own place; a repetition adds nothing. -/
def PwrReq.insert (r : PwrReq) : List PwrReq → List PwrReq
  | [] => [r]
  | q :: t => if q = r then q :: t else if r.rank < q.rank then r :: q :: t else q :: r.insert t

/-- The slot after a request, and the request that was last replaced in it (R435). -/
def slotTake (p : Option PwrReq × Option PwrReq) (r : PwrReq) : Option PwrReq × Option PwrReq :=
  match p.1 with
  | none => (some r, p.2)
  | some q => if q.target = r.target then p else (some r, some q)

/-- A request that arrives during a transition is latched; one for another state replaces it and is reported (R435). The
requests of one cycle are taken in the order of R437, whichever of them comes first. -/
def State.latchReq (s : State) (r : PwrReq) : State :=
  let p := s.power
  let same := p.slotTick == some p.up
  let was := if same then p.slotWas else p.pending
  let reqs := r.insert (if same then p.slotReqs else [])
  let x := reqs.foldl slotTake (was, none)
  let s1 := { s with power := { p with pending := x.1, slotTick := some p.up, slotWas := was, slotReqs := reqs } }
  match x.2 with
  | none => s1
  | some q => ((s1.setBit Reg.PWR_STATUS 2 true).setFld Reg.PWR_STATUS 5 4 q.target).setFld Reg.PWR_STATUS 9 6 q.src

/-- An activity of R428: in HOLD it starts the return to RUN; while HOLD is being entered it is latched (R435). -/
def State.activity (s : State) : State :=
  match s.power.state with
  | .hold => { s with power := { s.power with state := .fromHold } }
  | .toHold => s.latchReq { target := 1, src := 10, time := s.rtc }
  | _ => s

/-! ### Crossings (R51 to R54) -/

/-- The FIFO after alignment: both pointers at their start value, credit for all 8 entries (R51, R52). -/
def XFifo.start : XFifo := { wptr := 0, rptr := 0, credit := 8 }

/-- A write into the FIFO; with no credit the writer is stalled (R51). -/
def XFifo.push (f : XFifo) : Option XFifo :=
  if f.credit = 0 then none else some { f with wptr := (f.wptr + 1) % 16, credit := f.credit - 1 }

/-- A read from the FIFO, which returns the credit. -/
def XFifo.pop (f : XFifo) : Option XFifo :=
  if f.rptr = f.wptr then none else some { f with rptr := (f.rptr + 1) % 16, credit := f.credit + 1 }

/-- The crossing's two FIFOs can take an entry. -/
def Crossing.isOpen (c : Crossing) : Bool := c.toDomain.push.isSome && c.toFabric.push.isSome

/-- The crossing's two FIFOs hold no entry. -/
def Crossing.isEmpty (c : Crossing) : Bool := c.toDomain.pop.isNone && c.toFabric.pop.isNone

/-- A crossing: of a clock domain, the second of a die-link domain where `side`. -/
def State.crossing (s : State) (d : Nat) (side : Bool) : Crossing := s.align.fifos.look {} (2 * d + b2n side)

/-- The crossings of R51: one for each of domains 0 to 18 and 22, two for 19 to 21, and the tile link. -/
def crossings : List (Nat × Bool) :=
  (List.range 19).map (fun d => (d, false)) ++ [(19, false), (19, true), (20, false), (20, true), (21, false), (21, true),
    (22, false), (24, false)]

/-- A credit error has stopped a crossing of this domain, or the die link behind it (R247, R265: resources 5 and 4). -/
def State.crossStopped (s : State) (d : Nat) : Bool :=
  s.links.stopped.any (fun c => (c.res == 5 || c.res == 4) && c.port == d)

/-- Entries pass every crossing of a domain. A command is a transfer from end to end, so between commands no FIFO holds an
entry of it and the pointers stand in their start relation (log entry 67). -/
def State.crossOpen (s : State) (d : Nat) : Bool :=
  !s.crossStopped d && crossings.all (fun c => c.1 != d || (s.crossing c.1 c.2).isOpen)

/-- Every crossing of a domain is empty (R53). -/
def State.crossEmpty (s : State) (d : Nat) : Bool := crossings.all (fun c => c.1 != d || (s.crossing c.1 c.2).isEmpty)

/-! ### Time -/

/-- Timebase time in the compact form of R260: nanoseconds in the low 30 bits, seconds modulo 2^34 above. -/
def State.now (s : State) : Nat := s.time.ns + (s.time.sec % 2 ^ 34) * 2 ^ 30

/-! ### Access errors (R8, R527) -/

/-- The code of an access path in CTL_ACC_ERR.path. -/
def pathCode : Path → Nat
  | .riath => 0
  | .bar0 => 1

/-- Record an access error: `n` is the bit of CTL_ACC_ERR (0 bad_addr, 1 part_wr, 2 win_fault), `a` what the addr field
shows, `tile` whether the tile's listener took the access (CTL_TACC_ERR). -/
def State.accErr (s : State) (tile : Bool) (n : Nat) (wr : Bool) (path a : Nat) : State :=
  let r := if tile then Reg.CTL_TACC_ERR else Reg.CTL_ACC_ERR
  if s.fld r 2 0 = 0 then
    ((((s.setBit r n true).setBit r 4 wr).setFld r 6 5 path).setFld r 31 16 a)
  else (s.setBit r n true).setBit r 3 true

/-- A write that a chapter refuses with CTL_ACC_ERR.bad_addr; a Riath write of a tile register was taken by the tile's
listener (R527). -/
def State.badWrite (s : State) (p : Path) (a : Nat) : State :=
  s.accErr (p == .riath && isTileReg a) 0 true (pathCode p) a

/-! ### Substitution maps (R181) -/

/-- Physical core, within its cluster, that serves logical core `n`. -/
def State.physCore (s : State) (n : Nat) : Nat :=
  let r := Reg.SCH_CORE_SUB (n / 4)
  if s.bit r 2 && s.fld r 1 0 == n % 4 then 4 else n % 4

/-- Physical engine, within its core, that serves logical engine `j` of logical core `n`. -/
def State.physEng (s : State) (n j : Nat) : Nat :=
  let r := Reg.SCH_ENG_SUB n
  if s.bit r 4 && s.fld r 3 0 == j then 16 else j

/-- Bits [11:0] of SAF_FAULT_LOC for physical engine `p` of the physical core serving logical core `n`. -/
def State.place (s : State) (n p : Nat) : Nat :=
  n / 32 + (n / 4 % 8) * 2 + s.physCore n * 16 + p * 128

/-! ### The device address space (R25, R26) -/

/-- The host's memory can be reached (R517). -/
def HostLink.reach (h : HostLink) : Bool := h.bme && !h.d3 && h.up

/-- Where the source or the destination of a transfer lies: a C-die, or the H-die with hub memory, LPDDR5X and the host. -/
inductive Node where
  | cdie (d : Nat)
  | hdie
  deriving DecidableEq, Repr

/-- The die of a logical core. -/
def coreNode (n : Nat) : Node := .cdie (n / 32)

/-- The link that a transfer crosses: fixed by its source and destination (R202). -/
def routeLink : Node → Node → Option Nat
  | .hdie, .hdie => none
  | .hdie, .cdie d => some d
  | .cdie d, .hdie => some d
  | .cdie d, .cdie e => if d = e then none else some 2

/-- A die link carries traffic: it has not failed (R218), and its crossings have aligned, so that the C-die behind it can be
reached (R54). -/
def State.linkOpen (s : State) (i : Nat) : Bool := !s.bit (Reg.LNK_STATUS i) 1 && s.crossOpen (19 + i)

/-- The three die links carry traffic. -/
def State.linksOpen (s : State) : Bool := (List.range 3).all s.linkOpen

/-- The route between two nodes is open. A transfer is never rerouted (R202): it is held while its link is closed. -/
def State.routeOpen (s : State) (x y : Node) : Bool :=
  match routeLink x y with
  | some i => s.linkOpen i
  | none => true

/-- Installed LPDDR5X capacity in bytes (R204, R224). -/
def State.lpddrBytes (s : State) : Nat :=
  match s.fld Reg.MEM_LPDDR_CFG 2 0 with
  | 1 => 2 ^ 32
  | 2 => 2 ^ 33
  | 3 => 2 ^ 34
  | 4 => 2 ^ 35
  | _ => 0

/-- The levels of the address map. -/
inductive Region where
  | hub | core | lpddr | host
  deriving DecidableEq, Repr

/-- The range of R25 that an address lies in. -/
def regionOf (a : Nat) : Option Region :=
  if a < 0x1000000 then some .hub
  else if 0x10000000 ≤ a ∧ a < 0x12000000 then some .core
  else if 0x1000000000 ≤ a ∧ a < 0x1800000000 then some .lpddr
  else if 0x8000000000000000 ≤ a ∧ a < 0x10000000000000000 then some .host
  else none

/-- The node that holds a device address. -/
def nodeOf (a : Nat) : Node := if regionOf a = some .core then coreNode ((a - 0x10000000) / 0x80000) else .hdie

/-- Every byte of the ranges can be reached from a node: the node of each 64-byte granule is that of its first byte. -/
def State.reaches (s : State) (x : Node) (rs : List (Nat × Nat)) : Bool :=
  s.linksOpen || rs.all fun r => (List.range (cdiv (r.1 % 64 + r.2) 64)).all fun i =>
    s.routeOpen x (nodeOf (r.1 - r.1 % 64 + 64 * i))

/-- The LPDDR5X channel of an offset from the bottom of the range of R25 (R204). -/
def lpddrChannel (o : Nat) : Nat := nfld o 9 8 ^^^ nfld o 13 12

/-- The address of an offset within its channel: the offset with bits [9:8] removed (R204). -/
def lpddrLocal (o : Nat) : Nat := o / 2 ^ 10 * 2 ^ 8 + o % 2 ^ 8

/-- A channel, which carries a quarter of the installed capacity, holds the byte at an offset (R204). -/
def State.lpddrHolds (s : State) (o : Nat) : Bool := decide (lpddrChannel o < 4 ∧ lpddrLocal o < s.lpddrBytes / 4)

/-- MEM_ADDR_FAULT.kind of an access to one byte (R26, R206, R228): 0 when the byte is mapped. -/
def State.faultKind (s : State) (a : Nat) : Nat :=
  match regionOf a with
  | none => 1
  | some .hub => 0
  | some .core => 0
  | some .lpddr =>
    if s.bit Reg.MEM_LPDDR_STATUS 0 = false then 3
    else if s.lpddrHolds (a - 0x1000000000) then 0 else 2
  | some .host => if s.host.reach then 0 else 1

/-- The lowest faulting address of an access to `n` bytes, with its kind. A range of R25, a capacity and the ends of
the address space lie on 64-byte boundaries, so the first byte of each 64-byte granule answers for the granule. -/
def State.rangeFault (s : State) (a n : Nat) : Option (Nat × Nat) :=
  if n = 0 then none else
  let probes := a :: (List.range ((a + n - 1) / 64 - a / 64)).map (fun i => (a / 64 + 1 + i) * 64)
  match probes.find? (fun p => s.faultKind p != 0) with
  | some p => some (p, s.faultKind p)
  | none => none

/-- One byte of memory as stored. -/
def State.byte (s : State) (a : Nat) : Byte := SMap.look 0#8 s.mem a

/-- One byte as an access reads it: an unmapped byte reads zero (R26). -/
def State.readByte (s : State) (a : Nat) : Byte := if s.faultKind a = 0 then s.byte a else 0#8

/-- `n` bytes as an access reads them. -/
def State.readBytes (s : State) (a n : Nat) : List Byte := (List.range n).map (fun i => s.readByte (a + i))

/-- `n` bytes as a little-endian number. -/
def State.readNat (s : State) (a n : Nat) : Nat := ofBytes (s.readBytes a n)

/-- Store one byte. -/
def State.putByte (s : State) (a : Nat) (b : Byte) : State := { s with mem := SMap.put 0#8 s.mem a b }

/-- Store one byte by an access: an unmapped byte is not written (R26). -/
def State.writeByte (s : State) (a : Nat) (b : Byte) : State := if s.faultKind a = 0 then s.putByte a b else s

/-- Store bytes at consecutive addresses. -/
def State.writeBytes (s : State) (a : Nat) : List Byte → State
  | [] => s
  | b :: t => (s.writeByte a b).writeBytes (a + 1) t

/-- Bytes that the manual does not specify: each mapped byte of the range takes a free value. -/
def State.scramble (s : State) (a : Nat) : Nat → State
  | 0 => s
  | n + 1 => ((s.writeByte a (BitVec.ofNat 8 s.drawn)).draw).scramble (a + 1) n

/-- Record an address fault of R26 in MEM_ADDR_FAULT (R228): `src` 1 operator, 2 ingest, 3 dump. -/
def State.addrFault (s : State) (src : Nat) (wr : Bool) (kind a stream : Nat) : State :=
  s.recordFirst Reg.MEM_ADDR_FAULT fun s =>
    (((((s.setFld Reg.MEM_ADDR_FAULT 3 2 src).setFld Reg.MEM_ADDR_FAULT 4 4 (b2n wr)).setFld Reg.MEM_ADDR_FAULT 6 5 kind).setFld
      Reg.MEM_ADDR_FAULT 13 8 stream).setNat Reg.MEM_ADDR_FAULT_LO a).setNat Reg.MEM_ADDR_FAULT_HI (a / 2 ^ 32)

/-! ### Messages to the host and events (R519 to R522) -/

/-- Send an MSI-X message on a vector, set its pending bit (R519), or count it lost (R517). -/
def HostLink.msix (h : HostLink) (v : Nat) : HostLink :=
  if h.vecMask.getLsbD v || h.fnMask || !h.msixEn then { h with pend := h.pend ||| BitVec.ofNat 32 (2 ^ v) }
  else if h.reach then { h with posted := h.posted ++ [.msix v] }
  else { h with lost := (h.lost + 1) % 65536 }

/-- Issue the posted write of a counter's shadow, or count it lost (R517, R529); one that is lost leaves the latest value owed
to the host (R253, R518). -/
def HostLink.shadow (h : HostLink) (a v : Nat) : HostLink :=
  if h.reach then { h with posted := h.posted ++ [.shadow a v] } else { h with lost := (h.lost + 1) % 65536, owed := true }

/-- Some bit of a field is 1. -/
def State.any (s : State) (a hi lo : Nat) : Bool := s.fld a hi lo != 0

/-- The source flags of the events 0 to 27 (R520). -/
def State.events (s : State) : List Bool := [
  s.bit Reg.SAF_FAULT 0,
  s.bit Reg.SCH_FAULT_STATUS 0,
  s.bit Reg.SYN_ERR_STATUS 0,
  s.bit Reg.SYN_UF_STATUS 0,
  s.bit Reg.SYN_END_STATUS 0,
  s.bit Reg.PWR_AVS_STATUS 0,
  s.any Reg.PWR_AVS_STATUS 15 8,
  s.any Reg.PWR_AVS_STATUS 5 3,
  s.any Reg.QNT_ALARM 31 0,
  s.bit Reg.ENG_SAT_FIRST 31,
  s.bit Reg.MEM_ECC_STATUS 0,
  s.bit Reg.MEM_ADDR_FAULT 0,
  (List.range 4).any (fun i => s.bit (Reg.LNK_STATUS i) 2),
  s.any Reg.ING_ALARM_LO 31 0 || s.any Reg.ING_ALARM_HI 31 0,
  s.any Reg.CTL_ROOT_STATUS 7 4 || s.bit Reg.SCH_Q_STATUS 0 || s.bit Reg.ING_STRM_STATUS 0
    || s.bit Reg.MEM_LPDDR_STATUS 6 || s.bit Reg.SAF_STATUS 1,
  s.bit Reg.TIM_STATUS 3,
  s.any Reg.TIM_KO_EVT 31 0,
  s.bit Reg.TIM_STATUS 2 || s.bit Reg.TIM_STATUS 7 || s.any Reg.TIM_TSI_INFO 31 16,
  s.any Reg.CLK_PLL_STATUS 15 8,
  s.bit Reg.MEM_LPDDR_STATUS 10,
  s.bit Reg.CTL_ROOT_STATUS 12,
  s.any Reg.SYN_DUMP_STATUS 2 1,
  s.any Reg.CTL_ACC_ERR 2 0,
  s.bit Reg.LRN_STATUS 0,
  (List.range 4).any (fun v => s.any (Reg.MSR_VIB_STAT v) 17 16) || s.bit Reg.MSR_STATUS 2 || s.bit Reg.MSR_STATUS 4,
  s.bit Reg.NVS_STATUS 4 || s.bit Reg.LRN_STATUS 2 || s.bit Reg.LRN_STATUS 4,
  s.any Reg.PWR_STATUS 3 0 || s.bit Reg.PWR_ALARM_CFG 2,
  s.any Reg.CTL_TACC_ERR 2 0]

/-- A list of flags as a number, the first at bit 0. -/
def flagsNat : List Bool → Nat
  | [] => 0
  | b :: t => b2n b + 2 * flagsNat t

/-- CTL_EVT_STATUS (R520). -/
def State.evtStatus (s : State) : Nat := flagsNat s.events

/-- The MSI-X vector of an event (R530). -/
def State.evtVec (s : State) (n : Nat) : Nat :=
  s.fld (Reg.CTL_EVT_VEC (n / 4)) (8 * (n % 4) + 4) (8 * (n % 4))

/-- Events raised and enabled. -/
def State.evtLive (s : State) : Nat := s.evtStatus &&& (s.reg Reg.CTL_EVT_EN).toNat

/-- The host link after the events that have become raised and enabled have sent their messages (R521). -/
def State.afterEvents (s : State) : HostLink :=
  if s.mainUp then
    let live := s.evtLive
    let rise := (bitsOf 28 live).filter (fun n => !s.host.evtSeen.testBit n)
    { rise.foldl (fun h n => h.msix (s.evtVec n)) s.host with evtSeen := live }
  else { s.host with evtSeen := 0 }

/-- An enabled event has become raised since the last command. -/
def State.evtRises (s : State) : Bool := s.mainUp && s.evtLive &&& (s.host.evtSeen ^^^ 0xFFFFFFF) != 0

/-- What follows every command: events that have become raised and enabled send their messages (R521), and are an activity
(R428). -/
def State.settle (s : State) : State :=
  let t := if s.evtRises then s.activity else s
  { t with host := t.afterEvents }

/-- The outcome of a command that the device takes: its effect, then the event messages it causes. -/
def done (s : State) : Host.Outcome State Fault Refusal := .next s.settle

/-- A command that reaches the H-die's listener: where it answers, the access is an activity (R428) and has its effect. -/
def State.hAccess (s : State) (f : State → State) : Host.Outcome State Fault Refusal :=
  done (if s.hAnswers then f s.activity else s)

/-- The same for a write to a register, which a block held in reset ignores (R54). -/
def State.hWrite (s : State) (a : Nat) (f : State → State) : Host.Outcome State Fault Refusal :=
  s.hAccess fun t => if t.regHeld a then t else f t

/-- The level of an H-die output ball: none while it is at high impedance (R430). -/
def State.hBall {α : Type} (s : State) (x : α) : Option α := if s.power.hiZ then none else some x

/-- IRQ_N is driven low (R522). -/
def State.irqLow (s : State) : Bool := s.mainUp && s.bit Reg.CTL_EVT_CFG 0 && s.evtLive != 0

/-! ### Dangerous faults on their way to the safety monitor (R462) -/

/-- Change the safety monitor's own state. -/
def State.saf (s : State) (f : Safety → Safety) : State := { s with safety := f s.safety }

/-- Present a dangerous fault to the safety monitor. -/
def State.raise (s : State) (f : FaultReport) : State := s.saf fun x => { x with inbox := x.inbox ++ [f] }

/-- SAF_STATUS.fault, which drives FAULT_N low (R463): a recorded fault, or a live condition. -/
def State.faultLow (s : State) : Bool :=
  s.bit Reg.SAF_FAULT 0 || (List.range 4).any (fun i => s.bit (Reg.LNK_STATUS i) 1)
    || s.any Reg.CLK_PLL_STATUS 14 8 || s.any Reg.SAF_REC_STATUS 2 0

end Sys2Proof.Machine
end

