-- ==== Sys2Proof/Machine/Memory.lean ====
section
/-! DEFINITION. SRAM with its check bits, scrubbing, LPDDR5X and the die links (R199 to R231), with the injection of
TST_ECC (R494), and the commands of this chapter. -/

namespace Sys2Proof.Machine

/-! ### Arrays and check bits (R211 to R214) -/

/-- The array of logical core `n`'s core memory. -/
def State.coreArray (s : State) (n : Nat) : SramArray := ⟨3, n / 32, n / 4 % 8, s.physCore n, 0⟩

/-- The array of hub memory. -/
def hubArray : SramArray := ⟨4, 0, 0, 0, 0⟩

/-- The weight SRAM (level 1) or activation buffer (level 2) of a logical engine. -/
def State.engArray (s : State) (level e : Nat) : SramArray :=
  ⟨level, e / 512, e / 64 % 8, s.physCore (e / 16), s.physEng (e / 16) (e % 16)⟩

/-- The words of the SRAM arrays behind `n` bytes of device memory: the array, the first word and the one past the last.
Bytes of several cores' memories lie in several arrays. -/
def State.sramSpans (s : State) (a n : Nat) : List (SramArray × Nat × Nat) :=
  match regionOf a with
  | some .hub => [(hubArray, a / 8, (min (a + n) 0x1000000 + 7) / 8)]
  | some .core =>
    let lo := a - 0x10000000
    let hi := min (lo + n) 0x2000000
    (List.range (cdiv hi 0x80000 - lo / 0x80000)).map fun i =>
      let base := (lo / 0x80000 + i) * 0x80000
      (s.coreArray (base / 0x80000), (max lo base - base) / 8, (min hi (base + 0x80000) - base + 7) / 8)
  | _ => []

/-- Bits [11:0] of SAF_FAULT_LOC for an array; none for hub memory. Outside the engines the engine field is 0x1F. -/
def arrayUnit (r : SramArray) : Option Nat :=
  if r.level = 4 then none
  else some (r.die + r.cluster * 2 + r.pcore * 16 + (if r.level = 3 then 0x1F else r.peng) * 128)

/-- MEM_ECC_STATUS and MEM_ECC_LOC show an error (R226). -/
def State.eccShow (s : State) (arr : SramArray) (word : Nat) (ue scrub : Bool) : State :=
  let r := Reg.MEM_ECC_STATUS
  let hub := arr.level = 4
  let w := s.fld r 1 0 + b2n ue * 4 + b2n scrub * 8 + arr.level * 16
    + (if hub then 0 else arr.die * 256 + arr.cluster * 512 + arr.pcore * 4096 + arr.peng * 32768)
  (s.setNat r w).setNat Reg.MEM_ECC_LOC (word % 2 ^ 21)

/-- The record of R214: the first error; an uncorrectable one replaces a recorded correctable one. -/
def State.eccRecord (s : State) (arr : SramArray) (word : Nat) (ue scrub : Bool) : State :=
  let r := Reg.MEM_ECC_STATUS
  if !s.bit r 0 then (s.setBit r 0 true).eccShow arr word ue scrub
  else if ue && !s.bit r 2 then (s.setBit r 1 true).eccShow arr word ue scrub
  else s.setBit r 1 true

/-- The check bits, which cover the word's address, correct one bit and detect two, and a read of the wrong word (R211). -/
def EccError.uncorrectable (e : EccError) : Bool := e.flaw != .one

/-- A read finds a flawed word: R212 when it can be corrected, else R213. -/
def State.eccFound (s : State) (e : EccError) (scrub : Bool) : State :=
  if e.uncorrectable then
    ((s.eccRecord e.arr e.word true scrub).incSat Reg.MEM_ECC_UE_CNT 1).raise { src := 0x01, unit := arrayUnit e.arr }
  else
    let s := (s.eccRecord e.arr e.word false scrub).incSat Reg.MEM_ECC_CE_CNT 1
    if s.links.writebacks.contains e then s
    else { s with links := { s.links with writebacks := s.links.writebacks ++ [e] } }

/-- Order of the errors of one token (R214): an uncorrectable one first, then by physical location. -/
def EccError.rank (e : EccError) : Nat :=
  (if e.uncorrectable then 0 else 2 ^ 40)
    + ((((e.arr.level * 2 + e.arr.die) * 8 + e.arr.cluster) * 8 + e.arr.pcore) * 32 + e.arr.peng) * 2 ^ 21 + e.word

/-- A list of errors with one more in its place. -/
def eccEnter (e : EccError) : List EccError → List EccError
  | [] => [e]
  | x :: t => if e.rank ≤ x.rank then e :: x :: t else x :: eccEnter e t

/-- The word lies in the span. -/
def EccError.within (e : EccError) (p : SramArray × Nat × Nat) : Bool :=
  e.arr == p.1 && decide (p.2.1 ≤ e.word) && decide (e.word < p.2.2)

/-- The flawed words of the spans, in the order of R214. -/
def State.eccIn (s : State) (ps : List (SramArray × Nat × Nat)) : List EccError :=
  (s.links.errors.filter (fun e => ps.any e.within)).foldr eccEnter []

/-- A read of words of the arrays; a read that reached the wrong word leaves no trace in the array. -/
def State.eccReadSpans (s : State) (ps : List (SramArray × Nat × Nat)) (scrub : Bool := false) : State :=
  let t := (s.eccIn ps).foldl (fun s e => s.eccFound e scrub) s
  { t with links := { t.links with errors := t.links.errors.filter (fun e => e.flaw != .stray) } }

/-- A functional read of ranges of device memory meets the flawed words among them. -/
def State.eccReads (s : State) (rs : List (Nat × Nat)) : State :=
  s.eccReadSpans (rs.flatMap fun r => s.sramSpans r.1 r.2)

/-- A functional read of `n` bytes of device memory. -/
def State.eccRead (s : State) (a n : Nat) : State := s.eccReads [(a, n)]

/-- An uncorrectable error lies in the ranges. -/
def State.eccUeIn (s : State) (rs : List (Nat × Nat)) : Bool :=
  (s.eccIn (rs.flatMap fun r => s.sramSpans r.1 r.2)).any (·.uncorrectable)

/-- Drop the flawed words and the pending write-backs of words that a functional write replaces (R212). -/
def State.eccOverwrite (s : State) (p : SramArray × Nat × Nat) : State :=
  let keep := fun (e : EccError) => !e.within p
  { s with links := { s.links with errors := s.links.errors.filter keep, writebacks := s.links.writebacks.filter keep } }

/-- TST_ECC is armed for this array (R494). -/
def State.tstEccHits (s : State) (arr : SramArray) : Bool :=
  let r := Reg.TST_ECC
  s.bit r 31 && s.fld r 2 0 == arr.level &&
    (arr.level == 4 || (s.fld r 4 4 == arr.die && s.fld r 7 5 == arr.cluster && s.fld r 10 8 == arr.pcore
      && (arr.level == 3 || s.fld r 15 11 == arr.peng)))

/-- Invert a stored bit of the 64-bit word at `a`; bits 64 to 71 are check bits. -/
def State.flipBit (s : State) (a p : Nat) : State :=
  if p < 64 then s.putByte (a + p / 8) (s.byte (a + p / 8) ^^^ BitVec.ofNat 8 (2 ^ (p % 8))) else s

/-- Two flipped bits of the stored word at `a`: which two, the manual leaves open. -/
def State.flipTwo (s : State) (a : Nat) : State :=
  let p := s.drawn % 72
  let q := (p + 1 + (s.draw).drawn % 71) % 72
  ((s.draw 2).flipBit a p).flipBit a q

/-- A write of words of an array: fresh check bits, and the armed injection of TST_ECC, which inverts bits of the first word
and disarms. -/
def State.eccWriteSpan (s : State) (p : SramArray × Nat × Nat) : State :=
  let s := s.eccOverwrite p
  if s.tstEccHits p.1 then
    let e : EccError := ⟨p.1, p.2.1, if s.bit Reg.TST_ECC 3 then .two else .one⟩
    { s.setBit Reg.TST_ECC 31 false with links := { s.links with errors := s.links.errors ++ [e] } }
  else s

/-- The device address of a word of hub memory or of an in-service core's memory. -/
def State.wordAddr (s : State) (arr : SramArray) (word : Nat) : Option Nat :=
  if arr.level = 4 then some (word * 8)
  else if arr.level = 3 then
    ((List.range 64).find? (fun n => s.coreArray n == arr)).map (fun n => 0x10000000 + n * 0x80000 + word * 8)
  else none

/-- The words of a span of an array that a write reaches: the bytes that an injection of two flips inverts. -/
def State.spanWrite (s : State) (p : SramArray × Nat × Nat) : State :=
  let t := s.eccWriteSpan p
  match s.tstEccHits p.1 && s.bit Reg.TST_ECC 3, s.wordAddr p.1 p.2.1 with
  | true, some a => t.flipTwo a
  | _, _ => t

/-- Write bytes to device memory: the bytes, then what the check bits of the words see. -/
def State.store (s : State) (a : Nat) (bs : List Byte) : State :=
  if bs.isEmpty then s else (s.sramSpans a bs.length).foldl State.spanWrite (s.writeBytes a bs)

/-- A flaw of the array's own that a read of a memory word meets: two flipped bits also corrupt the stored data. -/
def State.plantFlaw (s : State) (arr : SramArray) (word : Nat) (flaw : Flaw) : State :=
  let s' := { s with links := { s.links with errors := s.links.errors ++ [⟨arr, word, flaw⟩] } }
  match flaw, s.wordAddr arr word with
  | .two, some a => s'.flipTwo a
  | _, _ => s'

/-! ### Scrubbing (R215) -/

/-- 64-byte reads in a pass over all 162.25 MiB of R199. -/
def scrubPass : Nat := 2658304

/-- SCRUB_PASS_START (R215): a pass that has not ended sets lag, and the new pass goes on from where it stands; else it
starts at the first array. -/
def execScrubPassStart (s : State) : Host.Outcome State Fault Refusal :=
  if s.mainUp && s.bit Reg.MEM_SCRUB_CFG 15 then
    let lag := s.links.scrub.isSome
    let s' := if lag then s.setBit Reg.MEM_SCRUB_CFG 16 true else s
    done { s' with links := { s'.links with
      scrub := some scrubPass, scrubPos := if lag then s.links.scrubPos else 0 } }
  else done s

/-- The array of a level that holds its 64-byte step `i`, each array being `n` steps long, with `per` arrays to a core. -/
def scrubArray (level n per i : Nat) : SramArray × Nat :=
  let e := i / n
  let c := e / per
  (⟨level, c / 40, c / 5 % 8, c % 5, if level = 3 then 0 else e % per⟩, i % n)

/-- Where the scrub stands (R215): the arrays of every unit, spares with them, level by level and in the order of their
physical places, each from its first word on. The order of the arrays is log entry 72. -/
def scrubPlace (i : Nat) : SramArray × Nat :=
  if i < 1392640 then scrubArray 1 1024 17 i
  else if i < 1740800 then scrubArray 2 256 17 (i - 1392640)
  else if i < 2396160 then scrubArray 3 8192 1 (i - 1740800)
  else (hubArray, i - 2396160)

/-- ECC_WRITEBACK (R212): the oldest corrected word is written back. -/
def execEccWriteback (s : State) : Host.Outcome State Fault Refusal :=
  match s.links.writebacks with
  | e :: t => done { s with links := { s.links with writebacks := t, errors := s.links.errors.filter (· != e) } }
  | [] => done s

/-! ### LPDDR5X (R203 to R208) -/

/-- The LPDDR5X domains 11 to 14 run from their PLLs. -/
def State.lpddrClocked (s : State) : Bool := s.fld Reg.CLK_SRC 14 11 == 15

/-- The causes for which a train command is refused (R205). -/
def State.trainRefused (s : State) : Bool :=
  let z := s.fld Reg.MEM_LPDDR_CFG 2 0
  decide (z = 0 ∨ 4 < z) || !s.lpddrClocked || s.bit Reg.MEM_LPDDR_STATUS 1 || s.bit Reg.MEM_LPDDR_STATUS 0

/-- The train command (R205). -/
def State.train (s : State) : State :=
  if s.trainRefused then s.setBit Reg.MEM_LPDDR_STATUS 6 true
  else (s.setFld Reg.MEM_LPDDR_STATUS 5 2 0).setBit Reg.MEM_LPDDR_STATUS 1 true

/-- LPDDR_TRAIN: MEM_CTRL.train. -/
def execLpddrTrain (s : State) : Host.Outcome State Fault Refusal := s.hAccess fun s => s.train

/-- Clear the ECC counters (R229). -/
def State.clrEcc (s : State) : State := (s.setNat Reg.MEM_ECC_CE_CNT 0).setNat Reg.MEM_ECC_UE_CNT 0

/-- MEM_CLR_ECC: MEM_CTRL.clr_ecc. -/
def execMemClrEcc (s : State) : Host.Outcome State Fault Refusal := s.hAccess fun s => s.clrEcc

/-- Clear the weight-load counters (R229). -/
def State.clrSpill (s : State) : State := (s.setReg64 Reg.MEM_WLD_ONCHIP_LO 0).setReg64 Reg.MEM_WLD_SPILL_LO 0

/-- MEM_CLR_SPILL: MEM_CTRL.clr_spill. -/
def execMemClrSpill (s : State) : Host.Outcome State Fault Refusal := s.hAccess fun s => s.clrSpill

/-- MEM_SPILL_RATIO (R210). -/
def State.spillRatio (s : State) : Nat :=
  let on := s.reg64 Reg.MEM_WLD_ONCHIP_LO
  let sp := s.reg64 Reg.MEM_WLD_SPILL_LO
  if on + sp = 0 then 0 else 65536 * sp / (on + sp)

/-- DRAM_TEMP_REPORT (R203, R225). -/
def execDramTempReport (mult : Fin 3) (hot : Bool) (s : State) : Host.Outcome State Fault Refusal :=
  if s.mainUp && s.bit Reg.MEM_LPDDR_STATUS 0 then
    let s' := s.setFld Reg.MEM_LPDDR_STATUS 9 8 mult.val
    done (if hot then s'.setBit Reg.MEM_LPDDR_STATUS 10 true else s')
  else done s

/-! ### Links (R216 to R220, R230, R231) -/

/-- A link's direction. -/
def State.dir (s : State) (i : Nat) (b : Bool) : LinkDir := s.links.dirs.look {} (2 * i + b2n b)

def State.setDir (s : State) (i : Nat) (b : Bool) (d : LinkDir) : State :=
  { s with links := { s.links with dirs := s.links.dirs.put {} (2 * i + b2n b) d } }

/-- Bits [11:0] of SAF_FAULT_LOC for a credit error: the unit is located when it is an engine's buffer or FIFO (R265). -/
def creditUnit (c : CreditError) : Option Nat :=
  if c.hdie || !(c.res == 1 || c.res == 2) then none
  else some (c.die % 2 + c.cluster % 8 * 2 + c.pcore % 8 * 16 + c.peng % 32 * 128)

/-- Record a credit error (R247, R265), stop its unit and raise source 0x02. -/
def State.creditError (s : State) (c : CreditError) : State :=
  let r := Reg.SYN_UF_STATUS
  let s := s.recordFirst r fun s =>
    s.setNat r (s.fld r 1 0 + b2n c.ovf * 4 + c.res % 8 * 16 + c.die % 2 * 128 + c.cluster % 8 * 256 + c.pcore % 8 * 2048
      + c.peng % 32 * 16384 + c.port % 32 * 524288 + b2n c.hdie * 16777216)
  { s with links := { s.links with stopped := s.links.stopped ++ [c] } }.raise { src := 0x02, unit := creditUnit c }

/-- Flits in a replay buffer (R216). -/
def replayDepth : Nat := 64

/-- TST_LNK forces a replay on every n-th flit of this link; 0: on none (R493). -/
def State.forceEvery (s : State) (i : Nat) : Nat :=
  if s.bit Reg.TST_LNK 31 && s.fld Reg.TST_LNK 1 0 == i then s.fld Reg.TST_LNK 25 10 else 0

/-- What a direction makes of a flit (R216): `good` when its check holds and it has no uncorrectable word; `every` is
State.forceEvery. While a requested replay has not been served, every flit is discarded. -/
def LinkDir.receive (d : LinkDir) (seq : Nat) (crcOk good : Bool) (every : Nat) : LinkDir :=
  let n := if crcOk then seq else d.expect
  let fresh := decide (d.replays = 0)
  let d := { d with sent := max d.sent (min (n + 1) (d.expect + replayDepth)), replays := d.replays - 1 }
  if d.asked then d
  else if !(good && seq == d.expect) then { d with asked := true, forced := false }
  else if fresh && every != 0 && decide (every ≤ d.count + 1) then { d with asked := true, forced := true, count := 0 }
  else { d with expect := d.expect + 1, count := if fresh then d.count + 1 else d.count
                streak := if d.last = seq then 0 else d.streak }


/-- A link takes part in traffic. -/
def State.linkRuns (s : State) (i : Nat) : Bool := s.mainUp && s.bit (Reg.LNK_STATUS i) 0 && !s.crossStopped (19 + i)

/-- FLIT_RECEIVE (R216): a flit is accepted in sequence, or discarded with a replay request from the failed number. -/
def execFlitReceive (link : Fin 4) (dirB : Bool) (seq : Nat) (crcOk : Bool) (corrected : Nat) (ue : Bool)
    (credit : Option CreditError) (s : State) : Host.Outcome State Fault Refusal :=
  if s.linkRuns link then
    let s1 := s.incSat (Reg.LNK_CE link) corrected
    let s2 := if ue then s1.setBit (Reg.LNK_STATUS link) 2 true else s1
    let s3 := s2.setDir link dirB ((s.dir link dirB).receive seq crcOk (crcOk && !ue) (s.forceEvery link))
    match credit with
    | some c => done (s3.creditError c)
    | none => done s3
  else done s

/-- Doubles is in force: SAF_CTRL.mode 0x2 with the pair link up and no fall-back (R472, R476). -/
def State.doubles (s : State) : Bool :=
  s.fld Reg.SAF_CTRL 1 0 == 2 && s.bit (Reg.LNK_STATUS 3) 0 && !s.bit Reg.SAF_STATUS 4

/-- The pair link is lost while Doubles runs (R476): source 0x0A, and the fall-back to Single when it is enabled. -/
def State.pairLost (s : State) : State :=
  if s.doubles then
    let s1 := s.raise { src := 0x0A, link := some 3 }
    if s1.safety.dblCfg.getLsbD 9
    then { s1.setBit Reg.SAF_STATUS 4 true with safety := { s1.safety with table := [] } }
    else s1
  else s

/-- A link fails after 16 successive replays of one flit (R218). -/
def State.linkFail (s : State) (i : Nat) : State :=
  let s1 := if i = 3 then s.pairLost else s.raise { src := 0x03, link := some i }
  (s1.setBit (Reg.LNK_STATUS i) 1 true).setBit (Reg.LNK_STATUS i) 0 false

/-- The replay that the receiver has asked for: its first number, its length, and whether TST_LNK forces it. -/
def LinkDir.request? (d : LinkDir) : Option (Nat × Nat × Bool) :=
  if d.asked then some (d.expect, d.sent - d.expect, d.forced) else none

/-- REPLAY_REQUEST (R216, R218): the request reaches the sender, which replays every flit from the one that failed; replays
that TST_LNK forces do not count toward the 16 (R493). A replay that the receiver has not asked for does not happen. -/
def execReplayRequest (link : Fin 4) (dirB : Bool) (seq flits : Nat) (forced : Bool) (s : State) :
    Host.Outcome State Fault Refusal :=
  let d := s.dir link dirB
  if s.linkRuns link && d.request? == some (seq, flits, forced) then
    let k := d.sent - d.expect
    let n := if d.forced then d.streak else if d.last = d.expect ∧ d.streak ≠ 0 then d.streak + 1 else 1
    let s1 := (s.incSat (Reg.LNK_RETRY link) k).setDir link dirB
      { d with asked := false, forced := false, replays := k, last := if d.forced then d.last else d.expect, streak := n }
    done (if !d.forced && decide (16 ≤ n) then s1.linkFail link else s1)
  else done s

/-- The pair_train command (R220, R231). -/
def State.pairTrain (s : State) (p : Path) : State :=
  if s.bit (Reg.LNK_STATUS 3) 0 || s.bit (Reg.LNK_STATUS 3) 3 then s
  else if !s.bit Reg.CLK_SRC 22 then s.badWrite p Reg.LNK_CTRL
  else (s.setBit (Reg.LNK_STATUS 3) 1 false).setBit (Reg.LNK_STATUS 3) 3 true

/-- PAIR_TRAIN: LNK_CTRL.pair_train. -/
def execPairTrain (path : Path) (s : State) : Host.Outcome State Fault Refusal :=
  s.hWrite Reg.LNK_CTRL fun s => s.pairTrain path

/-- PAIR_TRAIN_DONE (R220): the link comes up, its sequence numbers at their start. -/
def execPairTrainDone (s : State) : Host.Outcome State Fault Refusal :=
  if s.mainUp && s.bit (Reg.LNK_STATUS 3) 3 then
    done ((((s.setBit (Reg.LNK_STATUS 3) 3 false).setBit (Reg.LNK_STATUS 3) 0 true).setDir 3 false {}).setDir 3 true {})
  else done s

/-- PAIR_TRAIN_TIMEOUT (R220). -/
def execPairTrainTimeout (s : State) : Host.Outcome State Fault Refusal :=
  if s.mainUp && s.bit (Reg.LNK_STATUS 3) 3 then
    done ((s.setBit (Reg.LNK_STATUS 3) 3 false).setBit (Reg.LNK_STATUS 3) 1 true)
  else done s

/-- The pair_stop command (R231). -/
def State.pairStop (s : State) : State := (s.setBit (Reg.LNK_STATUS 3) 0 false).setBit (Reg.LNK_STATUS 3) 3 false

/-- PAIR_STOP: LNK_CTRL.pair_stop. -/
def execPairStop (s : State) : Host.Outcome State Fault Refusal := s.hWrite Reg.LNK_CTRL fun s => s.pairStop

/-- Clear every link's counters (R231). -/
def State.lnkClr (s : State) : State :=
  (List.range 4).foldl (fun s i => (((s.setNat (Reg.LNK_RETRY i) 0).setNat (Reg.LNK_CE i) 0).setNat (Reg.LNK_STALL_A i) 0).setNat
    (Reg.LNK_STALL_B i) 0) s

/-- LNK_CLR: LNK_CTRL.clr. -/
def execLnkClr (s : State) : Host.Outcome State Fault Refusal := s.hWrite Reg.LNK_CTRL fun s => s.lnkClr

/-- PAIR_LINK_DOWN (R466, R476): the pair link loses LNK_STATUS3.up without a pair_stop. -/
def execPairLinkDown (s : State) : Host.Outcome State Fault Refusal :=
  if s.mainUp && s.bit (Reg.LNK_STATUS 3) 0 then done (s.pairLost.setBit (Reg.LNK_STATUS 3) 0 false) else done s

end Sys2Proof.Machine
end

