-- ==== Sys2Proof/Machine/Numbers.lean ====
section
/-! DEFINITION. The arithmetic of R76 to R112: exact rationals, the one rounding to integers and to the floating-point
formats, the codebooks, and the saturating accumulator. -/

namespace Sys2Proof.Machine

/-- An exact rational: numerator and denominator, not reduced; the denominator is never 0. -/
structure Q where
  num : Int
  den : Nat
  deriving DecidableEq, Repr

namespace Q

def ofInt (n : Int) : Q := ⟨n, 1⟩
def add (a b : Q) : Q := ⟨a.num * b.den + b.num * a.den, a.den * b.den⟩
def neg (a : Q) : Q := ⟨-a.num, a.den⟩
def sub (a b : Q) : Q := a.add b.neg
def mul (a b : Q) : Q := ⟨a.num * b.num, a.den * b.den⟩
/-- Quotient by a number that is not 0. -/
def div (a b : Q) : Q :=
  if b.num < 0 then ⟨-(a.num * b.den), a.den * b.num.natAbs⟩ else ⟨a.num * b.den, a.den * b.num.natAbs⟩
def lt (a b : Q) : Bool := decide (a.num * b.den < b.num * a.den)
def le (a b : Q) : Bool := decide (a.num * b.den ≤ b.num * a.den)
def eq (a b : Q) : Bool := decide (a.num * b.den = b.num * a.den)
def abs (a : Q) : Q := ⟨(a.num.natAbs : Int), a.den⟩
def isZero (a : Q) : Bool := decide (a.num = 0)
/-- The number times a power of two. -/
def scale2 (a : Q) (e : Int) : Q := if 0 ≤ e then ⟨a.num * ((2 ^ e.toNat : Nat) : Int), a.den⟩ else ⟨a.num, a.den * 2 ^ (-e).toNat⟩
/-- The same number in lowest terms. -/
def norm (a : Q) : Q := let g := Nat.gcd a.num.natAbs a.den; ⟨a.num / (g : Int), a.den / g⟩

end Q

/-- Round a non-negative quotient to the nearest integer, ties up. -/
def rnaNat (n d : Nat) : Nat := (2 * n + d) / (2 * d)

/-- Rounding to an integer, ties away from zero (R77). -/
def rna (y : Q) : Int := if y.num < 0 then -(rnaNat y.num.natAbs y.den : Int) else (rnaNat y.num.natAbs y.den : Int)

/-- The floating-point formats of R79. -/
inductive Fp where
  | fp16 | bf16 | fp32
  deriving DecidableEq, Repr

/-- Bits of the fraction field. -/
def Fp.frac : Fp → Nat
  | .fp16 => 10
  | .bf16 => 7
  | .fp32 => 23

/-- Bits of the exponent field. -/
def Fp.expBits : Fp → Nat
  | .fp16 => 5
  | .bf16 => 8
  | .fp32 => 8

def Fp.bias (f : Fp) : Nat := 2 ^ (f.expBits - 1) - 1

/-- Width in bytes. -/
def Fp.bytes : Fp → Nat
  | .fp32 => 4
  | _ => 2

/-- The sign bit's position. -/
def Fp.signBit (f : Fp) : Nat := f.frac + f.expBits

/-- The code of infinity without its sign. -/
def Fp.infCode (f : Fp) : Nat := (2 ^ f.expBits - 1) * 2 ^ f.frac

/-- The NaN that the vector unit produces (R79); which NaN an FP32 result takes is not stated (log entry 12). -/
def Fp.nanCode : Fp → Nat
  | .fp16 => 0x7E00
  | .bf16 => 0x7FC0
  | .fp32 => 0x7F800001 + Config.nan32 % 0x7FFFFF

/-- What a floating-point code stands for; a zero keeps its sign. -/
inductive FpVal where
  | nan
  | inf (neg : Bool)
  | fin (neg : Bool) (v : Q)
  deriving DecidableEq, Repr

/-- Read a code (R79): a BF16 subnormal is read as zero of its sign. -/
def Fp.read (f : Fp) (c : Nat) : FpVal :=
  let s := c.testBit f.signBit
  let e := c / 2 ^ f.frac % 2 ^ f.expBits
  let m := c % 2 ^ f.frac
  if e = 2 ^ f.expBits - 1 then (if m = 0 then .inf s else .nan)
  else
    let sg : Int := if s then -1 else 1
    if e = 0 then
      if f = .bf16 then .fin s ⟨0, 1⟩
      else .fin s ((Q.ofInt (sg * m)).scale2 (1 - (f.bias : Int) - f.frac))
    else .fin s ((Q.ofInt (sg * ((2 ^ f.frac + m : Nat) : Int))).scale2 ((e : Int) - f.bias - f.frac))

/-- The exponent of a positive quotient: the e with 2^e ≤ n/d < 2^(e+1). -/
def ilog2 (n d : Nat) : Int :=
  let e : Int := (Nat.log2 n : Int) - Nat.log2 d
  let ge := if 0 ≤ e then decide (d * 2 ^ e.toNat ≤ n) else decide (d ≤ n * 2 ^ (-e).toNat)
  if ge then e else e - 1

/-- rnf_F of a magnitude (R78, with the flush of R79 for BF16): the code without its sign. -/
def Fp.roundMag (f : Fp) (n d : Nat) : Nat :=
  if n = 0 then 0 else
  let emin : Int := 1 - f.bias
  let e := max (ilog2 n d) emin
  let q := e - f.frac
  let m := if 0 ≤ q then rnaNat n (d * 2 ^ q.toNat) else rnaNat (n * 2 ^ (-q).toNat) d
  -- m is at most 2^(frac+1); adding it to the exponent field carries by itself
  let code := if m < 2 ^ f.frac then m else ((e - emin).toNat) * 2 ^ f.frac + m
  if f = .bf16 ∧ m < 2 ^ f.frac then 0
  else if f.infCode ≤ code then f.infCode else code

/-- rnf_F with the sign of the exact result; an exact zero takes the sign given. -/
def Fp.rnf (f : Fp) (y : Q) (zeroNeg : Bool := false) : Nat :=
  let neg := decide (y.num < 0) || (decide (y.num = 0) && zeroNeg)
  f.roundMag y.num.natAbs y.den + b2n neg * 2 ^ f.signBit

/-- The largest finite value. -/
def Fp.maxFin (f : Fp) : Q := (Q.ofInt ((2 ^ (f.frac + 1) - 1 : Nat) : Int)).scale2 ((f.bias : Int) - f.frac)

/-- The number a finite code stands for; 0 for NaN and infinity. -/
def Fp.val (f : Fp) (c : Nat) : Q :=
  match f.read c with
  | .fin _ v => v
  | _ => ⟨0, 1⟩

/-- rnf32 of an exact value, as the exact value it stands for (finite results). -/
def rnf32 (y : Q) : Nat := Fp.fp32.rnf y

/-! ### Codebooks (R81, R82) -/

/-- The 16 levels of a codebook in memory, Q1.14. -/
def codebookOf (n : Nat) : List Int := (List.range 16).map (fun c => sgn 16 (fld n (16 * c + 15) (16 * c)))

/-- Strictly increasing (R82). -/
def increasing : List Int → Bool
  | a :: b :: t => decide (a < b) && increasing (b :: t)
  | _ => true

/-! ### Scale entries (R93, R94) -/

/-- The fields of a scale entry. -/
def entScale (n : Nat) : Nat := fld n 31 0
def entZp (n : Nat) : Nat := fld n 39 32
def entSeq (n : Nat) : Nat := fld n 63 48

/-- The largest activation code of a format (R91): A8 is 0x0, A4 is 0x1. -/
def qmaxOf (fmt : Nat) : Nat := if fmt = 1 then 15 else 255

/-- A faulty entry (R94): the scale is zero, negative, infinite or NaN, or the zero point is above qmax. -/
def entFaulty (n qmax : Nat) : Bool :=
  let c := entScale n
  decide (c = 0) || decide (Fp.infCode .fp32 ≤ c) || decide (qmax < entZp n)

/-- The scale of an entry, exactly. -/
def entScaleQ (n : Nat) : Q := Fp.fp32.val (entScale n)

/-! ### Products and accumulators (R108 to R111, R118 to R122) -/

/-- The largest and smallest accumulator. -/
def accMax : Int := 549755813887
def accMin : Int := -549755813888

/-- The saturating addition of R110. -/
def satAcc (a : Int × Bool) (t : Int) : Int × Bool :=
  let v := a.1 + t
  if accMax < v then (accMax, true) else if v < accMin then (accMin, true) else (v, a.2)

/-- A product table (R118). -/
def productTable (cb : List Int) (q z : Nat) : List Int := cb.map (fun l => l * ((q : Int) - z))

/-- The four passes of W8A8 for one weight byte and one code (R122). -/
def w8Product (w q z : Nat) : Int :=
  let wh := sgn 4 (w / 16)
  let wl : Int := (w % 16 : Nat)
  let ph : Int := 16 * ((q / 16 : Nat) : Int) - z
  let pl : Int := (q % 16 : Nat)
  128 * wl * pl + 128 * wl * ph + 2048 * wh * pl + 2048 * wh * ph

end Sys2Proof.Machine
end

