-- ==== Sys2Proof/Machine/Tensors.lean ====
section
/-! DEFINITION. Tensor descriptors, group references and queue entries as the machine reads them (R20, R274 to R286). -/

namespace Sys2Proof.Machine

/-! ### Tensor descriptors (R274): `d` is the 64-byte entry as a number -/

def dBase (d : Nat) : Nat := fld d 63 0
def dFmt (d : Nat) : Nat := fld d 67 64
def dRank (d : Nat) : Nat := fld d 70 68
def dSsrc (d : Nat) : Nat := fld d 73 72
def dDim0 (d : Nat) : Nat := fld d 103 80
def dDim1 (d : Nat) : Nat := fld d 127 104
def dDim2 (d : Nat) : Nat := fld d 151 128
def dDim3 (d : Nat) : Nat := fld d 175 152
def dStride1 (d : Nat) : Nat := fld d 207 176
def dStride2 (d : Nat) : Nat := fld d 239 208
def dStride3 (d : Nat) : Nat := fld d 271 240
def dAux0 (d : Nat) : Nat := fld d 335 272
def dAux1 (d : Nat) : Nat := fld d 399 336

/-- The formats of R274. -/
abbrev fA8 : Nat := 0
abbrev fA4 : Nat := 1
abbrev fW4 : Nat := 2
abbrev fW8 : Nat := 3
abbrev fFP16 : Nat := 4
abbrev fBF16 : Nat := 5
abbrev fFP32 : Nat := 6
abbrev fRAW40 : Nat := 7

def isCodes (d : Nat) : Bool := decide (dFmt d ≤ 1)
def isWeights (d : Nat) : Bool := decide (dFmt d = fW4) || decide (dFmt d = fW8)
def isFloat (d : Nat) : Bool := decide (fFP16 ≤ dFmt d ∧ dFmt d ≤ fFP32)

/-- The floating-point format of a float tensor. -/
def dFp (d : Nat) : Fp := if dFmt d = fFP16 then .fp16 else if dFmt d = fBF16 then .bf16 else .fp32

/-- Bytes of a run of `n` elements of a format; an odd run of nibbles takes a whole last byte (R80, R92). -/
def runBytes (fmt n : Nat) : Nat :=
  if fmt = fA4 ∨ fmt = fW4 then (n + 1) / 2
  else if fmt = fA8 ∨ fmt = fW8 then n
  else if fmt = fFP16 ∨ fmt = fBF16 then 2 * n
  else if fmt = fFP32 then 4 * n else 8 * n

/-- Rows of a tensor (R275), or runs of a weight tensor (R276). -/
def dRows (d : Nat) : Nat :=
  if isWeights d then cdiv (dDim1 d) 128 * dDim2 d else dDim1 d * dDim2 d * dDim3 d

/-- Bytes of a row or run. -/
def dRowBytes (d : Nat) : Nat := runBytes (dFmt d) (dDim0 d)

/-- Device address of row `k` (R275), or of run `k mod K` of tile `k / K` (R276). -/
def dRowAddr (d k : Nat) : Nat :=
  if isWeights d then dBase d + (k / dDim2 d) * dStride2 d + (k % dDim2 d) * dStride1 d
  else dBase d + (k % dDim1 d) * dStride1 d + (k / dDim1 d % dDim2 d) * dStride2 d + (k / (dDim1 d * dDim2 d)) * dStride3 d

/-- Device address of the scale entry of row `k` (R93, R275). -/
def dScaleAddr (d k : Nat) : Nat := if dSsrc d = 2 then dAux0 d else dAux0 d + 8 * k

/-- Element `i` of a packed row of unsigned codes. -/
def codeAt (fmt : Nat) (bs : List Byte) (i : Nat) : Nat :=
  if fmt = fA4 ∨ fmt = fW4 then
    let b := (bs.getD (i / 2) 0).toNat
    if i % 2 = 0 then b % 16 else b / 16
  else (bs.getD i 0).toNat

/-- Pack codes into bytes: one to a byte, or two nibbles to a byte with an unused upper nibble 0 (R80, R92). -/
def packNibbles : List Nat → List Byte
  | [] => []
  | [a] => [BitVec.ofNat 8 (a % 16)]
  | a :: b :: t => BitVec.ofNat 8 (a % 16 + 16 * (b % 16)) :: packNibbles t

def packCodes (fmt : Nat) (cs : List Nat) : List Byte :=
  if fmt = fA4 ∨ fmt = fW4 then packNibbles cs else cs.map (BitVec.ofNat 8)

/-- The codes of elements `lo` to `lo + n - 1` of row `k`. -/
def State.rowCodes (s : State) (d k lo n : Nat) : List Nat :=
  let bs := s.readBytes (dRowAddr d k) (dRowBytes d)
  (List.range n).map (fun i => codeAt (dFmt d) bs (lo + i))

/-- The floating-point codes of row `k`. -/
def State.rowFloats (s : State) (d k : Nat) : List Nat :=
  let w := (dFp d).bytes
  (List.range (dDim0 d)).map (fun i => s.readNat (dRowAddr d k + w * i) w)

/-! ### Group references (R20) -/

/-- Engines of a level. -/
def groupSize (g : Nat) : Nat :=
  match fld g 2 0 with
  | 1 => 16
  | 2 => 64
  | 3 => 512
  | 4 => 1024
  | _ => 0

/-- A group reference is valid: its level is not reserved, its index is in range, bits [15:9] are 0. -/
def groupValid (g : Nat) : Bool :=
  decide (groupSize g ≠ 0) && decide ((fld g 8 3 + 1) * groupSize g ≤ 1024) && decide (fld g 15 9 = 0)

/-- The first logical engine of a group. -/
def groupBase (g : Nat) : Nat := fld g 8 3 * groupSize g

/-- The logical cores of a group, in order. -/
def groupCores (g : Nat) : List Nat := (List.range (groupSize g / 16)).map (fun i => groupBase g / 16 + i)

/-- Group `a` lies within group `b`. -/
def groupWithin (a b : Nat) : Bool :=
  decide (groupBase b ≤ groupBase a) && decide (groupBase a + groupSize a ≤ groupBase b + groupSize b)

/-! ### QDT entries (R278): `q` is the 64-byte entry as a number -/

def qGroup (q : Nat) : Nat := fld q 15 0
def qCtx (q : Nat) : Nat := fld q 17 16
def qRev (q : Nat) : Nat := fld q 31 24
def qRingLog2 (q : Nat) : Nat := fld q 35 32
def qRingBase (q : Nat) : Nat := fld q 127 64
def qSubmit (q : Nat) : Nat := fld q 143 128
def qSlot (q : Nat) : Nat := fld q 159 144
def qStart (q : Nat) : Nat := fld q 207 160

/-- Package contexts of a queue's entry, the lead first (R154). -/
def qCtxs (q : Nat) : List Nat := (groupCores (qGroup q)).map (fun n => 4 * n + qCtx q)

/-- The lead's package context. -/
def qLead (q : Nat) : Nat := 4 * (groupBase (qGroup q) / 16) + qCtx q

/-- The entry keeps every rule of R278 and names revision 3 (R269). -/
def qdtOk (q : Nat) : Bool :=
  groupValid (qGroup q) && decide (fld q 23 18 = 0) && decide (qRev q = 3)
    && decide (4 ≤ qRingLog2 q ∧ qRingLog2 q ≤ 20) && decide (fld q 63 36 = 0)
    && decide (qRingBase q % 4096 = 0)
    && (let last := qRingBase q + 64 * 2 ^ qRingLog2 q - 1
        (regionOf (qRingBase q) == some .hub && regionOf last == some .hub)
          || (regionOf (qRingBase q) == some .lpddr && regionOf last == some .lpddr))
    && decide (qSubmit q < 0x1000) && (decide (qSlot q < 0x1000) || decide (qSlot q = 0xFFFF))
    && decide (fld q 511 208 = 0)

/-! ### Queue entries (R283 to R286): `e` is the 64-byte entry as a number -/

def eKind (e : Nat) : Nat := fld e 3 0
def ePred0 (e : Nat) : Nat := fld e 15 8
def ePred1 (e : Nat) : Nat := fld e 23 16
def eGroup (e : Nat) : Nat := fld e 47 32
def eOp (e : Nat) : Nat := fld e 57 48
def eStream (e : Nat) : Nat := fld e 68 64
def eStats (e : Nat) : Bool := e.testBit 69
def eMode (e : Nat) : Nat := fld e 71 70
def eHalf (e : Nat) : Nat := fld e 73 72
/-- Operand slot i: in0, in1, in2, out, acc. -/
def eSlot (e i : Nat) : Nat := fld e (128 + 32 * i + 31) (128 + 32 * i)
def eSlotValid (e i : Nat) : Bool := (eSlot e i).testBit 31
/-- TDT index in a slot. -/
def eIdx (e i : Nat) : Nat := fld (eSlot e i) 19 0
def eImm0 (e : Nat) : Nat := fld e 383 320
def eImm1 (e : Nat) : Nat := fld e 447 384
def eImm2 (e : Nat) : Nat := fld e 511 448
/-- ε of LAYERNORM and RMSNORM. -/
def eEps (e : Nat) : Nat := fld (eImm0 e) 31 0
def eSplit (e : Nat) : Nat := fld (eImm0 e) 6 0

/-- CONV2D and POOL_MAX window fields (R286). -/
def eKh (e : Nat) : Nat := fld (eImm1 e) 3 0
def eKw (e : Nat) : Nat := fld (eImm1 e) 7 4
def eSh (e : Nat) : Nat := fld (eImm1 e) 11 8
def eSw (e : Nat) : Nat := fld (eImm1 e) 15 12
def ePh (e : Nat) : Nat := fld (eImm1 e) 19 16
def ePw (e : Nat) : Nat := fld (eImm1 e) 23 20
def eDh (e : Nat) : Nat := fld (eImm1 e) 27 24
def eDw (e : Nat) : Nat := fld (eImm1 e) 31 28

def wCtr (e : Nat) : Nat := fld e 47 32
def wExp (e : Nat) : Nat := fld e 111 64
def sAmt (e : Nat) : Nat := fld e 63 48
def aRoot (e : Nat) : Nat := fld e 37 32
def aWait (e : Nat) : Bool := e.testBit 48
def aTag (e : Nat) : Nat := fld e 95 64

/-! ### Operator codes (R273) -/

abbrev cLINEAR : Nat := 0x001
abbrev cCONV2D : Nat := 0x002
abbrev cENCODE_ROW : Nat := 0x010
abbrev cENCODE_WEIGHT : Nat := 0x011
abbrev cADD : Nat := 0x020
abbrev cSUB : Nat := 0x021
abbrev cMUL : Nat := 0x022
abbrev cFMA : Nat := 0x023
abbrev cMIN : Nat := 0x024
abbrev cMAX : Nat := 0x025
abbrev cABS : Nat := 0x026
abbrev cNEG : Nat := 0x027
abbrev cCMP : Nat := 0x028
abbrev cSELECT : Nat := 0x029
abbrev cRELU : Nat := 0x02A
abbrev cCLAMP : Nat := 0x02B
abbrev cCONVERT : Nat := 0x030
abbrev cEXP : Nat := 0x040
abbrev cRECIP : Nat := 0x041
abbrev cSQRT : Nat := 0x042
abbrev cRSQRT : Nat := 0x043
abbrev cSIGMOID : Nat := 0x044
abbrev cTANH : Nat := 0x045
abbrev cGELU : Nat := 0x046
abbrev cSILU : Nat := 0x047
abbrev cRESCALE : Nat := 0x050
abbrev cROW_MAX : Nat := 0x060
abbrev cROW_MIN : Nat := 0x061
abbrev cROW_SUM : Nat := 0x062
abbrev cROW_SUMSQ : Nat := 0x063
abbrev cSOFTMAX : Nat := 0x070
abbrev cLAYERNORM : Nat := 0x071
abbrev cRMSNORM : Nat := 0x072
abbrev cREDUCE : Nat := 0x080
abbrev cCOPY : Nat := 0x090
abbrev cPOOL_MAX : Nat := 0x0A0

/-- The implemented codes. -/
def opCodes : List Nat := [cLINEAR, cCONV2D, cENCODE_ROW, cENCODE_WEIGHT, cADD, cSUB, cMUL, cFMA, cMIN, cMAX, cABS, cNEG, cCMP,
  cSELECT, cRELU, cCLAMP, cCONVERT, cEXP, cRECIP, cSQRT, cRSQRT, cSIGMOID, cTANH, cGELU, cSILU, cRESCALE, cROW_MAX, cROW_MIN,
  cROW_SUM, cROW_SUMSQ, cSOFTMAX, cLAYERNORM, cRMSNORM, cREDUCE, cCOPY, cPOOL_MAX]

def isEngineOp (c : Nat) : Bool := decide (c = cLINEAR) || decide (c = cCONV2D)

/-- The operand slots that an operator's row of R273 names: in0, in1, in2, out, acc. LINEAR and CONV2D may name acc. -/
def opNames (c : Nat) : List Bool :=
  if isEngineOp c then [true, true, false, true, false]
  else if c = cADD ∨ c = cSUB ∨ c = cMUL ∨ c = cMIN ∨ c = cMAX ∨ c = cCMP ∨ c = cRESCALE ∨ c = cRMSNORM then
    [true, true, false, true, false]
  else if c = cFMA ∨ c = cSELECT ∨ c = cLAYERNORM then [true, true, true, true, false]
  else [true, false, false, true, false]

end Sys2Proof.Machine
end

