-- ==== Sys2Proof/Machine/Queues.lean ====
section
/-! DEFINITION. Contexts, scoreboards, operators in flight, and what a fault of a queue does (R153 to R164, R184, R290). -/

namespace Sys2Proof.Machine

/-- Rewrite every entry of a sparse map. -/
def SMap.rewrite {α : Type} [DecidableEq α] (d : α) (f : Nat → α → α) (m : SMap α) : SMap α :=
  m.foldl (fun acc e => SMap.put d acc e.1 (f e.1 e.2)) []

/-! ### Contexts -/

def State.ctx (s : State) (k : Nat) : Ctx := s.sched.ctxs.look {} k

def State.setCtx (s : State) (k : Nat) (c : Ctx) : State :=
  { s with sched := { s.sched with ctxs := s.sched.ctxs.put {} k c } }

/-- Change every context of a list. -/
def State.mapCtxs (s : State) (ks : List Nat) (f : Ctx → Ctx) : State :=
  ks.foldl (fun s k => s.setCtx k (f (s.ctx k))) s

/-- No context is outside IDLE (R32): idle contexts are unlisted. -/
def State.allIdle (s : State) : Bool := s.sched.ctxs.all (fun e => e.2.mode == .idle)

/-- The QDT entry of a queue, as cached at the load. -/
def State.qdt (s : State) (q : Nat) : Nat := s.roots.qdt.entries.getD q 0

/-- The queue is bound: the lead of its entry runs it. -/
def State.bound (s : State) (q : Nat) : Bool :=
  let c := s.ctx (qLead (s.qdt q))
  groupValid (qGroup (s.qdt q)) && c.mode != .idle && c.lead && c.queue == q

/-- SCH_CTX_CFGk.prio and the reserve r_c, 64 at most (R193). -/
def State.prio (s : State) (k : Nat) : Nat := s.fld (Reg.SCH_CTX_CFG k) 1 0
def State.reserve (s : State) (k : Nat) : Nat := min 64 (s.fld (Reg.SCH_CTX_CFG k) 14 8)

/-! ### Scoreboards -/

def State.sbAt (s : State) (core idx : Nat) : SbEntry := s.sched.sb.look {} (64 * core + idx)

def State.setSb (s : State) (core idx : Nat) (e : SbEntry) : State :=
  { s with sched := { s.sched with sb := s.sched.sb.put {} (64 * core + idx) e } }

/-- The entries in use on a core, with their keys. -/
def State.sbCore (s : State) (core : Nat) : List (Nat × SbEntry) :=
  s.sched.sb.filter (fun e => e.1 / 64 == core && e.2.valid)

/-- SCH_OCCn.used (R198). -/
def State.occ (s : State) (core : Nat) : Nat := (s.sbCore core).length

/-- Entries in use by a context (u_c). -/
def State.used (s : State) (k : Nat) : Nat := ((s.sbCore (k / 4)).filter (fun e => e.2.ctx == k % 4)).length

/-- Whether the reserves let context `k` take an entry (R161), and one is free. -/
def State.sbRoom (s : State) (k : Nat) : Bool :=
  let core := k / 4
  let cs := (List.range 4).map (fun c => 4 * core + c)
  let pool := 64 - (cs.map s.reserve).sum
  let ovf := (cs.map (fun d => s.used d - s.reserve d)).sum
  decide (s.occ core < 64) && (decide (s.used k < s.reserve k) || decide (ovf < pool))

/-- The lowest free entry. -/
def State.sbFree (s : State) (core : Nat) : Nat :=
  ((List.range 64).find? (fun i => !(s.sbAt core i).valid)).getD 0

/-! ### Operators in flight -/

/-- Change one operator. -/
def State.setOp (s : State) (o : Op) : State :=
  { s with sched := { s.sched with ops := s.sched.ops.map (fun p => if p.queue = o.queue ∧ p.entry = o.entry then o else p) } }

/-- An operator in flight by queue and entry index. -/
def State.op? (s : State) (q entry : Nat) : Option Op := s.sched.ops.find? (fun o => o.queue == q && o.entry == entry)

/-- Operators of a queue not yet retired on every core. -/
def State.opsOf (s : State) (q : Nat) : List Op := s.sched.ops.filter (fun o => o.queue == q)

/-- Every predecessor has retired (R162). -/
def State.unblocked (s : State) (o : Op) : Bool := o.preds.all (fun p => (s.op? o.queue p).isNone)

/-- The part of an operator on a core. -/
def Op.part? (o : Op) (core : Nat) : Option OpPart := o.parts.find? (fun p => p.core == core)

/-- Change the part on a core. -/
def Op.setPart (o : Op) (p : OpPart) : Op :=
  { o with parts := o.parts.map (fun x => if x.core = p.core then p else x) }

/-- The operator has retired on every core of its group, and so has completed (R283). -/
def Op.complete (o : Op) : Bool := o.parts.all (fun p => decide (p.phase = .retired) || decide (p.phase = .reported))

/-- Operators of a queue that have not completed. -/
def State.openOps (s : State) (q : Nat) : List Op := (s.opsOf q).filter (fun o => !o.complete)

/-- The lowest entry index of a queue that has not completed (R290). -/
def State.resumePoint (s : State) (q : Nat) : Nat :=
  (s.openOps q).foldl (fun m o => min m o.entry) (s.ctx (qLead (s.qdt q))).pos

/-! ### Output tensors -/

/-- The pieces of an operator's output: (tile, row, address, bytes). An engine operator writes a row in tiles of 128
lanes; any other operator writes whole rows. -/
def outPieces (o : Op) : List (Nat × Nat × Nat × Nat) :=
  let d := o.out
  let rows := List.range (dRows d)
  if isEngineOp o.code then
    (List.range (cdiv (dDim0 d) 128)).flatMap fun t => rows.map fun r =>
      (t, r, dRowAddr d r + runBytes (dFmt d) (128 * t), runBytes (dFmt d) (min 128 (dDim0 d - 128 * t)))
  else rows.map fun r => (0, r, dRowAddr d r, dRowBytes d)

/-- The scale entries that an operator writes with its rows of codes: those of a dynamic output, and those that COPY moves. -/
def outEntries (o : Op) : List Nat :=
  if isCodes o.out && !isEngineOp o.code && (dSsrc o.out == 0 || o.code == cCOPY) then
    List.range (if dSsrc o.out = 2 then 1 else dRows o.out)
  else []

/-- An operator leaves the pieces of its output that `keep` does not name unspecified, with the scale entries that it
would have written (R290). -/
def State.unspecify (s : State) (o : Op) (keep : Nat → Nat → Bool) : State :=
  let s1 := (outPieces o).foldl (fun s p => if keep p.1 p.2.1 then s else s.scramble p.2.2.1 p.2.2.2) s
  (outEntries o).foldl (fun s r => if keep 0 r then s else s.scramble (dScaleAddr o.out r) 8) s1

/-- The rows of a tensor as ranges. -/
def rowRanges (d : Nat) : List (Nat × Nat) := (List.range (dRows d)).map (fun k => (dRowAddr d k, dRowBytes d))

/-- The ranges of an operator's output tensor. -/
def Op.outRanges (o : Op) : List (Nat × Nat) :=
  (outPieces o).map (fun p => (p.2.2.1, p.2.2.2)) ++ (outEntries o).map (fun r => (dScaleAddr o.out r, 8))

/-- The ranges of an operator's input tensors. -/
def Op.inRanges (o : Op) : List (Nat × Nat) :=
  let names := opNames o.code
  rowRanges o.in0 ++ (if names.getD 1 false then rowRanges o.in1 else []) ++ (if names.getD 2 false then rowRanges o.in2 else [])
    ++ (if o.hasAcc then rowRanges o.acc else [])
    ++ (if isCodes o.in0 then (List.range (if dSsrc o.in0 = 2 then 1 else dRows o.in0)).map (fun r => (dScaleAddr o.in0 r, 8)) else [])

/-- Two ranges have a byte in common. -/
def meets (a b : Nat × Nat) : Bool := decide (a.1 < b.1 + b.2) && decide (b.1 < a.1 + a.2)

/-- An operator's output overlaps one of its inputs: its result is not specified (R271). -/
def Op.overlaps (o : Op) : Bool := o.outRanges.any (fun a => o.inRanges.any (meets a))

/-- A piece of result that an operator has written, left unspecified where its output overlaps an input (R271). -/
def State.blur (s : State) (o : Op) (a n : Nat) : State := if o.overlaps then s.scramble a n else s

/-! ### Stopping a queue -/

def State.ctr (s : State) (c : Nat) : Counter := s.sync.ctrs.look {} c

def State.setCtr (s : State) (c : Nat) (x : Counter) : State :=
  { s with sync := { s.sync with ctrs := s.sync.ctrs.put {} c x } }

/-- Withdraw a context's waiter record (R156, R184). -/
def State.withdraw (s : State) (k : Nat) : State :=
  match (s.ctx k).wait with
  | some (c, _) =>
    let x := s.ctr c
    let s1 := s.setCtr c { x with waiters := x.waiters.filter (fun w => w.ctx != k) }
    s1.setCtx k { s1.ctx k with wait := none, registered := false }
  | none => s

/-- An engine drops a queue's weights, row and finished row. -/
def Engine.drop (q : Nat) (e : Engine) : Engine :=
  let mine := fun (h : WeightHalf) => match h.owner with | some o => o.1 == q | none => false
  let running := match e.run with | some r => mine (if r.half then e.half1 else e.half0) | none => false
  { e with
    half0 := if mine e.half0 then {} else e.half0
    half1 := if mine e.half1 then {} else e.half1
    run := if running then none else e.run
    accs := if running then [] else e.accs
    latch := match e.latch with | some l => if l.owner.1 = q then none else some l | none => none }

/-- Every unit drops a queue's rows (R184). -/
def State.dropUnits (s : State) (q : Nat) : State :=
  { s with engines :=
    { eng := s.engines.eng.rewrite {} (fun _ e => e.drop q)
      partials := s.engines.partials.filter (fun p => p.owner.1 != q)
      combines := s.engines.combines.filter (fun p => p.owner.1 != q) } }

/-- The record of an operator that has retired on every core (R470). -/
def Op.record (o : Op) : DigestRec :=
  { d := o.digest % 2 ^ 64, index := o.entry % 2 ^ 48, id := o.queue, kind := 0, sat := o.satSeen, rows := dRows o.out % 2 ^ 24 }

/-- The unit identifier of a context (R236). -/
def ctxUnit (k : Nat) : Nat := 0x1000 + k

/-- A counter operation that the store holds comes from one of these contexts. -/
def HeldOp.from (ks : List Nat) : HeldOp → Bool
  | .add _ _ u => ks.any (fun k => u == ctxUnit k)
  | _ => false

/-- What contexts have sent to the counter stores and is not yet applied is withdrawn: no signal of a queue takes effect after
its fault (R184). -/
def Sync.recall (y : Sync) (ks : List Nat) : Sync :=
  { y with
    held := y.held.filter (fun h => !h.from ks)
    arrivals := y.arrivals.filter (fun a => !(decide (a.node < 16) && ks.any (fun k => a.ctx == some k))) }

/-- Stop a queue with the effects of R184: its entries are freed, its units drop its rows, a waiter record and signals not
yet applied are withdrawn, its contexts enter FAULTED; what its operators had not completed is unspecified (R290) but for the
pieces `keep` names, and those that had completed leave their records. -/
def State.stopQueue (s : State) (q : Nat) (keep : Op → Nat → Nat → Bool) : State :=
  if s.bound q then
    let ks := qCtxs (s.qdt q)
    let s1 := (s.openOps q).foldl (fun s o => s.unspecify o (keep o)) s
    let s2 := ks.foldl (fun s k => s.withdraw k) s1
    let s3 := s2.mapCtxs ks (fun c => { c with mode := .faulted, haltPend := false })
    let s4 := { s3 with
      sched := { s3.sched with
        ops := s3.sched.ops.filter (fun o => o.queue != q)
        sb := s3.sched.sb.filter (fun e => e.2.queue != q)
        reports := s3.sched.reports.filter (fun r => r.2.1 != q) }
      sync := s3.sync.recall ks
      safety := { s3.safety with
        checks := s3.safety.checks.filter (fun c => c.queue != q)
        forming := s3.safety.forming ++ ((s.opsOf q).filter (fun (o : Op) => o.complete && o.digested)).map Op.record } }
    s4.dropUnits q
  else s

/-- The record of an operator fault (R190, R292 to R294); `slot` when the code names one. -/
def State.recordOpFault (s : State) (q cause code : Nat) (slot : Option Nat) (entry : Nat) : State :=
  let resume := s.resumePoint q
  s.recordFirst Reg.SCH_FAULT_STATUS fun s =>
    let st := s.fld Reg.SCH_FAULT_STATUS 1 0 + cause * 16 + qLead (s.qdt q) * 256
    let det := if cause = 3 then code + (match slot with | some i => i * 256 + 2048 | none => 0) else 0
    (((s.setNat Reg.SCH_FAULT_STATUS st).setNat Reg.SCH_FAULT_OP (q + (entry % 2 ^ 24) * 256)).setNat
      Reg.SCH_FAULT_DETAIL det).setNat Reg.SCH_FAULT_RESUME (resume % 2 ^ 24)

/-- An operator fault (R184): recorded, and the queue stops. -/
def State.faultQueue (s : State) (q cause code : Nat) (slot : Option Nat) (entry : Nat)
    (keep : Op → Nat → Nat → Bool := fun _ _ _ => false) : State :=
  if s.bound q then (s.recordOpFault q cause code slot entry).stopQueue q keep else s

/-- A contract error (R289). -/
def State.contractError (s : State) (k code : Nat) (slot : Option Nat := none) : State :=
  s.faultQueue (s.ctx k).queue 3 code slot (s.ctx k).pos

/-- The address faults among the ranges that one step of an operator accesses. -/
def State.faultsIn (s : State) (rs : List (Nat × Nat)) : List (Nat × Nat) := rs.filterMap (fun r => s.rangeFault r.1 r.2)

/-- Accesses of an operator meet address faults of R26 in one step: the one of the lowest address is recorded, others set
more, and the queue stops (R184, R228). -/
def State.opAddrFault (s : State) (q entry : Nat) (wr : Bool) (fs : List (Nat × Nat)) : State :=
  match fs with
  | [] => s
  | f :: t =>
    let low := t.foldl (fun a b => if b.1 < a.1 then b else a) f
    let s1 := s.addrFault 1 wr low.2 low.1 0
    (if t.isEmpty then s1 else s1.setBit Reg.MEM_ADDR_FAULT 1 true).faultQueue q 4 0 none entry

/-- When a halting queue has no operator left in flight and its lead admits none, its contexts enter HALTED (R156). -/
def State.haltCheck (s : State) (q : Nat) : State :=
  let c := s.ctx (qLead (s.qdt q))
  if s.bound q && c.haltPend && c.mode != .issuing && (s.opsOf q).isEmpty then
    s.mapCtxs (qCtxs (s.qdt q)) (fun c => { c with mode := .halted, haltPend := false })
  else s

end Sys2Proof.Machine
end

