-- ==== Sys2Proof/Machine/Wide.lean ====
section
/-! DEFINITION. Values wider than a register (R14): which addresses form one, the staging of the lower words of a
written value on each access path, and the commit at its highest word. -/

namespace Sys2Proof.Machine

/-- The wide values that a chapter names and that software writes: lowest address and number of words. -/
def wideWritten : List (Nat × Nat) := [
  (Reg.CTL_TDT_BASE_LO, 2), (Reg.CTL_WIN_BASE_LO, 2), (Reg.SYN_CTR_END_LO, 2), (Reg.SYN_CTR_SET_LO, 2),
  (Reg.SYN_DUMP_BASE_LO, 2), (Reg.ING_TX_BASE_LO 0, 2), (Reg.ING_TX_BASE_LO 1, 2), (Reg.ING_TX_BASE_LO 2, 2),
  (Reg.ING_TX_BASE_LO 3, 2), (Reg.TIM_STEP_NS, 3), (Reg.TIM_OFFSET_LO, 2), (Reg.SAF_GOLD_BASE_LO, 2),
  (Reg.PWR_RTC_SET_LO, 2), (Reg.PWR_ALARM_LO, 2)] ++ (List.range 32).map (fun n => (Reg.TIM_KO_SEC_LO n, 2))

/-- The group of a written wide value's word: lowest address, number of words, and which word it is. -/
def wideGroup (a : Nat) : Option (Nat × Nat × Nat) :=
  match wideWritten.find? (fun g => decide (g.1 ≤ a ∧ a < g.1 + g.2)) with
  | some g => some (g.1, g.2, a - g.1)
  | none => none

def wideKey (base : Nat) (p : Path) : Nat := 2 * base + pathCode p

def State.side (s : State) (base : Nat) (p : Path) : WideSide := s.wide.look {} (wideKey base p)

def State.setSide (s : State) (base : Nat) (p : Path) (x : WideSide) : State :=
  { s with wide := s.wide.put {} (wideKey base p) x }

/-- The words a register group holds now. -/
def State.words (s : State) (base n : Nat) : List Word := (List.range n).map (fun i => s.reg (base + i))

/-- A write of a lower word is staged on its path. -/
def State.stage (s : State) (base n i : Nat) (p : Path) (w : Word) : State :=
  let x := s.side base p
  let st := (List.range (n - 1)).map (fun j => if j = i then some w else x.staged.getD j none)
  s.setSide base p { x with staged := st }

/-- The value that a write of the highest word commits: each lower word staged since the path's last commit, or else as
that commit left it, or else as the register now stands. -/
def State.commitWords (s : State) (base n : Nat) (p : Path) (hi : Word) : List Word :=
  let x := s.side base p
  (List.range (n - 1)).map (fun j =>
    match x.staged.getD j none with
    | some w => w
    | none => match x.last with
      | some l => l.getD j 0
      | none => s.reg (base + j)) ++ [hi]

/-- After a commit the path's staged lower words take the register's value. -/
def State.committed (s : State) (base n : Nat) (p : Path) : State :=
  let x := s.side base p
  s.setSide base p { x with staged := [], last := some (s.words base (n - 1)) }

end Sys2Proof.Machine
end

