-- ==== Sys2Proof/Machine/Sync.lean ====
section
/-! DEFINITION. Sync counters, huddles, shadows, the end-of-task check, capture and dump (R232 to R268). -/

namespace Sys2Proof.Machine

/-- The largest counter value. -/
abbrev ctrMax : Nat := 281474976710655

def State.sotValid (s : State) : Bool := s.bit Reg.CTL_ROOT_STATUS 2

/-- Record an error of the counter stores (R261, R264). -/
def State.synError (s : State) (code ctr unit : Nat) (tag : Nat := 0) (base : Nat := 0) : State :=
  let s1 := s.recordFirst Reg.SYN_ERR_STATUS fun s =>
    ((s.setFld Reg.SYN_ERR_STATUS 7 4 code).setNat Reg.SYN_ERR_SRC (ctr + unit % 65536 * 65536)).setNat Reg.SYN_ERR_INFO
      (tag % 65536 + base % 65536 * 65536)
  s1.incSat Reg.SYN_ERR_CNT 1

/-- A sync error that faults a context's queue: operator contract error 0x0D (R261, R289). -/
def State.syncFault (s : State) (k : Nat) : State :=
  let q := (s.ctx k).queue
  s.faultQueue q 3 0x0D none (s.ctx (qLead (s.qdt q))).pos

/-! ### Deadline monitors on counters (R58) -/

def State.monitor (s : State) (m : Nat) : Monitor := s.avs.monitors.look {} m

def State.setMonitor (s : State) (m : Nat) (x : Monitor) : State :=
  { s with avs := { s.avs with monitors := s.avs.monitors.put {} m x } }

/-- A monitor meets a fifth start or an unmatched end: mon_err, and it disables itself. -/
def State.monError (s : State) (m : Nat) : State :=
  (s.setBit Reg.PWR_AVS_STATUS 3 true).setBit (Reg.PWR_AVS_MON_CNT m) 31 false

/-- `n` increments of a monitor's start counter. -/
def State.monStart (s : State) (m : Nat) : Nat → State
  | 0 => s
  | n + 1 =>
    let x := s.monitor m
    if 4 ≤ x.opened.length then s.monError m
    else (s.setMonitor m { x with opened := x.opened ++ [⟨s.avs.rings, s.avs.us⟩] }).monStart m n

/-- Tokens that the slowest ring counted since a case opened. -/
def ringWork (now start : List Nat) : Nat :=
  match (List.range now.length).map (fun i => now.getD i 0 - start.getD i 0) with
  | [] => 0
  | a :: t => t.foldl min a

/-- `n` increments of a monitor's end counter. Elapsed time is counted in the whole microseconds that RATE_MEASURE commands
have closed: the rule names neither its clock nor its resolution (DESIGN CHOICE, log entry 75). -/
def State.monEnd (s : State) (m : Nat) : Nat → State
  | 0 => s
  | n + 1 =>
    let x := s.monitor m
    match x.opened with
    | [] => s.monError m
    | c :: t =>
      let s1 := s.setMonitor m { x with opened := t, w := some (ringWork s.avs.rings c.tokens) }
      let late := decide (s.fld (Reg.PWR_AVS_MON_DL m) 19 0 < s.avs.us - c.us)
      (if late then s1.setBit Reg.PWR_AVS_STATUS (8 + m) true else s1).monEnd m n

/-- The monitors see package counter `c` rise by `n`. Where one counter both starts and ends a monitor, the increments of one
operation all start before any ends (DESIGN CHOICE, log entry 75). -/
def State.monitors (s : State) (c n : Nat) : State :=
  (List.range 8).foldl (fun s m =>
    let r := Reg.PWR_AVS_MON_CNT m
    let on := fun (s : State) => s.bit r 31 && s.fld (Reg.PWR_AVS_MON_DL m) 19 0 != 0
    let s1 := if on s && s.fld r 11 0 == c then s.monStart m (min n 5) else s
    if on s1 && s1.fld r 27 16 == c then s1.monEnd m (min n 5) else s1) s

/-! ### The operations of R239 -/

/-- Fire the wake wire of a context (R239): it becomes READY. -/
def State.wake (s : State) (k : Nat) : State :=
  let c := s.ctx k
  if c.mode = .waiting then s.setCtx k { c with mode := .ready, wait := none, registered := false } else s

/-- An add that the store applies. -/
def State.applyAdd (s : State) (c k unit : Nat) : State :=
  let x := s.ctr c
  let ovf := decide (ctrMax < x.v + k)
  let v := if ovf then ctrMax else x.v + k
  let s1 := if ovf && !x.sat then s.synError 1 c unit else s
  let met := x.waiters.filter (fun w => decide (w.e ≤ v))
  let s2 := s1.setCtr c { x with
    v := v, sat := x.sat || ovf, lastUnit := unit, lastTime := s.now
    waiters := x.waiters.filter (fun w => !decide (w.e ≤ v))
    shadowReq := x.shadowReq || x.shadowEn }
  let s3 := met.foldl (fun s w => s.wake w.ctx) s2
  if c < 0x1000 then s3.monitors c (v - x.v) else s3

/-- Hold a counter operation at the store. -/
def State.hold (s : State) (h : HeldOp) : State := { s with sync := { s.sync with held := s.sync.held ++ [h] } }

/-- A frozen dump holds every counter operation (R259). -/
def State.frozen (s : State) : Bool := match s.sync.dump with | some d => d.freeze | none => false

/-- An add reaches its counter: held while an SOT loads (R235) or a frozen dump runs, discarded with NO_SOT when no SOT
is valid, else applied; whatever its source, it is an activity of R428. A reserved identifier names no counter. -/
def State.addCtr (s : State) (c k unit : Nat) : State :=
  if 0x2000 ≤ c ∨ k = 0 then s
  else
    let s := s.activity
    if c < 0x1000 ∧ s.sotValid = false then
      (if s.roots.sot.loading then s.hold (.add c k unit) else s.synError 9 c unit)
    else if s.frozen then s.hold (.add c k unit)
    else s.applyAdd c k unit

/-- The counter may be used from a context: a package counter, or a cluster counter of the lead's cluster (R232). -/
def ctrLocal (c k : Nat) : Bool := decide (c < 0x1000) || decide ((c - 0x1000) / 256 = k / 16)

/-- The node of a unit identifier (R236): a context lies on its core's die, a die node on its own, all else on the H-die. -/
def unitNode (u : Nat) : Node :=
  if u / 4096 = 1 then coreNode (u % 4096 / 4) else if u / 4096 = 6 then .cdie (u % 4096) else .hdie

/-- The node of a counter's store (R232): the H-die, or the die of the cluster. -/
def ctrNode (c : Nat) : Node := if c < 0x1000 then .hdie else .cdie ((c - 0x1000) / 256 / 8)

/-- Counter traffic from a node reaches a counter's store (R202). -/
def State.ctrOpen (s : State) (x : Node) (c : Nat) : Bool := s.routeOpen x (ctrNode c)

/-- COUNTER_ADD (R239): an add of `k` from unit `src` reaches counter `ctr`. -/
def execCounterAdd (ctr : BitVec 16) (k : BitVec 32) (src : BitVec 16) (s : State) : Host.Outcome State Fault Refusal :=
  done (if s.mainUp && s.ctrOpen (unitNode src.toNat) ctr.toNat then s.addCtr ctr.toNat k.toNat src.toNat else s)

/-- WAIT_REGISTER (R239): a context's wait reaches its counter, and is met or registers a waiter record. A 17th record
is WAIT_FULL, a foreign cluster counter CLUSTER_REMOTE; each faults the queue. -/
def execWaitRegister (k : Fin 256) (s : State) : Host.Outcome State Fault Refusal :=
  let c := s.ctx k
  match c.wait with
  | some (n, e) =>
    if c.mode = .waiting ∧ c.registered = false ∧ s.frozen = false ∧ s.ctrOpen (coreNode (k / 4)) n = true then
      let x := s.ctr n
      if ctrLocal n k = false then done ((s.synError 6 n (ctxUnit k)).syncFault k)
      else if e ≤ x.v then done (s.wake k)
      else if 16 ≤ x.waiters.length then done ((s.synError 2 n (ctxUnit k)).syncFault k)
      else done ((s.setCtr n { x with waiters := x.waiters ++ [⟨e, k⟩] }).setCtx k { c with registered := true })
    else done s
  | none => done s

/-- HOST_ADD (R253): a write to SYN_ADDn; a write of 0 is ignored. -/
def State.hostAdd (s : State) (p : Path) (n amount : Nat) : State :=
  s.addCtr n amount (if p = .bar0 then 0x3000 else 0x4000)

def execHostAdd (path : Path) (n : Fin 4096) (amount : Word) (s : State) : Host.Outcome State Fault Refusal :=
  s.hAccess fun s => s.hostAdd path n amount.toNat

/-- What a shadow write of a counter carries (R253). -/
def Counter.shadowWord (x : Counter) : Nat := x.v + b2n x.sat * 2 ^ 48

/-- Where host memory lies in the device's address space (R25). -/
def hostBase : Nat := 0x8000000000000000

/-- The shadow of a counter goes out as it stands; what reaches the host stands in its memory. -/
def State.shadowOut (s : State) (x : Counter) : State :=
  let t := { s with host := s.host.shadow x.shadowAddr x.shadowWord }
  if s.host.reach then t.writeBytes (hostBase + x.shadowAddr) (toBytes 8 x.shadowWord) else t

/-- A shadow that an SOT load requested goes out after those of the lower counters (R253). -/
def State.shadowTurn (s : State) (n : Nat) : Bool :=
  !(s.ctr n).shadowLoad || s.sync.ctrs.all (fun e => decide (n ≤ e.1) || !e.2.shadowLoad)

/-- SHADOW_WRITE (R253): a requested shadow write is issued with the value as it stands, then its message. -/
def execShadowWrite (n : Fin 4096) (s : State) : Host.Outcome State Fault Refusal :=
  let x := s.ctr n
  if s.mainUp && x.shadowReq && s.shadowTurn n then
    let s1 := (s.setCtr n { x with shadowReq := false, shadowLoad := false }).shadowOut x
    done { s1 with host := if x.msixEn then s1.host.msix x.msixVec else s1.host }
  else done s

/-! ### Setting a counter (R245), end values (R258), capture (R257) -/

/-- Some context of queue `q` is not IDLE: one that its QDT entry occupies (R154), or one that runs it. -/
def State.queueBusy (s : State) (q : Nat) : Bool :=
  (groupValid (qGroup (s.qdt q)) && (qCtxs (s.qdt q)).any (fun k => (s.ctx k).mode != .idle))
    || s.sched.ctxs.any (fun e => e.2.mode != .idle && e.2.queue == q)

/-- The causes for which a set is refused (R245). -/
def State.setRefused (s : State) (c : Nat) : Bool :=
  let x := s.ctr c
  decide (0x2000 ≤ c) || !x.waiters.isEmpty || x.huddle
    || (decide (c < 0x1000) && (!s.sotValid || (decide (x.owner < 0x100) && s.queueBusy x.owner)))
    || (decide (0x1000 ≤ c) && s.sched.ctxs.any (fun e => e.2.mode != .idle && e.1 / 16 == (c - 0x1000) / 256))

/-- An accepted set. It is no increment: the monitors of R58 count adds only (DESIGN CHOICE, log entry 75). -/
def State.applySet (s : State) (c v : Nat) : State :=
  let x := s.ctr c
  s.setCtr c { x with v := v, sat := false, lastUnit := 0x7000, lastTime := s.now, shadowReq := x.shadowReq || x.shadowEn }

/-- A set reaches the store; a frozen dump holds it. -/
def State.setCounter (s : State) (c v : Nat) : State :=
  if s.setRefused c then s.synError 8 c 0x7000
  else if s.frozen then s.hold (.set c v) else s.applySet c v

/-- The value in the low two words of a wide value, 48 bits. -/
def words48 (ws : List Word) : Nat := (ws.getD 0 0).toNat + (ws.getD 1 0).toNat % 65536 * 2 ^ 32

/-- COUNTER_SET (R245): a write to SYN_CTR_SET_HI sets the counter that SYN_CTR_SEL names. -/
def State.counterSet (s : State) (p : Path) (val : Word) : State :=
  let ws := s.commitWords Reg.SYN_CTR_SET_LO 2 p (val &&& 0xFFFF#32)
  let s1 := (s.setRegs Reg.SYN_CTR_SET_LO ws).committed Reg.SYN_CTR_SET_LO 2 p
  s1.setCounter (s.fld Reg.SYN_CTR_SEL 15 0) (words48 ws)

def execCounterSet (path : Path) (val : Word) (s : State) : Host.Outcome State Fault Refusal :=
  s.hAccess fun s => s.counterSet path val

/-- END_VALUE_COMMIT (R258): a write to SYN_CTR_END_HI gives the selected counter a new end value, or is refused. -/
def State.endCommit (s : State) (p : Path) (val : Word) : State :=
  let c := s.fld Reg.SYN_CTR_SEL 15 0
  let x := s.ctr c
  let ws := s.commitWords Reg.SYN_CTR_END_LO 2 p (val &&& 0xFFFF#32)
  if c < 0x1000 ∧ (x.owner = 0x100 ∨ (x.owner < 0x100 ∧ s.queueBusy x.owner = false)) then
    ((s.setCtr c { x with endv := words48 ws }).setRegs Reg.SYN_CTR_END_LO ws).committed Reg.SYN_CTR_END_LO 2 p
  else (s.synError 8 c 0x7000).committed Reg.SYN_CTR_END_LO 2 p

def execEndValueCommit (path : Path) (val : Word) (s : State) : Host.Outcome State Fault Refusal :=
  s.hAccess fun s => s.endCommit path val

/-- COUNTER_CAPTURE (R257): a write to SYN_CTR_SEL captures a counter and its waiter records; a reserved identifier
captures zeros and sets bad_addr. -/
def State.capture (s : State) (p : Path) (val : Word) : State :=
  let c := val.toNat % 65536
  let s0 := s.setNat Reg.SYN_CTR_SEL c
  let ok := decide (c < 0x2000)
  let x : Counter := if ok then s.ctr c else {}
  let info := x.waiters.length + b2n x.sat * 32 + b2n x.huddle * 64 + b2n x.shadowEn * 128 + b2n x.endChk * 256
    + x.lastUnit * 65536
  let s1 := (((s0.setReg64 Reg.SYN_CTR_VAL_LO x.v).setNat Reg.SYN_CTR_INFO info).setNat Reg.SYN_CTR_TS_LO
    (x.lastTime % 2 ^ 30)).setNat Reg.SYN_CTR_TS_HI (x.lastTime / 2 ^ 30)
  let s2 := s1.setReg64 Reg.SYN_CTR_END_LO x.endv
  let s3 := (List.range 16).foldl (fun s i =>
    match x.waiters[i]? with
    | some w => s.setReg64 (Reg.SYN_WTR_LO i) (w.e + ctxUnit w.ctx * 2 ^ 48)
    | none => s.setReg64 (Reg.SYN_WTR_LO i) 0) s2
  if ok then s3 else s3.badWrite p Reg.SYN_CTR_SEL

def execCounterCapture (path : Path) (val : Word) (s : State) : Host.Outcome State Fault Refusal :=
  s.hAccess fun s => s.capture path val

/-! ### End-of-task check (R256) -/

/-- The counters an owner's check examines and that fail it, in ascending order. -/
def State.endFailures (s : State) (owner : Nat) : List Nat :=
  (s.sync.ctrs.filter (fun e => decide (e.1 < 0x1000) && e.2.endChk && e.2.owner == owner
    && (e.2.v != e.2.endv || e.2.sat || !e.2.waiters.isEmpty))).map (·.1)

/-- The check for an owner (a queue, or 0x100 for the host): it reports and alters nothing else. -/
def State.endCheck (s : State) (owner : Nat) : State :=
  let bad := s.endFailures owner
  match bad with
  | [] => s
  | c :: _ =>
    let s1 := s.incFld Reg.SYN_END_STATUS 31 16 bad.length
    if s1.bit Reg.SYN_END_STATUS 0 then s1
    else (s1.setBit Reg.SYN_END_STATUS 0 true).setNat Reg.SYN_END_FIRST (c + owner * 65536)

/-- HOST_END_CHECK: SYN_CTRL.end_check. -/
def execHostEndCheck (s : State) : Host.Outcome State Fault Refusal := s.hAccess fun s => s.endCheck 0x100

/-- Clear the error and check counts (R268). -/
def State.synClr (s : State) : State := (s.setNat Reg.SYN_ERR_CNT 0).setFld Reg.SYN_END_STATUS 31 16 0

/-- SYN_CLR: SYN_CTRL.clr. -/
def execSynClr (s : State) : Host.Outcome State Fault Refusal := s.hAccess fun s => s.synClr

/-! ### Huddles (R248 to R252) -/

def State.huddle (s : State) (r : Nat) : Huddle := s.sync.huddles.look {} r

def State.setHuddle (s : State) (r : Nat) (h : Huddle) : State :=
  { s with sync := { s.sync with huddles := s.sync.huddles.put {} r h } }

/-- Set bits of a number below `n`. -/
def popcount (n w : Nat) : Nat := (bitsOf n w).length

/-- Members below a node (R249): clusters 0 to 15, dies 16 and 17, the root 18. -/
def Huddle.members (h : Huddle) (node : Nat) : Nat :=
  if node < 16 then popcount 16 (h.ctxMask / 2 ^ (16 * node))
  else if node < 18 then popcount 128 (h.ctxMask / 2 ^ (128 * (node - 16)))
  else h.n

/-- What a node answers to an arrival: repeat, overrun, or accepted. -/
inductive ArriveCase where
  | again | overrun | accepted
  deriving DecidableEq, Repr

/-- The first two lines of R249's procedure. -/
def HNode.judge (n : HNode) (p t : Nat) : ArriveCase :=
  if t < n.b ∨ (t = n.b ∧ n.mask0.contains p) ∨ (t = n.b + 1 ∧ n.mask1.contains p) then .again
  else if n.b + 2 ≤ t ∨ (t = n.b + 1 ∧ n.mask0.contains p = false) then .overrun
  else .accepted

/-- The node with the arrival counted. -/
def HNode.count (n : HNode) (p t w : Nat) : HNode :=
  if t = n.b then { n with mask0 := n.mask0 ++ [p], cnt0 := n.cnt0 + w }
  else { n with mask1 := n.mask1 ++ [p], cnt1 := n.cnt1 + w }

/-- The node after its base round is complete. -/
def HNode.advance (n : HNode) : HNode := { b := n.b + 1, mask0 := n.mask1, mask1 := [], cnt0 := n.cnt1, cnt1 := 0 }

/-- Put an arrival on its way. -/
def State.sendArrival (s : State) (a : Arrival) : State :=
  { s with sync := { s.sync with arrivals := s.sync.arrivals ++ [a] } }

/-- Forward a completed round: from a cluster to its die, from a die to the root. At the root the n of the round have been
added arrival by arrival (R250). -/
def State.forward (s : State) (a : Arrival) (b m : Nat) : State :=
  if a.node < 16 then
    s.sendArrival { a with node := 16 + a.node / 8, child := a.node, tag := b, weight := m, unit := 0x6000 + a.node / 8 }
  else if a.node < 18 then
    s.sendArrival { a with node := 18, child := a.node - 16, tag := b, weight := m, unit := 0x6000 + (a.node - 16) }
  else s

/-- Forward every round that is complete: at most the base round and the next. -/
def State.advanceNode (s : State) (a : Arrival) : Nat → State
  | 0 => s
  | fuel + 1 =>
    let h := s.huddle a.root
    let n := h.nodes.look {} a.node
    let m := h.members a.node
    if m ≠ 0 ∧ n.cnt0 = m then
      let s1 := s.setHuddle a.root { h with nodes := h.nodes.put {} a.node n.advance }
      (s1.forward a n.b m).advanceNode a fuel
    else s

/-- The unit that an error of an arrival names: the context charged, or the host's path. -/
def Arrival.blame (a : Arrival) : Nat := match a.ctx with | some k => ctxUnit k | none => a.unit

/-- Discard an arrival with an error; the queue of the context charged faults. -/
def State.discardArrival (s : State) (a : Arrival) (code base : Nat) : State :=
  let s1 := s.synError code a.root a.blame a.tag base
  match a.ctx with
  | some k => s1.syncFault k
  | none => s1

/-- The base round of a node of a huddle in force; 0 where no huddle is. -/
def State.baseRound (s : State) (root node : Nat) : Nat :=
  if (s.ctr root).huddle then ((s.huddle root).nodes.look {} node).b else 0

/-- An arrival reaches its node (R249, R251). At the root the arrival's weight is added to the counter as it is accepted, so
that early arrivals lift it above n × r (R250). -/
def State.arrive (s : State) (a : Arrival) : State :=
  let h := s.huddle a.root
  let n := h.nodes.look {} a.node
  if !(s.ctr a.root).huddle || (decide (a.node < 16) && !h.ctxMask.testBit a.child) then
    s.discardArrival a 5 (s.baseRound a.root a.node)
  else match n.judge a.child a.tag with
    | .again => s.discardArrival a 4 n.b
    | .overrun => s.discardArrival a 3 n.b
    | .accepted =>
      let s1 := s.setHuddle a.root { h with nodes := h.nodes.put {} a.node (n.count a.child a.tag a.weight) }
      (if a.node = 18 then s1.addCtr a.root a.weight a.unit else s1).advanceNode a 2

/-- The arrival at place `idx` is the next of its source to its node (R179), and its route is open: from a die's node to the
root it crosses the die link. -/
def State.arrivalNext (s : State) (idx : Nat) (a : Arrival) : Bool :=
  (s.sync.arrivals.take idx).all (fun b => !(b.root == a.root && b.node == a.node && b.child == a.child))
    && (decide (a.node < 18) || decide (2 ≤ a.child) || s.routeOpen (.cdie a.child) .hdie)

/-- HUDDLE_NODE_ARRIVE: the arrival under way at place `idx` reaches its node, unless a dump holds it (R259). -/
def execHuddleNodeArrive (idx : Nat) (s : State) : Host.Outcome State Fault Refusal :=
  match s.sync.arrivals[idx]? with
  | some a =>
    if s.mainUp && !s.frozen && s.arrivalNext idx a then
      done ({ s with sync := { s.sync with arrivals := s.sync.arrivals.eraseIdx idx } }.arrive a)
    else done s
  | none => done s

/-- The host's arrival at a root (R251): HUDDLE_NOT_MEMBER when the record does not name the host or the counter is no
huddle root; held while an SOT loads. -/
def State.hostArrive (s : State) (root tag unit : Nat) : State :=
  if s.roots.sot.loading then s.hold (.arrive root tag unit)
  else if !(s.ctr root).huddle || !(s.huddle root).host then s.synError 5 root unit tag (s.baseRound root 18)
  else s.sendArrival { root := root, node := 18, child := 2, tag := tag, weight := 1, unit := unit, ctx := none }

/-- HOST_HUDDLE_ARRIVE: a write to SYN_HUD_ARRIVE, with the round tag of SYN_HUD_ROUND. -/
def execHostHuddleArrive (path : Path) (root : Fin 64) (s : State) : Host.Outcome State Fault Refusal :=
  s.hAccess fun s => s.hostArrive root (s.reg Reg.SYN_HUD_ROUND).toNat (if path = .bar0 then 0x3000 else 0x4000)

/-- Apply the operations that were held at the store, in the order of their arrival; what a dump holds stays held. -/
def State.releaseHeld (s : State) : State :=
  s.sync.held.foldl (fun s h => match h with
    | .add c k u => s.addCtr c k u
    | .set c v => if s.frozen then s.hold h else s.applySet c v
    | .arrive r t u => s.hostArrive r t u) { s with sync := { s.sync with held := [] } }

/-! ### Dump (R259, R260) -/

/-- DUMP_START: ignored while a dump runs; a misaligned base stops it at once, and so does one in core memory, which R259 does
not allow and for which it names no status of its own (DESIGN CHOICE, log entry 76). -/
def State.dumpStart (s : State) (freeze : Bool) : State :=
  if s.sync.dump.isSome then s
  else
    let base := s.reg64 Reg.SYN_DUMP_BASE_LO
    if base % 64 ≠ 0 ∨ regionOf base = some .core then s.setBit Reg.SYN_DUMP_STATUS 2 true
    else { s.setBit Reg.SYN_DUMP_STATUS 0 true with sync := { s.sync with dump := some ⟨freeze, base, s.now⟩ } }

def execDumpStart (freeze : Bool) (s : State) : Host.Outcome State Fault Refusal :=
  s.hAccess fun s => s.dumpStart freeze

/-- A counter's 64-byte dump record as a number. -/
def State.dumpRecord (s : State) (c : Nat) : Nat :=
  let x := s.ctr c
  let pkg := decide (c < 0x1000)
  let round := if x.huddle then ((s.huddle c).nodes.look {} 18).b - 1 else 0
  x.v + b2n x.sat * 2 ^ 48 + b2n x.huddle * 2 ^ 49 + b2n x.shadowEn * 2 ^ 50 + b2n x.endChk * 2 ^ 51
    + x.waiters.length * 2 ^ 52 + c * 2 ^ 64 + x.lastUnit * 2 ^ 80 + x.lastTime * 2 ^ 96
    + (if pkg then x.endv * 2 ^ 160 + x.owner * 2 ^ 208 else 0) + round * 2 ^ 256

/-- Every waiter record with its counter, by counter and then by registration. -/
def State.allWaiters (s : State) : List (Nat × Waiter) := s.sync.ctrs.flatMap (fun e => e.2.waiters.map (fun w => (e.1, w)))

/-- The whole dump as bytes. -/
def State.dumpBytes (s : State) (d : Dump) : List Byte :=
  let ws := s.allWaiters
  let header := 0x53594E43 + 1 * 2 ^ 32 + 8192 * 2 ^ 64 + ws.length * 2 ^ 80 + b2n d.freeze * 2 ^ 96
    + d.tStart * 2 ^ 128 + s.now * 2 ^ 192
  toBytes 64 header ++ (List.range 0x2000).flatMap (fun c => toBytes 64 (s.dumpRecord c))
    ++ ws.flatMap (fun w => toBytes 16 (w.2.e + ctxUnit w.2.ctx * 2 ^ 48 + w.1 * 2 ^ 64))

/-- DUMP_DONE: the dump ends, or stops at an address fault with what lies before it written; either way a hold is released. -/
def execDumpDone (s : State) : Host.Outcome State Fault Refusal :=
  match s.mainUp, s.sync.dump with
  | true, some d =>
    let s1 := { s.setBit Reg.SYN_DUMP_STATUS 0 false with sync := { s.sync with dump := none } }
    let len := 64 + 0x80000 + 16 * s.allWaiters.length
    match s.rangeFault d.base len with
    | some f => done ((((s1.store d.base ((s.dumpBytes d).take (f.1 - d.base))).addrFault 3 true f.2 f.1 0).setBit
        Reg.SYN_DUMP_STATUS 2 true).releaseHeld)
    | none => done (((s1.store d.base (s.dumpBytes d)).setBit Reg.SYN_DUMP_STATUS 1 true).releaseHeld)
  | _, _ => done s

end Sys2Proof.Machine
end

