-- ==== Sys2Proof/Machine/Roots.lean ====
section
/-! DEFINITION. The root tables: commit, load, and what an SOT load gives the package counters (R27 to R35, R237, R238,
R248). -/

namespace Sys2Proof.Machine

/-- Bit of CTL_ROOT_STATUS that shows a table valid; its rejection bit lies 4 above. -/
def rootBit : Root → Nat
  | .sdt => 0
  | .qdt => 1
  | .sot => 2
  | .tdt => 3

def State.root (s : State) : Root → Table
  | .sdt => s.roots.sdt
  | .qdt => s.roots.qdt
  | .sot => s.roots.sot
  | .tdt => s.roots.tdt

def State.setRoot (s : State) (t : Root) (x : Table) : State :=
  match t with
  | .sdt => { s with roots := { s.roots with sdt := x } }
  | .qdt => { s with roots := { s.roots with qdt := x } }
  | .sot => { s with roots := { s.roots with sot := x } }
  | .tdt => { s with roots := { s.roots with tdt := x } }

/-- The base and count that the pointer registers stage (R28); the SOT always holds 4,096 entries. -/
def State.rootStaged (s : State) : Root → Nat × Nat
  | .sdt => ((s.reg Reg.CTL_SDT_BASE).toNat, (s.reg Reg.CTL_SDT_COUNT).toNat)
  | .qdt => ((s.reg Reg.CTL_QDT_BASE).toNat, (s.reg Reg.CTL_QDT_COUNT).toNat)
  | .sot => ((s.reg Reg.CTL_SOT_BASE).toNat, 4096)
  | .tdt => (s.reg64 Reg.CTL_TDT_BASE_LO, (s.reg Reg.CTL_TDT_COUNT).toNat)

/-- Bytes of an entry. -/
def rootEntry : Root → Nat
  | .sot => 32
  | _ => 64

/-- The largest count. -/
def rootMax : Root → Nat
  | .sdt => 64
  | .qdt => 256
  | .sot => 4096
  | .tdt => 1048576

/-- The table is in use (R32). -/
def State.rootInUse (s : State) : Root → Bool
  | .sdt => s.ingest.streams.any (fun e => e.2.mode != .stopped)
  | .sot => !s.allIdle || s.sync.ctrs.any (fun e => decide (e.1 < 0x1000) && !e.2.waiters.isEmpty)
  | _ => !s.allIdle

/-- The extent lies in the memory that R27 permits. -/
def rootPlaced (t : Root) (base count : Nat) : Bool :=
  let last := base + rootEntry t * count
  decide (last ≤ 0x1000000) ||
    (t == .tdt && decide (0x1000000000 ≤ base ∧ last ≤ 0x1800000000))

/-- The cause of R30 for which a commit is rejected, lowest code first; 0 when it is accepted (R31). -/
def State.commitCause (s : State) (t : Root) : Nat :=
  let p := s.rootStaged t
  if s.rootInUse t then 1
  else if (s.root t).loading then 2
  else if p.1 % 4096 ≠ 0 then 3
  else if rootPlaced t p.1 p.2 = false then 4
  else if rootMax t < p.2 then 5
  else 0

/-- A commit of one table (R29 to R33): rejected with its cause, or the valid bit clears and the load starts on the
snapshot of the pointer registers. -/
def State.commitRoot (s : State) (t : Root) : State :=
  let cause := s.commitCause t
  if cause ≠ 0 then (s.setBit Reg.CTL_ROOT_STATUS (4 + rootBit t) true).setFld Reg.CTL_ROOT_STATUS 11 8 cause
  else
    let p := s.rootStaged t
    (s.setBit Reg.CTL_ROOT_STATUS (rootBit t) false).setRoot t { base := p.1, count := p.2, loading := true, entries := [] }

/-- COMMIT_SDT. -/
def execCommitSdt (s : State) : Host.Outcome State Fault Refusal := s.hAccess fun s => s.commitRoot .sdt

/-- COMMIT_QDT. -/
def execCommitQdt (s : State) : Host.Outcome State Fault Refusal := s.hAccess fun s => s.commitRoot .qdt

/-- COMMIT_SOT. -/
def execCommitSot (s : State) : Host.Outcome State Fault Refusal := s.hAccess fun s => s.commitRoot .sot

/-- COMMIT_TDT. -/
def execCommitTdt (s : State) : Host.Outcome State Fault Refusal := s.hAccess fun s => s.commitRoot .tdt

/-! ### The SOT load (R237, R238, R248) -/

def sotInit (e : Nat) : Nat := fld e 47 0
def sotMember (e : Nat) : Nat := fld e 215 192

/-- The load reads the entry's member record: a huddle root with an aligned member_off (R248). -/
def sotReads (e : Nat) : Bool := e.testBit 51 && decide (sotMember e % 64 = 0)

/-- A member record fails R248 for the init value given. -/
def memberFaulty (rec : Nat) (init : Nat) : Bool :=
  let n := popcount 257 rec
  decide (n = 0) || decide (init % n ≠ 0) || decide (2 ^ 32 - 1 ≤ init / n)

/-- The entry breaks R238; `rec` is the member record its member_off locates. -/
def sotFaulty (n e rec : Nat) : Bool :=
  let huddle := e.testBit 51
  let owner := fld e 72 64
  (huddle && decide (64 ≤ n)) || decide (0x101 ≤ owner) || (e.testBit 191 && e.testBit 48)
    || (huddle && decide (sotMember e % 64 ≠ 0)) || (huddle && memberFaulty rec (sotInit e))

/-- The counter that an entry loads; a faulty entry loses huddle, shadow_en and end_chk. -/
def sotCounter (e : Nat) (faulty : Bool) : Counter where
  v := fld e 47 0
  shadowEn := e.testBit 48 && !faulty
  msixEn := e.testBit 49
  endChk := e.testBit 50 && !faulty
  huddle := e.testBit 51 && !faulty
  msixVec := fld e 60 56
  owner := fld e 72 64
  endv := fld e 127 80
  shadowAddr := fld e 190 131 * 8
  shadowReq := e.testBit 48 && !faulty
  shadowLoad := e.testBit 48 && !faulty

/-- Every node of a huddle at its base round (R249). -/
def freshNodes (b : Nat) : SMap HNode := (List.range 19).map (fun i => (i, { b := b }))

/-- The huddle that a member record describes. -/
def sotHuddle (rec init : Nat) : Huddle :=
  let n := popcount 257 rec
  { ctxMask := fld rec 255 0, host := rec.testBit 256, n := n, nodes := freshNodes (init / n + 1) }

/-- Load one entry. -/
def State.sotEntry (s : State) (base n : Nat) : State :=
  let e := s.readNat (base + 32 * n) 32
  let rec512 := if sotReads e then s.readNat (sotMember e) 64 else 0
  let bad := sotFaulty n e rec512
  let s1 := s.setCtr n (sotCounter e bad)
  let s2 := if e.testBit 51 && !bad then s1.setHuddle n (sotHuddle rec512 (sotInit e)) else s1
  if bad then s2.synError 7 n 0 else s2

/-- The entries of the table that hold a byte other than zero, in ascending order. -/
def State.sotLive (s : State) (base : Nat) : List Nat :=
  (s.mem.filterMap (fun c => if base ≤ c.1 ∧ c.1 < base + 0x20000 then some ((c.1 - base) / 32) else none)).eraseDups

/-- The SOT's contents reach the counters: every package counter takes its entry (an entry of zeros is the plain
counter at 0), and the adds held at the store are applied on top (R235). -/
def State.loadSot (s : State) : State :=
  let base := s.roots.sot.base
  let s1 := { s with sync := { s.sync with
    ctrs := s.sync.ctrs.filter (fun e => decide (0x1000 ≤ e.1)), huddles := [] } }
  (s.sotLive base).foldl (fun s n => s.sotEntry base n) s1

/-! ### The end of a load (R33) -/

/-- The 64-byte entries of a table. -/
def State.tableEntries (s : State) (x : Table) : List Nat :=
  (List.range x.count).map (fun i => s.readNat (x.base + 64 * i) 64)

/-- The ranges that a load reads: the table, and for the SOT the member records. The TDT is not read (R35). -/
def State.loadReads (s : State) (t : Root) (x : Table) : List (Nat × Nat) :=
  match t with
  | .tdt => []
  | .sot => (x.base, 0x20000) :: (s.sotLive x.base).filterMap (fun n =>
      let e := s.readNat (x.base + 32 * n) 32
      if sotReads e then some (sotMember e, 64) else none)
  | _ => [(x.base, rootEntry t * x.count)]

/-- A table load ends (R33): the entries are read, and the valid bit sets unless the load met an uncorrectable error. -/
def State.loadEnds (s : State) (t : Root) : State :=
  let x := s.root t
  let rs := s.loadReads t x
  let s1 := s.eccReads rs
  if s.eccUeIn rs then
    ((s1.setRoot t { x with loading := false }).setBit Reg.CTL_ROOT_STATUS 12 true).releaseHeld
  else
    let s2 := match t with
      | .sdt => s1.setRoot t { x with loading := false, entries := s1.tableEntries x }
      | .qdt => s1.setRoot t { x with loading := false, entries := s1.tableEntries x }
      | .sot => s1.loadSot.setRoot t { x with loading := false }
      | .tdt => s1.setRoot t { x with loading := false }
    let s3 := s2.setBit Reg.CTL_ROOT_STATUS (rootBit t) true
    if t = .sot then s3.releaseHeld else s3

/-- TABLE_LOAD_COMPLETE (R33): flipped bits of hub memory that the load meets are first planted in the array. -/
def execTableLoadComplete (t : Root) (flips : List (Nat × Flaw)) (s : State) : Host.Outcome State Fault Refusal :=
  if s.mainUp && (s.root t).loading then
    done ((flips.foldl (fun s f => s.plantFlaw hubArray (f.1 % 2097152) f.2) s).loadEnds t)
  else done s

end Sys2Proof.Machine
end

