-- ==== Sys2Proof/Machine/Tap.lean ====
section
/-! DEFINITION. The IEEE 1149.1 port of the H-die (R558): the TAP controller, its instructions and its registers. The table
has no row for its balls: their samples wait in the state, and one is taken at each tick on an empty queue (log entry 81). -/

namespace Sys2Proof.Machine

/-! ### The controller -/

/-- The controller's next state, by TMS. -/
def TapState.next : TapState → Bool → TapState
  | .reset, m => if m then .reset else .idle
  | .idle, m => if m then .selectDr else .idle
  | .selectDr, m => if m then .selectIr else .captureDr
  | .captureDr, m => if m then .exit1Dr else .shiftDr
  | .shiftDr, m => if m then .exit1Dr else .shiftDr
  | .exit1Dr, m => if m then .updateDr else .pauseDr
  | .pauseDr, m => if m then .exit2Dr else .pauseDr
  | .exit2Dr, m => if m then .updateDr else .shiftDr
  | .updateDr, m => if m then .selectDr else .idle
  | .selectIr, m => if m then .reset else .captureIr
  | .captureIr, m => if m then .exit1Ir else .shiftIr
  | .shiftIr, m => if m then .exit1Ir else .shiftIr
  | .exit1Ir, m => if m then .updateIr else .pauseIr
  | .pauseIr, m => if m then .exit2Ir else .pauseIr
  | .exit2Ir, m => if m then .updateIr else .shiftIr
  | .updateIr, m => if m then .selectDr else .idle

/-! ### Registers -/

/-- The low `n` bits of a number, least significant first. -/
def lowBits (n v : Nat) : List Bool := (List.range n).map v.testBit

/-- The identification code. -/
def tapIdcode : Nat := 0xB9160AF9

/-- The instruction that a shifted code names: all ones is BYPASS (IEEE 1149.1), the other codes are the device's and free;
a code without an instruction acts as BYPASS. -/
def tapDecode (bits : List Bool) : TapInstr :=
  if bits.all id then .bypass
  else match Config.tapCode bits with
    | 0 => .idcode
    | 1 => .sample
    | 2 => .extest
    | _ => .bypass

/-- What a data register captures: the balls' levels are free. -/
def Tap.capture (t : Tap) (pins : Nat) : List Bool :=
  match t.ir with
  | .bypass => [false]
  | .idcode => lowBits 32 tapIdcode
  | _ => lowBits Config.tapCells pins

/-- A register shifts by one place towards TDO. -/
def shiftIn (r : List Bool) (b : Bool) : List Bool := r.drop 1 ++ [b]

/-- The action of the present state at a rising edge of TCK. -/
def Tap.act (t : Tap) (tdi : Bool) (pins : Nat) : Tap :=
  match t.state with
  | .captureDr => { t with dr := t.capture pins }
  | .shiftDr => { t with dr := shiftIn t.dr tdi }
  | .captureIr => { t with irShift := lowBits (Config.tapIrBits + 2) 1 }
  | .shiftIr => { t with irShift := shiftIn t.irShift tdi }
  | _ => t

/-- What entering a state does: the updates, the reset of the instruction, and TDO, which is driven only while shifting. -/
def Tap.enter (t : Tap) (x : TapState) : Tap :=
  let u := { t with state := x }
  match x with
  | .reset => { u with ir := .idcode, tdo := none }
  | .updateDr => match t.ir with
    | .sample => { u with cells := t.dr, tdo := none }
    | .extest => { u with cells := t.dr, tdo := none }
    | _ => { u with tdo := none }
  | .updateIr => let i := tapDecode t.irShift; { u with ir := i, spoiled := t.spoiled || i == .extest, tdo := none }
  | .shiftDr => { u with tdo := t.dr.head? }
  | .shiftIr => { u with tdo := t.irShift.head? }
  | _ => { u with tdo := none }

/-- One sample of the balls: TRST_N low holds the port in reset, whatever the others do; else a rising edge of TCK moves the
controller. -/
def Tap.sample (t : Tap) (p : TapPins) (pins : Nat) : Tap :=
  if !p.trst then ({ t with trst := false }).enter .reset
  else (({ t with trst := true }).act p.tdi pins).enter (t.state.next p.tms)

/-- The H-die loses power: the port with it. -/
def Tap.off (t : Tap) : Tap := { pins := t.pins }

/-- A reset of the main dies: what EXTEST spoiled is specified again, unless EXTEST is still in force. -/
def Tap.afterReset (t : Tap) : Tap := { t with spoiled := t.ir == .extest }

/-- The levels that the H-die's output balls take from the scan chain while EXTEST is in force. -/
def Tap.drives (t : Tap) : Option (List Bool) := if t.ir = .extest then some t.cells else none

/-- The sample that waits longest is taken; an unpowered H-die ignores it. -/
def State.tapTick (s : State) : State :=
  match s.tap.pins with
  | [] => s
  | p :: rest =>
    let t := { s.tap with pins := rest }
    if s.power.pgMain then { s with tap := t.sample p s.drawn }.draw 1 else { s with tap := t }

end Sys2Proof.Machine
end

