-- ==== Sys2Proof/Machine/Fabric.lean ====
section
/-! DEFINITION. Resets of the main dies and the alignment of the crossings (R12, R48, R52 to R54, R186, R518), and the
adaptive voltage loop with its deadline monitors (R57 to R75). -/

namespace Sys2Proof.Machine

/-! ### Reset of the main dies (R12) -/

/-- The register file after a main-die reset: main-die registers take their Reset values, but a warm reset keeps the RWS
fields (R12); tile registers, which all lie above them, stay. -/
def resetRegs (warm : Bool) (m : SMap Word) : SMap Word :=
  (if warm then (m.filter fun e => isRws e.1).foldr (fun e acc => SMap.put 0#32 acc e.1 e.2) mainResets else mainResets)
    ++ m.filter fun e => isTileReg e.1

/-- The host link after a main-die reset: the endpoint's configuration takes its defaults; what has been sent stays
sent, and the tile's listener is not touched. -/
def HostLink.mainReset (h : HostLink) : HostLink :=
  { m := h.m, sent := h.sent, ro := h.ro, posted := h.posted, reads := h.reads }

/-- A reset of the C-dies and the H-die, with the kind that PWR_RST_CAUSE shows (R460). Registers, counters, tables, work
in flight and the contents of memory on the main dies are gone (log entry 6). -/
def State.mainReset (s : State) (kind : Nat) : State :=
  let warm := decide (kind = 2)
  { s with
    regs := SMap.put 0#32 (resetRegs warm s.regs) Reg.PWR_RST_CAUSE (BitVec.ofNat 32 kind)
    wide := s.wide.filter (fun e => decide (2 * 0x3000 ≤ e.1))
    mem := s.mem.filter (fun e => decide (0x8000000000000000 ≤ e.1))
    roots := {}
    align := { inReset := true, line := !(s.power.pgMain && s.power.perst)
               restore := decide (kind ≠ 2) || s.align.inReset && s.align.restore }
    avs := {}
    sched := {}
    engines := {}
    links := {}
    sync := {}
    ingest := {}
    time := {}
    safety := if warm then
        { failedSpares := s.safety.failedSpares, heldCores := s.safety.heldCores, linkFails := s.safety.linkFails }
      else {}
    host := s.host.mainReset
    tap := s.tap.afterReset }

/-- POWER_ON_RESET (R12). -/
def execPowerOnReset (s : State) : Host.Outcome State Fault Refusal := done (s.mainReset 1)

/-- WARM_RESET (R518): PERST# asserted in RUN or HOLD; in DUGOUT and DORMANT it has no effect on the main dies. -/
def execWarmReset (s : State) : Host.Outcome State Fault Refusal :=
  let t := { s with power := { s.power with perst := false } }
  match s.power.state with
  | .run | .hold | .toHold | .fromHold => done (t.mainReset 2)
  | .toRun => done (t.mainReset (t.fld Reg.PWR_RST_CAUSE 1 0))
  | _ => done t

/-- SUPERVISOR_RESET (R48): VDD_C below 0.67 V; the power state does not change. -/
def execSupervisorReset (s : State) : Host.Outcome State Fault Refusal :=
  if s.power.pgMain then done (s.mainReset 1) else done s

/-- PERST_RELEASE (R543): PERST# goes high; a reset that it alone held is released. -/
def execPerstRelease (s : State) : Host.Outcome State Fault Refusal :=
  done { s with
    power := { s.power with perst := true }
    align := { s.align with line := s.align.line && !s.power.pgMain } }


/-- The substitution state comes back from the tile's copy (R186). -/
def State.restoreSubs (s : State) : State :=
  let t := { s with safety := { s.safety with failedSpares := s.subCopy.failedSpares, heldCores := s.subCopy.heldCores } }
  s.subCopy.maps.foldl (fun s e => s.setReg e.1 e.2) t

/-- H_DIE_RESET_RELEASE (R52): the oscillator and the timebase start, the die-link PLLs and PLL 6 lock, PLL 2 is enabled,
the balls are driven again (R430), and every crossing awaits its marker with its pointers held at 0; after a reset other
than a warm one the substitution state is restored (R186). -/
def State.releaseReset (s : State) : State :=
  let s1 := if s.align.restore then s.restoreSubs else s
  let s2 := ((s1.setBit Reg.CLK_PLL_CTRL 6 true).setBit Reg.CLK_PLL_STATUS 6 true).setBit Reg.CLK_PLL_CTRL 2 true
  { s2 with
    align := { inReset := false, line := false, waiting := crossings, held := [], fifos := [], restore := false }
    power := { s2.power with hiZ := false }
    time := { s2.time with counting := true } }

def execHDieResetRelease (s : State) : Host.Outcome State Fault Refusal :=
  done (if s.align.inReset && !s.align.line && s.power.pgMain && s.power.enables then s.releaseReset else s)

/-- A marker is no longer awaited. -/
def State.markerGone (s : State) (d : Nat) (side : Bool) : State :=
  { s with align := { s.align with waiting := s.align.waiting.filter (fun w => !(w.1 == d && w.2 == side)) } }

/-- Both sides of a crossing set their pointers and credit to the start values (R52). -/
def State.startCrossing (s : State) (d : Nat) (side : Bool) : State :=
  { s with align := { s.align with fifos := s.align.fifos.put {} (2 * d + b2n side) { toDomain := .start, toFabric := .start } } }

/-- ALIGN_MARKER_RETURN (R52): both sides set their pointers and credit to the start values; the tile link shows in
tile_ok. -/
def execAlignMarkerReturn (dom : Fin 25) (side : Bool) (s : State) : Host.Outcome State Fault Refusal :=
  if s.align.waiting.contains (dom.val, side) then
    let s1 := (s.markerGone dom side).startCrossing dom side
    done (if dom.val = 24 then s1.setBit Reg.CLK_ALIGN_STATUS 2 true else s1)
  else done s

/-- ALIGN_MARKER_TIMEOUT (R54): the domain fails, its block is held in reset. -/
def execAlignMarkerTimeout (dom : Fin 25) (side : Bool) (s : State) : Host.Outcome State Fault Refusal :=
  if s.align.waiting.contains (dom.val, side) then
    let s1 := (s.markerGone dom side).setBit Reg.CLK_ALIGN_FAIL dom true
    let held := if s1.align.held.contains dom.val then s1.align.held else s1.align.held ++ [dom.val]
    done (({ s1 with align := { s1.align with held := held } }).setFld Reg.CLK_ALIGN_STATUS 7 3 held.length)
  else done s

/-! ### Adaptive voltage (R57 to R66) -/

/-- The 16 replica rings' rates, in Mtok/s. -/
def ringRates (rates : List Nat) : List Nat := (List.range 16).map (fun i => rates.getD i 0)

/-- The slowest ring: rate and logical cluster, the lowest cluster among equals. -/
def slowest (rs : List Nat) : Nat × Nat :=
  (List.range 16).foldl (fun m i => if rs.getD i 0 < m.1 then (rs.getD i 0, i) else m) (rs.getD 0 0, 0)

/-- RATE_MEASURE (R57): PWR_AVS_RATE takes the slowest ring; each ring has counted its rate's tokens in the 1 µs. -/
def execRateMeasure (rates : List Nat) (s : State) : Host.Outcome State Fault Refusal :=
  if s.mainUp then
    let rs := ringRates rates
    let m := slowest rs
    let t := s.setNat Reg.PWR_AVS_RATE (m.1 % 2048 + m.2 * 65536)
    done { t with avs := { t.avs with
      rings := (List.range 16).map (fun i => t.avs.rings.getD i 0 + rs.getD i 0), us := t.avs.us + 1 } }
  else done s

/-- PWR_AVS_RATE.rate_mtok. -/
def State.rate (s : State) : Nat := s.fld Reg.PWR_AVS_RATE 10 0

/-- A setting in ‰, 500 at most (R69). -/
def pm (v : Nat) : Nat := min v 500

/-- The limits lo and hi of R59, with the throttle voltage as a ceiling while it is active. -/
def State.avsLimits (s : State) (throttle : Bool) : Nat × Nat :=
  let lo := min (max (s.fld Reg.PWR_AVS_LIMIT 9 0) 720) 900
  let hi := min (max (s.fld Reg.PWR_AVS_LIMIT 25 16) 720) 900
  let hi := if throttle then min hi (max (s.fld Reg.PWR_AVS_THROTTLE 25 16) 720) else hi
  (if hi < lo then hi else lo, hi)

/-- The monitors that take part: enabled, with a deadline (R75). -/
def State.avsMonitors (s : State) : List Nat :=
  (List.range 8).filter (fun m => s.bit (Reg.PWR_AVS_MON_CNT m) 31 && s.fld (Reg.PWR_AVS_MON_DL m) 19 0 != 0)

/-- The rate that a monitor needs, in Mtok/s. -/
def State.monNeed (s : State) (m : Nat) : Q :=
  let x := s.monitor m
  match x.w with
  | some w => ⟨(w * 1000 : Nat), s.fld (Reg.PWR_AVS_MON_DL m) 19 0 * (1000 - pm (s.fld Reg.PWR_AVS_TARGET 9 0))⟩
  | none => Q.ofInt (x.rAtEnable.getD s.rate : Nat)

/-- need of R59. -/
def State.avsNeed (s : State) : Q :=
  s.avsMonitors.foldl (fun n m => if n.lt (s.monNeed m) then s.monNeed m else n) ⟨0, 1⟩

/-- A monitor's predicted headroom in ‰, 1 − W/(r·deadline), r being above 0. -/
def State.monPred (s : State) (m w : Nat) : Q :=
  (Q.ofInt 1000).sub ⟨(w * 1000 : Nat), s.rate * s.fld (Reg.PWR_AVS_MON_DL m) 19 0⟩

/-- The monitors that hold a W, enabled or not, with their deadline's monitor number and W (R59). -/
def State.avsCases (s : State) : List (Nat × Nat) :=
  ((List.range 8).filter fun m => s.fld (Reg.PWR_AVS_MON_DL m) 19 0 != 0).filterMap fun m =>
    (s.monitor m).w.map fun w => (m, w)

/-- PWR_AVS_HEADROOM after an update: the lowest prediction over the monitors with a W, clamped to its field. With no
monitor that has a W the register keeps what it holds; with a rate of 0 the prediction is not stated (log entry 7).
DESIGN CHOICE (log entry 70): of equal predictions worst_mon names the lowest monitor. -/
def State.setHeadroom (s : State) : State :=
  let ms := s.avsCases
  match ms with
  | [] => s
  | a :: t =>
    if s.rate = 0 then (s.setNat Reg.PWR_AVS_HEADROOM (s.drawn % 2048 + s.drawn / 2048 % 8 * 65536)).draw
    else
      let b := t.foldl (fun b x => if (s.monPred x.1 x.2).lt (s.monPred b.1 b.2) then x else b) a
      s.setNat Reg.PWR_AVS_HEADROOM (uns 11 (clampI (-1024) 1023 (rna (s.monPred b.1 b.2))) + b.1 * 65536)

/-- The thermal throttle after a reading (R62, R73). -/
def State.throttleNext (s : State) (hottest : Int) : Bool :=
  let on : Int := s.fld Reg.PWR_AVS_THROTTLE 7 0
  let off : Int := s.fld Reg.PWR_AVS_THROTTLE 15 8
  let off := if on ≤ off then on - 1 else off
  if s.bit Reg.PWR_AVS_STATUS 2 then !decide (hottest < off) else decide (on ≤ hottest)

/-- The monitors enabled since the last update record the rate (R59). -/
def State.recordEnables (s : State) : State :=
  (List.range 8).foldl (fun s m =>
    let x := s.monitor m
    if s.bit (Reg.PWR_AVS_MON_CNT m) 31 && x.rAtEnable.isNone then s.setMonitor m { x with rAtEnable := some s.rate } else s) s

/-- The target that an update wants, before the limits. -/
def State.avsWant (s : State) : Int :=
  let prev : Int := s.avs.target
  let r := Q.ofInt (s.rate : Nat)
  let need := s.avsNeed
  if s.bit Reg.PWR_AVS_CTRL 0 then
    if r.lt need then prev + 10
    else if (need.mul ⟨(1000 + pm (s.fld Reg.PWR_AVS_TARGET 25 16) : Nat), 1000⟩).lt r then prev - 10
    else prev
  else s.fld Reg.PWR_AVS_CTRL 25 16

/-- AVS_UPDATE (R59 to R64). DESIGN CHOICE (log entry 71): a write, or its retry, that is still in progress when an update
has a new target gives way to the new write, which has its own 3 retries (R66). -/
def State.avsUpdate (s : State) (hottest : Int) : State :=
  let th := s.throttleNext hottest
  let s1 := (s.setBit Reg.PWR_AVS_STATUS 2 th).recordEnables
  let lim := s1.avsLimits th
  let want := s1.avsWant
  let prev : Int := s1.avs.target
  let v := (clampI (prev - 10) (prev + 10) (clampI lim.1 lim.2 want)).toNat
  let cap := s1.bit Reg.PWR_AVS_CTRL 0 && (Q.ofInt (s1.rate : Nat)).lt s1.avsNeed && decide ((lim.2 : Int) < want)
  let s2 := if cap && !s1.bit Reg.PWR_AVS_STATUS 1 then s1.setBit Reg.PWR_AVS_STATUS 0 true else s1
  let s3 := (s2.setBit Reg.PWR_AVS_STATUS 1 cap).setHeadroom
  let write := s3.bit Reg.PWR_AVS_CTRL 1 && !s3.avs.blocked && decide (v ≠ s3.avs.target)
  { s3 with avs := { s3.avs with target := v, bus := if write then some (v, 0) else s3.avs.bus } }

def execAvsUpdate (hottest : Int) (s : State) : Host.Outcome State Fault Refusal :=
  done (if s.mainUp && !s.domHeld 18 then s.avsUpdate hottest else s)

/-- AVSBUS_TRANSACTION_DONE (R66): the regulator acknowledges, or the write is retried up to 3 times and then given up.
DESIGN CHOICE (log entry 71): R64 does not say when the voltage and status reads are issued, nor what one that fails does;
the model issues none, and the end of a transaction with no write in progress changes nothing. -/
def execAvsbusTransactionDone (ok : Bool) (s : State) : Host.Outcome State Fault Refusal :=
  match s.mainUp && !s.domHeld 18, s.avs.bus with
  | true, some (v, n) =>
    if ok then done { s.setFld Reg.PWR_AVS_STATUS 25 16 v with avs := { s.avs with bus := none } }
    else if n < 3 then done { s with avs := { s.avs with bus := some (v, n + 1) } }
    else done { (s.setBit Reg.PWR_AVS_STATUS 4 true).setBit Reg.PWR_AVS_CTRL 0 false with
      avs := { s.avs with bus := none, blocked := true } }
  | _, _ => done s

/-- A write to PWR_AVS_MON_CNTm with en = 1 (R74, R70): open cases and W are discarded. DESIGN CHOICE (log entry 70): so
too where en is 1 already. -/
def State.monitorEnable (s : State) (m : Nat) (val : Word) : State :=
  let s1 := (s.setReg (Reg.PWR_AVS_MON_CNT m) ((val &&& 0x8FFF0FFF#32) ||| 0x80000000#32)).setMonitor m {}
  if s1.fld (Reg.PWR_AVS_MON_DL m) 19 0 = 0 then s1.setBit Reg.PWR_AVS_STATUS 5 true else s1

/-- MONITOR_ENABLE. -/
def execMonitorEnable (m : Fin 8) (val : Word) (s : State) : Host.Outcome State Fault Refusal :=
  s.hAccess fun s => s.monitorEnable m val

end Sys2Proof.Machine
end

