-- ==== Sys2Proof/Machine/Stats.lean ====
section
/-! DEFINITION. The encoding of a row (R96 to R103), the encoding of weights (R88 to R90), and the statistics streams with
their registers (R104 to R107, R139 to R146). -/

namespace Sys2Proof.Machine

/-! ### Encoding a row (R98) -/

/-- An element after the replacement of R96: its value, and whether it was NaN or infinite. -/
def encInput (f : Fp) (c : Nat) : Q × Bool :=
  match f.read c with
  | .nan => (⟨0, 1⟩, true)
  | .inf neg => (if neg then f.maxFin.neg else f.maxFin, true)
  | .fin _ v => (v, false)

/-- What an encoded row gives: its codes, its entry's scale and zero point, the marks of R93, and the increments of R104. -/
structure Encoded where
  codes : List Nat
  scale : Nat
  zp : Nat
  const : Bool
  clips : Nat
  err : Nat
  nonfin : Nat
  deriving DecidableEq, Repr

def minQ (a b : Q) : Q := if b.lt a then b else a
def maxQ (a b : Q) : Q := if a.lt b then b else a

/-- The scale and zero point of a dynamic row, and whether the row is constant (R98, R101). -/
def dynScale (xs : List Q) (qmax : Nat) : Nat × Nat × Bool :=
  match xs with
  | [] => (0x3F800000, 0, true)
  | x :: t =>
    let m := t.foldl minQ x
    let mx := t.foldl maxQ x
    if m.eq mx then
      if Q.lt ⟨0, 1⟩ mx then (rnf32 (mx.div (Q.ofInt qmax)), 0, true)
      else if mx.lt ⟨0, 1⟩ then (rnf32 (mx.neg.div (Q.ofInt qmax)), qmax, true)
      else (0x3F800000, 0, true)
    else
      let lo := minQ m ⟨0, 1⟩
      let hi := maxQ mx ⟨0, 1⟩
      let s := rnf32 ((hi.sub lo).div (Q.ofInt qmax))
      (s, (clampI 0 qmax (rna (lo.neg.div (Fp.fp32.val s)))).toNat, false)

/-- One element: its code, whether it clips, and its error term in units of 2^-f (R98, R99, R103). -/
def encElem (s : Q) (z qmax f : Nat) (x : Q) : Nat × Bool × Nat :=
  let t : Int := z + rna (x.div s)
  let q := (clampI 0 qmax t).toNat
  let d := x.sub (s.mul (Q.ofInt ((q : Int) - z)))
  (q, decide (t < 0) || decide ((qmax : Int) < t), (rna ((d.mul d).scale2 f)).toNat)

/-- encode_row of R98 on a row of values; a static entry gives scale code and zero point. -/
def encodeVals (xs : List (Q × Bool)) (static : Option (Nat × Nat)) (qmax f : Nat) : Encoded :=
  let dyn := dynScale (xs.map (·.1)) qmax
  let sc := match static with | some e => e.1 | none => dyn.1
  let z := match static with | some e => e.2 | none => dyn.2.1
  let es := xs.map (fun x => encElem (Fp.fp32.val sc) z qmax f x.1)
  { codes := es.map (·.1)
    scale := sc
    zp := z
    const := static.isNone && dyn.2.2
    clips := (es.filter (·.2.1)).length
    err := (es.map (·.2.2)).sum
    nonfin := (xs.filter (·.2)).length }

/-- The entry that a dynamic row writes (R93). -/
def Encoded.entry (e : Encoded) (row : Nat) : Nat :=
  e.scale + e.zp * 2 ^ 32 + b2n e.const * 2 ^ 40 + b2n (decide (e.clips ≠ 0)) * 2 ^ 41 + row % 65536 * 2 ^ 48

/-! ### Encoding a weight (R88 to R90) -/

/-- The code of a weight already divided by its channel scale, and whether it clips. -/
def encWeight (cb : List Int) (u : Q) : Nat × Bool :=
  let lv := fun (c : Nat) => (⟨cb.getD c 0, 16384⟩ : Q)
  if (lv 15).lt u then (15, true)
  else if u.lt (lv 0) then (0, true)
  else
    let best := (List.range 16).foldl (fun (b : Nat) c =>
      let db := (u.sub (lv b)).abs
      let dc := (u.sub (lv c)).abs
      if dc.lt db then c
      else if dc.eq db && decide (b < c) then
        (if (cb.getD c 0).natAbs < (cb.getD b 0).natAbs then b else c)
      else b) 0
    (best, false)

/-! ### The statistics streams (R104 to R107, R143) -/

/-- Add to a 32-bit quantity whose saturation flag is bit `b` of QNT_CFGn. -/
def State.statInc (s : State) (a cfg b k : Nat) : State :=
  let v := satAdd 0xFFFFFFFF (s.reg a).toNat k
  let s1 := s.setNat a v
  if v = 0xFFFFFFFF then s1.setBit cfg b true else s1

/-- The drift alarm's condition (R143). -/
def State.driftCond (s : State) (n : Nat) : Bool :=
  let lim := s.fld (Reg.QNT_LIM n) 19 0
  let count := (s.reg (Reg.QNT_COUNT n)).toNat
  decide (lim ≠ 0) && decide (1024 * s.fld (Reg.QNT_LIM n) 27 20 ≤ count)
    && decide (lim * count < s.reg64 (Reg.QNT_ERR_LO n))
    && !s.bit (Reg.QNT_CFG n) 8 && !s.bit (Reg.QNT_CFG n) 9

/-- One addition to a stream: count, error, clips, constant rows, non-finite elements. -/
def State.statAdd (s : State) (n count err clips const nonfin : Nat) : State :=
  let cfg := Reg.QNT_CFG n
  let s1 := s.statInc (Reg.QNT_COUNT n) cfg 8 count
  let e := satAdd 0xFFFFFFFFFFFF (s1.reg64 (Reg.QNT_ERR_LO n)) err
  let s2 := s1.setReg64 (Reg.QNT_ERR_LO n) e
  let s3 := if e = 0xFFFFFFFFFFFF then s2.setBit cfg 9 true else s2
  let s4 := ((s3.statInc (Reg.QNT_CLIPS n) cfg 10 clips).statInc (Reg.QNT_CONST n) cfg 11 const).statInc
    (Reg.QNT_NONFIN n) cfg 12 nonfin
  if s4.driftCond n then s4.setBit Reg.QNT_ALARM n true else s4

/-- A row's increments, when the operator's entry has stats_en. -/
def State.statRow (s : State) (entry : Nat) (e : Encoded) : State :=
  if eStats entry then s.statAdd (eStream entry) e.codes.length e.err e.clips (b2n e.const) e.nonfin else s

/-- The error exponent of an operator's stream. -/
def State.fexp (s : State) (entry : Nat) : Nat := s.fld (Reg.QNT_CFG (eStream entry)) 5 0

/-- Clear a stream's quantities and flags. -/
def State.qntClear (s : State) (n : Nat) : State :=
  ((((((s.setNat (Reg.QNT_COUNT n) 0).setReg64 (Reg.QNT_ERR_LO n) 0).setNat (Reg.QNT_CLIPS n) 0).setNat (Reg.QNT_CONST n) 0).setNat
    (Reg.QNT_NONFIN n) 0).setFld (Reg.QNT_CFG n) 12 8 0)

/-- Copy a stream to the snapshot registers (R145, R146). -/
def State.qntSnap (s : State) (n : Nat) : State :=
  let st := n % 32 + 256 + s.fld (Reg.QNT_CFG n) 12 8 * 512 + s.fld (Reg.QNT_CFG n) 5 0 * 65536
  (((((s.setNat Reg.QNT_SNAP_STATUS st).setReg Reg.QNT_SNAP_COUNT (s.reg (Reg.QNT_COUNT n))).setReg64 Reg.QNT_SNAP_ERR_LO
    (s.reg64 (Reg.QNT_ERR_LO n))).setReg Reg.QNT_SNAP_CLIPS (s.reg (Reg.QNT_CLIPS n))).setReg Reg.QNT_SNAP_CONST
    (s.reg (Reg.QNT_CONST n))).setReg Reg.QNT_SNAP_NONFIN (s.reg (Reg.QNT_NONFIN n))

/-- A write to QNT_CFGn: one that changes f_exp clears the stream (R141). -/
def State.qntCfgWrite (s : State) (n : Nat) (val : Word) : State :=
  let f := wfld val 5 0
  if f = s.fld (Reg.QNT_CFG n) 5 0 then s else (s.qntClear n).setFld (Reg.QNT_CFG n) 5 0 f

/-- QNT_SNAP. -/
def execQntSnap (n : Fin 32) (s : State) : Host.Outcome State Fault Refusal := s.hAccess fun s => s.qntSnap n

/-- QNT_CLEAR. -/
def execQntClear (n : Fin 32) (s : State) : Host.Outcome State Fault Refusal := s.hAccess fun s => s.qntClear n

/-- QNT_EXP_CHANGE (R141). -/
def execQntExpChange (n : Fin 32) (val : Word) (s : State) : Host.Outcome State Fault Refusal :=
  s.hAccess fun s => s.qntCfgWrite n val

/-- ENG_CLR_SAT (R152). -/
def execEngClrSat (s : State) : Host.Outcome State Fault Refusal :=
  s.hAccess fun s => s.setNat Reg.ENG_SAT_CNT 0

/-- ENG_CLR_BUSY (R152). -/
def execEngClrBusy (s : State) : Host.Outcome State Fault Refusal :=
  s.hAccess fun s => s.setReg64 Reg.ENG_BUSY_LO 0

end Sys2Proof.Machine
end

