-- ==== Sys2Proof/Machine/Engine.lean ====
section
/-! DEFINITION. The product-table engines and the reduction units: weights, rows, tables, drain, combination and faults
(R113 to R138, R286, R287). -/

namespace Sys2Proof.Machine

/-! ### The partition of R287 -/

def Op.engines (o : Op) : Nat := groupSize (eGroup o.bits)
def Op.first (o : Op) : Nat := groupBase (eGroup o.bits)
def Op.split (o : Op) : Nat := eSplit o.bits
def Op.flight (o : Op) : Nat := o.engines / o.split
def Op.outCh (o : Op) : Nat := dDim1 o.in1
def Op.inCh (o : Op) : Nat := dDim2 o.in1
def Op.tiles (o : Op) : Nat := cdiv o.outCh 128
def Op.passCount (o : Op) : Nat := cdiv o.tiles o.flight
def Op.slice (o : Op) : Nat := cdiv o.inCh o.split
def Op.rows (o : Op) : Nat := dRows o.out
def Op.mode (o : Op) : Nat := eMode o.bits

/-- The group-relative index of a logical engine. -/
def Op.rel? (o : Op) (e : Nat) : Option Nat := if o.first ≤ e ∧ e < o.first + o.engines then some (e - o.first) else none

/-- The tile that a relative engine serves in a pass. -/
def Op.tile? (o : Op) (pass er : Nat) : Option Nat :=
  let t := pass * o.flight + er / o.split
  if er / o.split < o.flight ∧ t < o.tiles then some t else none

/-- First channel and number of channels of slice `j`. -/
def Op.sliceOf (o : Op) (j : Nat) : Nat × Nat := (j * o.slice, min o.slice (o.inCh - j * o.slice))

/-- Ungated lanes of a tile (R117). -/
def Op.lanes (o : Op) (t : Nat) : Nat := min 128 (o.outCh - 128 * t)

/-- The passes in which a relative engine has a tile. -/
def Op.passesOf (o : Op) (er : Nat) : Nat := ((List.range o.passCount).filter (fun p => (o.tile? p er).isSome)).length

/-- The relative engines of a core that have a tile. -/
def Op.coreEngs (o : Op) (core : Nat) : List Nat :=
  (List.range 16).filterMap (fun j => (o.rel? (16 * core + j)).filter (fun er => decide (o.passesOf er ≠ 0)))

/-- Relative core of a core in an operator's group, and the number of cores. -/
def Op.relCore (o : Op) (core : Nat) : Nat := core - o.first / 16
def Op.cores (o : Op) : Nat := o.engines / 16

/-- A core's next row of an operator that divides its rows over the cores: row k is relative core k mod C's (R561; for
operators other than ENCODE_ROW and COPY, log entry 18). -/
def Op.nextRow (o : Op) (p : OpPart) : Nat := o.relCore p.core + o.cores * p.rows

/-- The operator gives a core nothing to do. -/
def Op.emptyOn (o : Op) (core : Nat) : Bool :=
  if isEngineOp o.code then (o.coreEngs core).isEmpty else decide (dRows o.out ≤ o.relCore core)

/-! ### Activation rows (R120, R286) -/

/-- The input pixel of element `i` of output row `r` of a CONV2D (R286): its row in in0 and its channel, or none where it
is padded. Dimension 1 is taken as x and dimension 2 as y (log entry 14). -/
def Op.pixel (o : Op) (r i : Nat) : Option (Nat × Nat) :=
  let e := o.bits
  let c := dDim0 o.in0
  let ox := r % dDim1 o.out
  let oy := r / dDim1 o.out % dDim2 o.out
  let n := r / (dDim1 o.out * dDim2 o.out)
  let ix := ox * eSw e + (i / c % eKw e) * eDw e
  let iy := oy * eSh e + (i / (c * eKw e)) * eDh e
  if ePw e ≤ ix ∧ ix < ePw e + dDim1 o.in0 ∧ ePh e ≤ iy ∧ iy < ePh e + dDim2 o.in0 then
    some ((ix - ePw e) + dDim1 o.in0 * ((iy - ePh e) + dDim2 o.in0 * n), i % c)
  else none

/-- The codes of channels `lo` to `lo + n - 1` of activation row `r`; a padded element has code z. -/
def State.actCodes (s : State) (o : Op) (r lo n z : Nat) : List Nat :=
  if o.code = cCONV2D then
    (List.range n).map (fun i => match o.pixel r (lo + i) with
      | some p => (s.rowCodes o.in0 p.1 p.2 1).getD 0 0
      | none => z)
  else s.rowCodes o.in0 r lo n

/-- The memory ranges that a row's codes come from. -/
def Op.actRanges (o : Op) (r lo n : Nat) : List (Nat × Nat) :=
  if o.code = cCONV2D then
    (List.range n).filterMap (fun i => (o.pixel r (lo + i)).map (fun p => (dRowAddr o.in0 p.1, dRowBytes o.in0)))
  else [(dRowAddr o.in0 r, dRowBytes o.in0)]

/-- The scale entry of activation row `r`. -/
def State.actEntry (s : State) (o : Op) (r : Nat) : Nat := s.readNat (dScaleAddr o.in0 r) 8

/-- The fault of an entry used for row `r`: 3 sequence, 2 contents, 0 none (R94, R95). -/
def entryFault (d ent r : Nat) : Nat :=
  if dSsrc d ≠ 2 ∧ entSeq ent ≠ r % 65536 then 3
  else if entFaulty ent (qmaxOf (dFmt d)) then 2 else 0

/-! ### Terms and accumulators (R118 to R122) -/

/-- Channels that one term takes. -/
def chansOf (mode : Nat) : Nat := if mode = 1 then 2 else 1

/-- The product tables that a term's codes build: 16 entries, or two tables of 16 in W4A4. -/
def termTable (mode : Nat) (cb : List Int) (z : Nat) (qs : List Nat) : List Int :=
  productTable cb (qs.getD 0 0) z ++ (if mode = 1 ∧ qs.length = 2 then productTable cb (qs.getD 1 0) z else [])

/-- The table of one of W8A8's four passes (R122): levels 128 × c, then 2,048 × signed(c), times the low and then the high
part of the code. -/
def w8Table (pass z q : Nat) : List Int :=
  let part : Int := if pass % 2 = 0 then ((q % 16 : Nat) : Int) else 16 * ((q / 16 : Nat) : Int) - z
  (List.range 16).map (fun (c : Nat) => (if pass < 2 then 128 * (c : Int) else 2048 * sgn 4 c) * part)

/-- The part of a weight that indexes the table of a pass: wl, then wh. -/
def w8Index (pass w : Nat) : Nat := if pass < 2 then w % 16 else w / 16 % 16

/-- The product registers after a pass: pass 0 sets them, the others add. -/
def w8Pass (pass z q : Nat) (ws : List Nat) (prod : List Int) (lanes : Nat) : List Int :=
  (List.range lanes).map (fun l =>
    (if pass = 0 then 0 else prod.getD l 0) + (w8Table pass z q).getD (w8Index pass (ws.getD l 0)) 0)

/-- What one lane adds: its codes index the tables; in W8A8 the product register after four passes. -/
def laneTerm (mode : Nat) (table : List Int) (z : Nat) (qs ws : List Nat) : Int :=
  if mode = 2 then w8Product (ws.getD 0 0) (qs.getD 0 0) z
  else table.getD (ws.getD 0 0) 0 + (if mode = 1 ∧ qs.length = 2 then table.getD (16 + ws.getD 1 0) 0 else 0)

/-- One term of every ungated lane; `wrows` are the weight rows of the term's channels. -/
def addTerm (mode : Nat) (cb : List Int) (z : Nat) (qs : List Nat) (wrows : List (List Nat)) (accs : List Acc) : List Acc :=
  let table := termTable mode cb z qs
  accs.mapIdx (fun l a => satAcc a (laneTerm mode table z qs (wrows.map (fun w => w.getD l 0))))

/-- A row's terms from channel 0 of the slice on (R120). -/
def rowTerms (mode : Nat) (cb : List Int) (z : Nat) : Nat → List Nat → List (List Nat) → List Acc → List Acc
  | 0, _, _, accs => accs
  | _, [], _, accs => accs
  | fuel + 1, q :: qs, ws, accs =>
    let n := chansOf mode
    rowTerms mode cb z fuel ((q :: qs).drop n) (ws.drop n) (addTerm mode cb z ((q :: qs).take n) (ws.take n) accs)

/-- RAW40 entries as accumulators (R129). -/
def rawAcc (v : Nat) : Acc := (sgn 40 v, v.testBit 40)
def accRaw (a : Acc) : Nat := uns 40 a.1 + b2n a.2 * 2 ^ 40

/-- The start values of a row's lanes of tile `t`: the accumulator start tensor, or zeros. -/
def State.startAccs (s : State) (o : Op) (t r : Nat) : List Acc :=
  (List.range (o.lanes t)).map (fun l =>
    if o.hasAcc then rawAcc (s.readNat (dRowAddr o.acc r + 8 * (128 * t + l)) 8) else (0, false))

/-- The weights of channels `lo` to `lo + n - 1` of tile `t` as the memory holds them. -/
def State.weightRows (s : State) (o : Op) (t lo n : Nat) : List (List Nat) :=
  let d := o.in1
  (List.range n).map (fun i =>
    let bs := s.readBytes (dBase d + t * dStride2 d + (lo + i) * dStride1 d) (dRowBytes d)
    (List.range 128).map (fun l => codeAt (dFmt d) bs l))

/-! ### A whole row by rule -/

/-- The accumulators of slice `j` of tile `t`, row `r`. -/
def State.sliceAccs (s : State) (o : Op) (t r j : Nat) : List Acc :=
  let ent := s.actEntry o r
  let sl := o.sliceOf j
  let st := if o.split = 1 then s.startAccs o t r else (List.range (o.lanes t)).map (fun _ => (0, false))
  rowTerms o.mode o.codebook (entZp ent) (sl.2 + 1) (s.actCodes o r sl.1 sl.2 (entZp ent)) (s.weightRows o t sl.1 sl.2) st

/-- The logical engine of slice `j` of a tile. -/
def Op.engOf (o : Op) (t j : Nat) : Nat := o.first + (t % o.flight) * o.split + j

/-- The core that writes a tile's rows: that of the tile's relative engine 0, whose reduction unit combines a split tile (log
entry 15). -/
def Op.writer (o : Op) (t : Nat) : Nat := o.engOf t 0 / 16

/-- Begin a combination from the row's start values (R131); a flag that a start value carries names relative engine 0
(R130). -/
def State.combStart (s : State) (o : Op) (t r : Nat) : List CombLane :=
  (s.startAccs o t r).map (fun a => { acc := a, byPartial := if a.2 then some (o.engOf t 0) else none })

/-- Add one partial to a combination. -/
def combAdd (eng : Nat) (ls : List CombLane) (p : List Acc) : List CombLane :=
  ls.mapIdx (fun i c =>
    let a := p.getD i (0, false)
    let sum := satAcc c.acc a.1
    { acc := (sum.1, sum.2 || a.2)
      byPartial := if a.2 && c.byPartial.isNone then some eng else c.byPartial
      bySum := if sum.2 && !c.acc.2 && c.bySum.isNone then some eng else c.bySum })

/-- The lanes of a whole row of tile `t`: one engine's accumulators, or the combination of S partials. -/
def State.rowLanes (s : State) (o : Op) (t r : Nat) : List CombLane :=
  if o.split = 1 then (s.sliceAccs o t r 0).map (fun a => { acc := a, byPartial := if a.2 then some (o.engOf t 0) else none })
  else (List.range o.split).foldl (fun ls j => combAdd (o.engOf t j) ls (s.sliceAccs o t r j)) (s.combStart o t r)

/-! ### The drain (R128 to R130) -/

/-- The exact value of an accumulator under a row's scale. -/
def accVal (a : Acc) (scale : Nat) : Q := ((Q.ofInt a.1).mul (Fp.fp32.val scale)).scale2 (-14)

/-- Record a saturated conversion (R130, R151). -/
def State.satRecord (s : State) (o : Op) (eng : Nat) : State :=
  let s1 := s.incSat Reg.ENG_SAT_CNT 1
  if s1.bit Reg.ENG_SAT_FIRST 31 then s1
  else ((s1.setNat Reg.ENG_SAT_FIRST (eng % 1024 + 2 ^ 31)).setNat Reg.ENG_SAT_OP (o.queue + o.entry % 2 ^ 24 * 256))

/-- The bytes of a piece of an output row, and what a code drain adds to its statistics stream. -/
def State.drainBytes (s : State) (o : Op) (r scale : Nat) (ls : List CombLane) : List Byte × Option Encoded :=
  if dFmt o.out = fRAW40 then (ls.flatMap (fun c => toBytes 8 (accRaw c.acc)), none)
  else if isCodes o.out then
    let ent := s.readNat (dScaleAddr o.out r) 8
    let e := encodeVals (ls.map (fun c => (accVal c.acc scale, false))) (some (entScale ent, entZp ent)) (qmaxOf (dFmt o.out))
      (s.fexp o.bits)
    (packCodes (dFmt o.out) e.codes, some e)
  else (ls.flatMap (fun c => toBytes (dFp o.out).bytes ((dFp o.out).rnf (accVal c.acc scale))), none)

/-- A piece of an output row (tile `t`, row `r`) is converted and written; the saturated lanes are recorded, lowest
engine first (R151). -/
def State.writePiece (s : State) (o : Op) (t r scale : Nat) (ls : List CombLane) : State :=
  let d := s.drainBytes o r scale ls
  let at' := dRowAddr o.out r + runBytes (dFmt o.out) (128 * t)
  let s1 := (s.store at' d.1).blur o at' d.1.length
  let s2 := match d.2 with | some e => s1.statRow o.bits e | none => s1
  let sat := ls.filterMap (fun c => if c.acc.2 then some ((c.byPartial.orElse fun _ => c.bySum).getD (o.engOf t 0)) else none)
  let lowest := sat.foldl min (sat.headD 0)
  if dFmt o.out = fRAW40 then s2
  else sat.foldl (fun s _ => s.satRecord o lowest) s2

/-! ### Progress on a core (R160, R163) -/

def State.eng (s : State) (e : Nat) : Engine := s.engines.eng.look {} e

def State.setEng (s : State) (e : Nat) (x : Engine) : State :=
  { s with engines := { s.engines with eng := s.engines.eng.put {} e x } }

def Engine.half (x : Engine) (h : Bool) : WeightHalf := if h then x.half1 else x.half0

def Engine.setHalf (x : Engine) (h : Bool) (w : WeightHalf) : Engine := if h then { x with half1 := w } else { x with half0 := w }

/-- Passes that a relative engine has finished. -/
def Op.passNow (o : Op) (er : Nat) : Nat := o.passes.look 0 er

/-- A half has passed row `r` of the operator's pass `p` to the latch. -/
def WeightHalf.passed (w : WeightHalf) (o : Op) (p r : Nat) : Bool :=
  w.owner == some (o.queue, o.entry) && w.pass == p && decide (r < w.nextRow)

/-- A relative engine has handed row `r` of pass `p` on: it has left the drain latch. -/
def State.handedOn (s : State) (o : Op) (er p r : Nat) : Bool :=
  let x := s.eng (o.first + er)
  (decide (p < o.passNow er) || x.half0.passed o p r || x.half1.passed o p r)
    && (match x.latch with | some l => !(l.owner == (o.queue, o.entry) && l.pass == p && l.row == r) | none => true)

/-- Every unit of a core has finished with output row `r` of an engine operator: its engines have handed it on in every pass,
and the pieces that the core writes are written. -/
def State.rowDoneOn (s : State) (o : Op) (core r : Nat) : Bool :=
  (o.coreEngs core).all (fun er => (List.range (o.passesOf er)).all (fun p => s.handedOn o er p r))
    && (List.range o.tiles).all (fun t => o.writer t != core || o.rowsOut.contains (t * o.rows + r))

/-- Output rows of an engine operator completed on a core. -/
def State.rowsOn (s : State) (o : Op) (core : Nat) : Nat := ((List.range o.rows).filter (s.rowDoneOn o core)).length

/-- The scoreboard entry of a part shows the rows done on its core, and the state of R160. -/
def State.showPart (s : State) (p : OpPart) (rows : Nat) : State :=
  match p.phase with
  | .admitted i => s.setSb p.core i { s.sbAt p.core i with rowsDone := rows % 65536, state := if p.finished then 4 else 3 }
  | _ => s

/-- The part of an engine operator on a core after one of the core's units has finished with a row. -/
def State.progress (s : State) (q entry core : Nat) : State :=
  match s.op? q entry with
  | some o => match o.part? core with
    | some p =>
      let n := s.rowsOn o core
      let p1 := { p with finished := decide (n = o.rows) }
      (s.setOp (o.setPart p1)).showPart p1 n
    | none => s
  | none => s

/-- One of the `n` pieces of output row `r` has been written by its unit; the last one puts the row's hashes into the sum of
R468. -/
def Op.hash (o : Op) (r place n : Nat) (bs : List Byte) : Op :=
  if o.digested then
    let ps := (r, place, bs) :: o.pieces
    let mine := ps.filter (fun p => p.1 == r)
    if mine.length < n then { o with pieces := ps }
    else
      let row := (List.range n).flatMap (fun i => ((mine.find? (fun p => p.2.1 == i)).map (·.2.2)).getD [])
      { o with digest := (o.digest + rowHash r row) % 2 ^ 64, pieces := o.pieces.filter (fun p => p.1 != r) }
  else o

/-- The same for the operator in flight; where its output overlaps an input, what memory holds is what the unit wrote. -/
def State.hashed (s : State) (o : Op) (r place n a : Nat) (bs : List Byte) : State :=
  match s.op? o.queue o.entry with
  | some p => s.setOp (p.hash r place n (if o.overlaps then s.readBytes a bs.length else bs))
  | none => s

/-- A piece of an output row is complete: tile `t`, row `r`, with a saturated lane or not. -/
def State.pieceDone (s : State) (o : Op) (t r : Nat) (sat : Bool) : State :=
  match s.op? o.queue o.entry with
  | some p =>
    let rowsOut := if p.rowsOut.contains (t * o.rows + r) then p.rowsOut else p.rowsOut ++ [t * o.rows + r]
    (s.setOp { p with rowsOut := rowsOut, satSeen := p.satSeen || sat }).progress o.queue o.entry (o.writer t)
  | none => s

/-! ### Engine faults (R136 to R138) -/

/-- Record an engine fault; `rru` for the row-range unit (R562); `row` none when it precedes the first row. -/
def State.engRecord (s : State) (o : Op) (cause eng : Nat) (row : Option Nat) (rru : Bool := false) : State :=
  s.recordFirst Reg.ENG_FAULT_STATUS fun s =>
    ((s.setNat Reg.ENG_FAULT_STATUS (s.fld Reg.ENG_FAULT_STATUS 1 0 + b2n rru * 4 + cause * 16 + eng % 1024 * 256)).setNat
      Reg.ENG_FAULT_OP (o.queue + o.entry % 2 ^ 24 * 256)).setNat Reg.ENG_FAULT_ROW
        (match row with | some r => r % 65536 + 65536 | none => 0)

/-- Check a per-row output entry of a code drain (R128): the fault, 0 when there is none. -/
def State.outFault (s : State) (o : Op) (r : Nat) : Nat :=
  if isCodes o.out && dSsrc o.out == 1 then entryFault o.out (s.readNat (dScaleAddr o.out r) 8) r else 0

/-- The pieces of the output (tile, row) that R137 leaves complete on a fault at a row of a pass and that are not yet
written, in the order of passes and rows. -/
def Op.undrained (o : Op) (pass row : Nat) : List (Nat × Nat) :=
  (List.range (pass + 1)).flatMap fun p => (List.range (if p < pass then o.rows else min row o.rows)).flatMap fun r =>
    ((List.range o.tiles).filter (fun t => decide (t / o.flight = p) && !o.rowsOut.contains (t * o.rows + r))).map fun t => (t, r)

/-- Write the rows that a fault at a row of a pass leaves complete. -/
def State.completeBefore (s : State) (o : Op) (pass row : Nat) : State :=
  (o.undrained pass row).foldl (fun s p => s.writePiece o p.1 p.2 (entScale (s.actEntry o p.2)) (s.rowLanes o p.1 p.2)) s

/-- The queue of an operator stops on an engine fault at a row of a pass: rows below it are complete (R137, R184). -/
def State.engStop (s : State) (o : Op) (pass row : Nat) : State :=
  s.faultQueue o.queue 1 0 none o.entry (fun p t r => decide (p.entry = o.entry) &&
    (decide (t / o.flight < pass) || (decide (t / o.flight = pass) && decide (r < row))))

/-- An engine fault at a row of a pass. Where the conversion of an earlier row that has not been written meets a fault of its
own output entry (R94, R95), that is the fault recorded, and this one is a further fault (R138). -/
def State.engFault (s : State) (o : Op) (cause eng pass row : Nat) : State :=
  match (o.undrained pass row).find? (fun p => s.outFault o p.2 != 0) with
  | some (t, r) =>
    let s1 := (s.completeBefore o (t / o.flight) r).engRecord o (s.outFault o r) (o.engOf t 0) (some r)
    (s1.engRecord o cause eng (some row)).engStop o (t / o.flight) r
  | none => ((s.completeBefore o pass row).engRecord o cause eng (some row)).engStop o pass row

/-- An engine fault before the first row: no row of the output is complete. Every engine that the operator uses meets it in
the same token, so the lowest is recorded, with more where there are others (R138). -/
def State.engFaultIssue (s : State) (o : Op) (cause : Nat) (more : Bool) : State :=
  let s1 := s.engRecord o cause o.first none
  let s2 := if more || decide (1 < o.split) || decide (1 < min o.flight o.tiles) then s1.setBit Reg.ENG_FAULT_STATUS 1 true else s1
  s2.faultQueue o.queue 1 0 none o.entry

/-! ### Memory accesses of an operator -/

/-- A step of an operator on a core accesses memory. While a link on a route is closed the accesses are held (R202, R218); an
address fault of a read ends the operator (R26, R184); else the reads meet what their check bits hold and the work goes on. -/
def State.opAccess (s : State) (o : Op) (core : Nat) (reads writes : List (Nat × Nat)) (k : State → State) : State :=
  if s.reaches (coreNode core) (reads ++ writes) then
    match s.faultsIn reads with
    | [] => k (s.eccReads reads)
    | fs => s.opAddrFault o.queue o.entry false fs
  else s

/-- The writes of the step: an address fault ends the operator. -/
def State.opWrite (s : State) (o : Op) (writes : List (Nat × Nat)) (k : State → State) : State :=
  match s.faultsIn writes with
  | [] => k s
  | fs => s.opAddrFault o.queue o.entry true fs

/-! ### Engines at work -/

/-- A credit error of its activation buffer or scale FIFO has stopped a logical engine (R247). -/
def State.engStopped (s : State) (e : Nat) : Bool :=
  s.links.stopped.any (fun c => creditUnit c == some (s.place (e / 16) (s.physEng (e / 16) (e % 16))))

/-- A logical engine works. -/
def State.engRuns (s : State) (e : Nat) : Bool := s.mainUp && !s.engStopped e

/-- The scoreboard entry of an operator's part on a core. -/
def Op.slot? (o : Op) (core : Nat) : Option Nat :=
  match o.part? core with
  | some ⟨_, .admitted i, _, _, _⟩ => some i
  | _ => none

/-- The operator's part on a core is admitted. -/
def Op.admittedOn (o : Op) (core : Nat) : Bool := (o.slot? core).isSome

/-- The operator runs on engine `e`: issued, admitted on its core, and predecessors retired. -/
def State.runsOn (s : State) (o : Op) (e : Nat) : Bool :=
  isEngineOp o.code && o.executed && o.admittedOn (e / 16) && s.unblocked o

/-- Every engine of the operator has finished the passes before `p`. -/
def Op.passOpen (o : Op) (p : Nat) : Bool :=
  (List.range o.engines).all (fun er => decide (min p (o.passesOf er) ≤ o.passNow er))

/-- An engine still has rows of the operator to run. -/
def Op.pendingOn (o : Op) (e : Nat) : Bool :=
  match o.rel? e with
  | some er => isEngineOp o.code && decide (o.passNow er < o.passesOf er)
  | none => false

/-- The halves that the operator uses include `h` (R115). -/
def Op.usesHalf (o : Op) (h : Bool) : Bool := decide (eHalf o.bits = 2) || decide (eHalf o.bits = b2n h)

/-- The operator already holds an engine's weights. -/
def Engine.holds (x : Engine) (o : Op) : Bool :=
  x.half0.owner == some (o.queue, o.entry) || x.half1.owner == some (o.queue, o.entry)

/-- The operators admitted on an engine's core, of its context `c`, with rows to run on the engine, in admission order. -/
def State.engOps (s : State) (e c : Nat) : List Op :=
  s.sched.ops.filter (fun o => decide (o.lead % 4 = c) && o.admittedOn (e / 16) && o.pendingOn e)

/-- Keys of the round-robin pointers of R173: the inputs of a core's four shared units, and an engine's load port. -/
def unitKey (core u : Nat) : Nat := 4 * core + u
def loadKey (e : Nat) : Nat := 256 + e

/-- The contexts of a core in the order of a pointer. -/
def State.turns (s : State) (key : Nat) : List Nat := (List.range 4).map (fun i => (s.sched.ptr.look 0 key + i) % 4)

/-- A pointer advances past the context granted. -/
def State.granted (s : State) (key c : Nat) : State :=
  { s with sched := { s.sched with ptr := s.sched.ptr.put 0 key ((c + 1) % 4) } }

/-- The operator that a load into half `h` of engine `e` serves: of each context the first that holds no weights here, when it
is issued and uses the half (R115, R163); among contexts the first in round-robin order (R173). -/
def State.loadOp? (s : State) (e : Nat) (h : Bool) : Option Op :=
  (s.turns (loadKey e)).findSome? (fun c =>
    ((s.engOps e c).find? (fun o => !(s.eng e).holds o)).filter (fun o => s.runsOn o e && o.usesHalf h))

/-- Count a weight load (R210) in started units of 64 bytes: from core and hub memory as on-chip, from LPDDR5X as spill. -/
def State.countLoad (s : State) (a n : Nat) : State :=
  let add := fun (r : Nat) => s.setReg64 r ((s.reg64 r + cdiv n 64) % 2 ^ 64)
  match regionOf a with
  | some .lpddr => add Reg.MEM_WLD_SPILL_LO
  | some .core => add Reg.MEM_WLD_ONCHIP_LO
  | some .hub => add Reg.MEM_WLD_ONCHIP_LO
  | _ => s

/-- The scoreboard entry of a part shows that a unit is busy with it (R160). -/
def State.partBusy (s : State) (o : Op) (core : Nat) : State :=
  match o.slot? core with
  | some i => s.setSb core i { s.sbAt core i with state := 3 }
  | none => s

/-- Bits of one code in the weight SRAM. -/
def weightBits (d : Nat) : Nat := if dFmt d = fW8 then 8 else 4

/-- Invert bit `p` of the 64-bit word of a run of codes of `b` bits each that starts at code `off`; bits beyond the first 64
are check bits. -/
def flipCode (b off p : Nat) (ws : List Nat) : List Nat :=
  if p < 64 then ws.mapIdx (fun i w => if i = off + p / b then w ^^^ 2 ^ (p % b) else w) else ws

/-- Two flipped bits of a word of codes: which two, the manual leaves open. -/
def State.flipCodes (s : State) (b off : Nat) (ws : List Nat) : List Nat :=
  let p := s.drawn % 72
  let q := (p + 1 + (s.draw).drawn % 71) % 72
  flipCode b off q (flipCode b off p ws)

/-- TST_ECC inverts two bits of the next word written to an array (R494). -/
def State.tstDouble (s : State) (arr : SramArray) : Bool := s.tstEccHits arr && s.bit Reg.TST_ECC 3

/-- A load of a slice into a half: weights, codebook, check bits, counters. -/
def State.loadWeights (s : State) (o : Op) (e er : Nat) (h : Bool) : State :=
  let pass := o.passNow er
  match o.tile? pass er with
  | some t =>
    let sl := o.sliceOf (er % o.split)
    let d := o.in1
    let rs := (List.range sl.2).map (fun i => (dBase d + t * dStride2 d + (sl.1 + i) * dStride1 d, dRowBytes d))
    s.opAccess o (e / 16) rs [] fun s =>
      let both := decide (eHalf o.bits = 2)
      let h := h && !both
      let rows := s.weightRows o t sl.1 sl.2
      let arr := s.engArray 1 e
      let lo := if h then 4096 else 0
      let dbl := s.tstDouble arr && decide (0 < sl.2)
      let rows := if dbl then rows.mapIdx (fun i w => if i = 0 then s.flipCodes (weightBits d) 0 w else w) else rows
      let s1 := rs.foldl (fun s r => s.countLoad r.1 r.2) (if dbl then s.draw 2 else s)
      let s2 := if sl.2 = 0 then s1 else s1.eccWriteSpan (arr, lo, lo + sl.2 * dRowBytes d / 8)
      let w : WeightHalf := { owner := some (o.queue, o.entry), shared := both, pass := pass, rows := rows, codebook := o.codebook }
      let x := s2.eng e
      let x1 := x.setHalf h w
      let x2 := if both then x1.setHalf true { owner := some (o.queue, o.entry), shared := true, pass := pass, codebook := o.codebook }
        else x1
      ((s2.setEng e x2).partBusy o (e / 16)).granted (loadKey e) (o.lead % 4)
  | none => s

/-- WEIGHT_LOAD (R115): a load into a half starts once the half is no longer in use, or, for an operator that selects
both, once neither is. -/
def execWeightLoad (e : Fin 1024) (half : Bool) (s : State) : Host.Outcome State Fault Refusal :=
  match s.engRuns e, s.loadOp? e half with
  | true, some o =>
    let x := s.eng e
    let free := if eHalf o.bits = 2 then x.half0.owner.isNone && x.half1.owner.isNone else (x.half half).owner.isNone
    match o.rel? e with
    | some er => if free && o.passOpen (o.passNow er) then done (s.loadWeights o e er half) else done s
    | none => done s
  | _, _ => done s

/-! ### The activation buffer and the scale FIFO (R117, R126, R170) -/

/-- 64-bit words that a row's codes take in the activation buffer, a multiple of 64 bytes. -/
def actWords (d n : Nat) : Nat := cdiv (runBytes (dFmt d) n) 64 * 8

/-- The half's operator is resident alone. -/
def Engine.alone (x : Engine) (h : Bool) : Bool := (x.half h).shared || (x.half (!h)).owner.isNone

/-- Entries that the scale FIFO holds for a half: 16, or 8 while two operators are resident. -/
def Engine.fifoDepth (x : Engine) (h : Bool) : Nat := if x.alone h then 16 else 8

/-- First word and size of a half's region of the activation buffer: all 16 KiB, or 8 KiB while two operators are resident. -/
def Engine.region (x : Engine) (h : Bool) : Nat × Nat := if x.alone h then (0, 2048) else (if h then 1024 else 0, 1024)

/-- Where a row of `n` words is put: the first place of the region that no buffered row takes (log entry 27); none while the
buffer is full. -/
def Engine.place? (x : Engine) (h : Bool) (n : Nat) : Option Nat :=
  let r := x.region h
  ((List.range (r.2 / 8)).map (fun i => r.1 + 8 * i)).find? (fun a => decide (a + n ≤ r.1 + r.2)
    && (x.half0.buf ++ x.half1.buf).all (fun b => decide (a + n ≤ b.word ∨ b.word + b.words ≤ a)))

/-- The operator whose next row can enter a half's region, with the engine's relative index, the tile and the place. -/
def State.fillable? (s : State) (e : Nat) (h : Bool) : Option (Op × Nat × Nat × Nat) :=
  let x := s.eng e
  let w := x.half h
  match w.owner with
  | some (q, i) => match s.op? q i with
    | some o => match o.rel? e with
      | some er => match o.tile? w.pass er, x.place? h (actWords o.in0 (o.sliceOf (er % o.split)).2) with
        | some t, some a =>
          if !(h && w.shared) && s.runsOn o e && decide (w.fill < o.rows)
              && (dSsrc o.in0 == 2 || decide (w.buf.length < x.fifoDepth h)) then some (o, er, t, a) else none
        | _, _ => none
      | none => none
    | none => none
  | none => none

/-- The ranges that the next row of a half and its entry come from; a broadcast entry is read once. -/
def Op.fillReads (o : Op) (w : WeightHalf) (sl : Nat × Nat) : List (Nat × Nat) :=
  (if dSsrc o.in0 = 2 ∧ w.cast.isSome = true then [] else [(dScaleAddr o.in0 w.fill, 8)]) ++ o.actRanges w.fill sl.1 sl.2

/-- The next row of a half enters its region of the activation buffer, and its entry the scale FIFO. -/
def State.fillRow (s : State) (o : Op) (e er a : Nat) (h : Bool) : State :=
  let w := (s.eng e).half h
  let sl := o.sliceOf (er % o.split)
  s.opAccess o (e / 16) (o.fillReads w sl) [] fun s =>
    let ent := w.cast.getD (s.actEntry o w.fill)
    let cast := decide (dSsrc o.in0 = 2)
    let arr := s.engArray 2 e
    let n := actWords o.in0 sl.2
    let codes := s.actCodes o w.fill sl.1 sl.2 (entZp ent)
    let dbl := s.tstDouble arr && decide (0 < sl.2)
    let codes := if dbl then s.flipCodes (if dFmt o.in0 = fA4 then 4 else 8) 0 codes else codes
    let s1 := if dbl then s.draw 2 else s
    let s2 := if sl.2 = 0 then s1 else s1.eccWriteSpan (arr, a, a + n)
    s2.setEng e ((s2.eng e).setHalf h { w with
      fill := w.fill + 1
      buf := w.buf ++ [{ row := w.fill, codes := codes, word := a, words := n, entry := if cast then none else some ent }]
      cast := if cast then some ent else none })

/-- Rows enter a half's region while there is room for them. -/
def State.fillHalf (s : State) (e : Nat) (h : Bool) : Nat → State
  | 0 => s
  | n + 1 => match s.fillable? e h with
    | some (o, er, _, a) => (s.fillRow o e er a h).fillHalf e h n
    | none => s

/-- Rows enter the engine's activation buffer for the operators resident on it. -/
def State.filled (s : State) (e : Nat) : State := (s.fillHalf e false 16).fillHalf e true 16

/-! ### Rows (R118 to R127) -/

/-- The resident operators of an engine whose next row has its code and its entry present (R126): the half, the operator. -/
def State.rowCands (s : State) (e : Nat) : List (Bool × Op) :=
  let x := s.eng e
  [false, true].filterMap (fun h =>
    let w := x.half h
    match w.owner with
    | some (q, i) =>
      if h && w.shared then none else
      match s.op? q i with
      | some o => if (w.buf.head?).any (fun b => b.row == w.nextRow) && s.runsOn o e then some (h, o) else none
      | none => none
    | none => none)

/-- An older operator of the same queue still has rows to run on the engine (R163). -/
def State.olderPending (s : State) (o : Op) (e : Nat) : Bool :=
  s.sched.ops.any (fun p => p.queue == o.queue && decide (p.entry < o.entry) && p.admittedOn (e / 16) && p.pendingOn e)

/-- Of two operators on a core the first is the older by age, a sequence number modulo 65,536 (R160). -/
def State.older (s : State) (core : Nat) (a b : Op) : Bool :=
  match a.slot? core, b.slot? core with
  | some i, some j => decide (((s.sbAt core j).age + 65536 - (s.sbAt core i).age) % 65536 < 32768)
  | _, _ => false

/-- The row that an engine starts next (R170): the higher priority, at equal priority the older operator. -/
def State.nextRow? (s : State) (e : Nat) : Option (Bool × Op) :=
  let cs := (s.rowCands e).filter (fun c => !s.olderPending c.2 e)
  cs.foldl (fun best c => match best with
    | none => some c
    | some b =>
      let pb := s.prio b.2.lead
      let pc := s.prio c.2.lead
      if pb < pc ∨ (pb = pc ∧ s.older (e / 16) c.2 b.2 = true) then some c else best) none

/-- The entry at the head of a half: the scale FIFO's, or the broadcast entry. -/
def WeightHalf.entry (w : WeightHalf) : Nat :=
  match w.buf.head? with
  | some b => b.entry.getD (w.cast.getD 0)
  | none => 0

/-- An engine starts a row (R126): the entry is checked, the accumulators take their start values. -/
def State.startRow (s : State) (o : Op) (e er : Nat) (h : Bool) : State :=
  let w := (s.eng e).half h
  let r := w.nextRow
  match o.tile? w.pass er with
  | some t =>
    let f := entryFault o.in0 w.entry r
    if f ≠ 0 then s.engFault o f e w.pass r
    else
      s.opAccess o (e / 16) (if o.hasAcc && o.split == 1 then [(dRowAddr o.acc r + 1024 * t, 8 * o.lanes t)] else []) [] fun s =>
        s.setEng e { s.eng e with
          run := some { half := h, row := r, zp := entZp w.entry, scale := entScale w.entry, k := 0 }
          accs := if o.split = 1 then s.startAccs o t r else (List.range (o.lanes t)).map (fun _ => (0, false)) }
  | none => s

/-- ENGINE_ROW_START: rows enter the activation buffer, and the engine starts the next one present. -/
def execEngineRowStart (e : Fin 1024) (s : State) : Host.Outcome State Fault Refusal :=
  if s.engRuns e && (s.eng e).run.isNone then
    let s1 := s.filled e
    match s1.nextRow? e with
    | some (h, o) => match o.rel? e with
      | some er => done (s1.startRow o e er h)
      | none => done s1
    | none => done s1
  else done s

/-- The operator of an engine's running row. -/
def State.runOp? (s : State) (e : Nat) : Option (RowRun × Op) :=
  let x := s.eng e
  match x.run with
  | some r => match (x.half r.half).owner with
    | some (q, i) => (s.op? q i).map (fun o => (r, o))
    | none => none
  | none => none

/-- The buffered row that an engine runs. -/
def Engine.bufRow (x : Engine) (r : RowRun) : BufRow := ((x.half r.half).buf.head?).getD ⟨r.row, [], 0, 0, none⟩

/-- The codes of the row that an engine runs. -/
def Engine.codes (x : Engine) (r : RowRun) : List Nat := (x.bufRow r).codes

/-- An engine takes one table (R118, R119, R122): the next term of its row, or in W8A8 the next pass of it. The count of busy
engine-tokens counts a W8A8 term four times, once a pass: R147 speaks of the tokens in which an engine added a term and of
engine utilisation, and the term is added once, after four passes (DESIGN CHOICE, log entry 73). -/
def Engine.term (x : Engine) (r : RowRun) (mode : Nat) : Engine :=
  let w := x.half r.half
  let n := chansOf mode
  let qs := ((x.codes r).drop r.k).take n
  let wrows := (w.rows.drop r.k).take n
  if mode = 2 then
    let q := qs.getD 0 0
    let prod := w8Pass r.pass r.zp q (wrows.getD 0 []) x.prod x.accs.length
    let last := decide (3 ≤ r.pass)
    { x with
      table := w8Table r.pass r.zp q, prod := prod
      accs := if last then x.accs.mapIdx (fun l a => satAcc a (prod.getD l 0)) else x.accs
      run := some (if last then { r with k := r.k + 1, pass := 0 } else { r with pass := r.pass + 1 }) }
  else
    { x with
      table := termTable mode w.codebook r.zp qs
      accs := addTerm mode w.codebook r.zp qs wrows x.accs
      run := some { r with k := r.k + qs.length } }

/-- The words of the engine's arrays that a table and its term read: weight rows and codes, in W8A8 at the first pass. -/
def State.termReads (s : State) (e : Nat) (r : RowRun) (o : Op) : List (SramArray × Nat × Nat) :=
  if r.pass = 0 then
    let b := (s.eng e).bufRow r
    let words := dRowBytes o.in1 / 8
    let lo := (if r.half then 4096 else 0) + r.k * words
    let cw := b.word + r.k * (if dFmt o.in0 = fA4 then 4 else 8) / 64
    [(s.engArray 1 e, lo, lo + min (chansOf o.mode) (b.codes.length - r.k) * words), (s.engArray 2 e, cw, cw + 1)]
  else []

/-- TABLE_BUILD (R118, R119): the next table of the running row, read from the engine's arrays, and what its lanes add. -/
def execTableBuild (e : Fin 1024) (s : State) : Host.Outcome State Fault Refusal :=
  match s.engRuns e, s.runOp? e with
  | true, some (r, o) =>
    if ((s.eng e).codes r).length ≤ r.k then done s
    else
      let s1 := s.eccReadSpans (s.termReads e r o)
      let s2 := s1.setEng e ((s1.eng e).term r o.mode)
      done (s2.setReg64 Reg.ENG_BUSY_LO ((s2.reg64 Reg.ENG_BUSY_LO + 1) % 2 ^ 64))
  | _, _ => done s

/-- The check that the row ending on engine `e` meets (R478). -/
def State.checkOf? (s : State) (e : Nat) (r : RowRun) (o : Op) (pass : Nat) : Option CheckPlan :=
  s.safety.checks.find? (fun c => c.queue == o.queue && c.entry == o.entry && c.eng == e && c.row == pass * o.rows + r.row)

/-- The checker compares its accumulators with the engine's (R478, R479). Whether its load has finished when the row passes is
a matter of timing that the model leaves free (log entry 36): a check whose load has not is skipped. -/
def State.checkRow (s : State) (e : Nat) (r : RowRun) (o : Op) : State :=
  let x := s.eng e
  let w := x.half r.half
  match s.checkOf? e r o w.pass, o.rel? e with
  | some c, some er =>
    match o.tile? w.pass er with
    | some t =>
      let same := decide (s.sliceAccs o t r.row (er % o.split) = x.accs)
      let s1 := { s.draw with safety := { s.safety with checks := s.safety.checks.filter (· != c) } }
      if s.drawn % 2 = 0 then s1.incFld Reg.SAF_CHK_CNT 31 16 1
      else
        let s2 := s1.incFld Reg.SAF_CHK_CNT 15 0 1
        if same then s2 else s2.raise { src := 0x0B, unit := some (s.place (e / 16) (s.physEng (e / 16) (e % 16))) }
    | none => s
  | _, _ => s

/-- A row that ends moves to the latch and its entry leaves the FIFO (R126, R127); a half whose last row has moved is free
(R115). -/
def State.endRow (s : State) (e : Nat) (r : RowRun) (o : Op) : State :=
  let x := s.eng e
  let w := x.half r.half
  let last := decide (o.rows ≤ r.row + 1)
  let freeBoth := last && w.shared
  let x1 := { x with
    run := none, accs := [], prod := []
    latch := some { owner := (o.queue, o.entry), pass := w.pass, row := r.row, scale := r.scale, accs := x.accs } }
  let x2 := if freeBoth then { x1 with half0 := {}, half1 := {} }
    else x1.setHalf r.half (if last then {} else { w with nextRow := r.row + 1, buf := w.buf.drop 1 })
  let s1 := s.setEng e x2
  match last, o.rel? e with
  | true, some er => s1.setOp { o with passes := o.passes.put 0 er (w.pass + 1) }
  | _, _ => s1

/-- ENGINE_ROW_END (R127): waits for the last term and for the latch. -/
def execEngineRowEnd (e : Fin 1024) (s : State) : Host.Outcome State Fault Refusal :=
  match s.engRuns e && (s.eng e).latch.isNone, s.runOp? e with
  | true, some (r, o) => if ((s.eng e).codes r).length ≤ r.k then done ((s.checkRow e r o).endRow e r o) else done s
  | _, _ => done s

/-- The memory ranges that a conversion of a row of codes reads. -/
def Op.outReads (o : Op) (r : Nat) : List (Nat × Nat) := if isCodes o.out then [(dScaleAddr o.out r, 8)] else []

/-- Convert and write a piece of an output row on the tile's core, `before` being the state once the piece has left its unit:
output entry, write, completion. -/
def State.convert (s : State) (o : Op) (eng t r scale : Nat) (ls : List CombLane) (leave : State → State) : State :=
  let a := dRowAddr o.out r + runBytes (dFmt o.out) (128 * t)
  let out := [(a, runBytes (dFmt o.out) ls.length)]
  s.opAccess o (o.writer t) (o.outReads r) out fun s =>
    let s := leave s
    let f := s.outFault o r
    if f ≠ 0 then s.engFault o f eng (t / o.flight) r
    else
      s.opWrite o out fun s =>
        ((s.writePiece o t r scale ls).hashed o r t o.tiles a (s.drainBytes o r scale ls).1).pieceDone o t r
          (ls.any (fun c => c.acc.2))

/-- The drain latch of an engine is emptied. -/
def State.unlatch (s : State) (e : Nat) : State := s.setEng e { (s.eng e) with latch := none }

/-- DRAIN_CONVERT (R128, R131): a row of an unsplit tile is converted and written; a row of a split tile becomes a RAW40
partial for the reduction unit. -/
def execDrainConvert (e : Fin 1024) (s : State) : Host.Outcome State Fault Refusal :=
  match s.engRuns e, (s.eng e).latch with
  | true, some l =>
    match s.op? l.owner.1 l.owner.2 with
    | some o =>
      match o.rel? e with
      | some er =>
        match o.tile? l.pass er with
        | some t =>
          if o.split = 1 then
            done (s.convert o e t l.row l.scale
              (l.accs.map (fun a => { acc := a, byPartial := if a.2 then some e.val else none })) (·.unlatch e))
          else if s.routeOpen (coreNode (e / 16)) (coreNode (o.writer t)) then
            let s1 := s.unlatch e
            done (State.progress { s1 with engines := { s1.engines with partials := s1.engines.partials ++
              [{ owner := l.owner, tile := t, row := l.row, rel := er % o.split, eng := e, scale := l.scale, accs := l.accs }] } }
              o.queue o.entry (e / 16))
          else done s
        | none => done (s.unlatch e)
      | none => done (s.unlatch e)
    | none => done (s.unlatch e)
  | _, _ => done s

/-! ### The units that contexts share (R163, R171, R173) -/

/-- The shared units of a core: row-range unit, vector unit, reduction unit, and the load and store ports of COPY. -/
inductive OpUnit where
  | rr | vec | red | port
  deriving DecidableEq, Repr

def OpUnit.num : OpUnit → Nat
  | .rr => 0
  | .vec => 1
  | .red => 2
  | .port => 3

/-- The shared unit of an operator that does not run on the engines. -/
def Op.unit (o : Op) : OpUnit :=
  if o.code = cENCODE_ROW then .rr else if o.code = cREDUCE then .red else if o.code = cCOPY then .port else .vec

/-- The operator uses a shared unit of a core. -/
def Op.uses (o : Op) (core : Nat) (u : OpUnit) : Bool :=
  if isEngineOp o.code then u == .red && o.split != 1 && (List.range o.tiles).any (fun t => o.writer t == core)
  else u == o.unit

/-- The operator of a core's context `c` whose turn at a unit it is: the first in admission order that has not finished with
it (R163). -/
def State.unitHead? (s : State) (core : Nat) (u : OpUnit) (c : Nat) : Option (Op × OpPart) :=
  s.sched.ops.findSome? (fun o => match o.part? core with
    | some p => if decide (o.lead % 4 = c) && o.uses core u && o.admittedOn core && !p.finished then some (o, p) else none
    | none => none)

/-- The combinations under way in a core's reduction unit. -/
def State.combsOn (s : State) (core : Nat) : List Combine :=
  s.engines.combines.filter (fun c => match s.op? c.owner.1 c.owner.2 with
    | some o => o.writer c.tile == core
    | none => false)

/-- The combination that a partial belongs to, or would begin. -/
def State.combOf (s : State) (p : Partial) : Option Combine :=
  s.engines.combines.find? (fun c => c.owner == p.owner && c.tile == p.tile && c.row == p.row)

/-- The oldest partial of an operator that a core's reduction unit can add: the next of the row that it is combining, or the
first of a row. -/
def State.partialDue? (s : State) (core : Nat) (o : Op) : Option Partial :=
  s.engines.partials.find? (fun p => p.owner == (o.queue, o.entry) && o.writer p.tile == core
    && p.rel == (match s.combOf p with | some c => c.next | none => 0)
    && (s.combsOn core).all (fun c => c.owner == p.owner && c.tile == p.tile && c.row == p.row))

/-- The operator can use the unit now. -/
def State.unitReady (s : State) (core : Nat) (o : Op) : Bool :=
  s.unblocked o &&
    (if isEngineOp o.code then (s.partialDue? core o).isSome
     else if o.code = cENCODE_ROW then o.executed
     else if o.code = cREDUCE then (s.combsOn core).isEmpty
     else true)

/-- The operator that a core's unit serves next: among the contexts with one ready, the first in round-robin order. Units
switch at the boundaries of R171: what one grant does is a row, a block, a burst, or a partial of the row being combined. -/
def State.unitTurn? (s : State) (core : Nat) (u : OpUnit) : Option (Op × OpPart) :=
  (s.turns (unitKey core u.num)).findSome? (fun c => (s.unitHead? core u c).filter (fun x => s.unitReady core x.1))

/-! ### The reduction unit (R131) -/

/-- The partial that a core's reduction unit adds next, with its operator. -/
def State.nextPartial? (s : State) (core : Nat) : Option (Partial × Op) :=
  match s.unitTurn? core .red with
  | some (o, _) => if isEngineOp o.code then (s.partialDue? core o).map (fun p => (p, o)) else none
  | none => none

/-- A partial is added to its combination; the last one completes the row, which is converted. -/
def State.combine (s : State) (p : Partial) (o : Op) : State :=
  let core := o.writer p.tile
  let rs := if (s.combOf p).isNone && o.hasAcc then [(dRowAddr o.acc p.row + 1024 * p.tile, 8 * o.lanes p.tile)] else []
  let base : State → Combine := fun s => (s.combOf p).getD
    { owner := p.owner, tile := p.tile, row := p.row, next := 0, scale := p.scale, lanes := s.combStart o p.tile p.row }
  let taken : State → List Combine → State := fun s cs =>
    { s with engines := { s.engines with partials := s.engines.partials.filter (· != p), combines := cs } }
  let rest := s.engines.combines.filter (fun x => !(x.owner == p.owner && x.tile == p.tile && x.row == p.row))
  if (base s).next + 1 = o.split then
    s.convert o (o.engOf p.tile 0) p.tile p.row (base s).scale (combAdd p.eng (base s).lanes p.accs)
      (fun s => (taken s rest).granted (unitKey core OpUnit.red.num) (o.lead % 4))
  else
    s.opAccess o core rs [] fun s =>
      let c := base s
      (taken s (rest ++ [{ c with next := c.next + 1, lanes := combAdd p.eng c.lanes p.accs }])).granted
        (unitKey core OpUnit.red.num) (o.lead % 4)

/-- REDUCTION_COMBINE. -/
def execReductionCombine (core : Fin 64) (s : State) : Host.Outcome State Fault Refusal :=
  match s.mainUp, s.nextPartial? core with
  | true, some (p, o) => done (s.combine p o)
  | _, _ => done s

/-! ### Flaws of the engines' arrays, and the scrub (R213, R215) -/

/-- Two flipped bits of a word that an engine's weight SRAM holds. -/
def State.flipWeight (s : State) (e word : Nat) : State :=
  let x := s.eng e
  let h := decide (4096 ≤ word) && !x.half0.shared
  let w := x.half h
  match w.owner with
  | some (q, i) => match s.op? q i with
    | some o =>
      let words := dRowBytes o.in1 / 8
      let at' := word - (if h then 4096 else 0)
      let b := weightBits o.in1
      (s.setEng e (x.setHalf h { w with
        rows := w.rows.mapIdx (fun j r => if j = at' / words then s.flipCodes b (at' % words * (64 / b)) r else r) })).draw 2
    | none => s
  | none => s

/-- Two flipped bits of a word that an engine's activation buffer holds. -/
def State.flipAct (s : State) (e word : Nat) : State :=
  let x := s.eng e
  let hit := fun (w : WeightHalf) => match w.owner with
    | some (q, i) => match s.op? q i with
      | some o =>
        let b := if dFmt o.in0 = fA4 then 4 else 8
        { w with buf := w.buf.map (fun r => if r.word ≤ word ∧ word < r.word + r.words
          then { r with codes := s.flipCodes b ((word - r.word) * (64 / b)) r.codes } else r) }
      | none => w
    | none => w
  (s.setEng e { x with half0 := hit x.half0, half1 := hit x.half1 }).draw 2

/-- The logical engine that an array of levels 1 and 2 serves. -/
def State.arrayEng? (s : State) (arr : SramArray) : Option Nat :=
  ((List.range 64).map (fun i => 64 * (8 * arr.die + arr.cluster) + i)).find? (fun e => s.engArray arr.level e == arr)

/-- A flaw of an array's own: two flipped bits corrupt what the array holds, in memory or in an engine. -/
def State.plantArray (s : State) (arr : SramArray) (word : Nat) (flaw : Flaw) : State :=
  let t := s.plantFlaw arr word flaw
  match flaw, s.arrayEng? arr with
  | .two, some e => if arr.level = 1 then t.flipWeight e word else if arr.level = 2 then t.flipAct e word else t
  | _, _ => t

/-- The scrub reads here next: it is enabled and awake, and stands at this place. -/
def State.scrubsAt (s : State) (p : SramArray × Nat) : Bool :=
  s.mainUp && s.power.state != .hold && s.bit Reg.MEM_SCRUB_CFG 15 && scrubPlace s.links.scrubPos == p

/-- SCRUB_READ (R215): the next 64 bytes of the pass are read in an idle bank; what is found follows R212 to R214. -/
def execScrubRead (arr : SramArray) (granule : Nat) (flips : List (Nat × Flaw)) (s : State) :
    Host.Outcome State Fault Refusal :=
  let p := (arr, granule)
  match s.scrubsAt p, s.links.scrub with
  | true, some (n + 1) =>
    let s1 := flips.foldl (fun s f => s.plantArray p.1 (p.2 * 8 + f.1 % 8) f.2) s
    let s2 := s1.eccReadSpans [(p.1, p.2 * 8, p.2 * 8 + 8)] true
    let s3 := { s2 with links := { s2.links with
      scrub := if n = 0 then none else some n, scrubPos := (s.links.scrubPos + 1) % scrubPass } }
    done (if n = 0 then s3.setFld Reg.MEM_SCRUB_CFG 31 24 (s2.fld Reg.MEM_SCRUB_CFG 31 24 + 1) else s3)
  | _, _ => done s

end Sys2Proof.Machine
end

