-- ==== Sys2Proof/Machine/Functions.lean ====
section
/-! DEFINITION. Correctly rounded functions of the vector unit (R175): each is bounded by an interval of rationals and
rounded when both ends round alike; the precision doubles until they do. -/

namespace Sys2Proof.Machine

/-- An interval in units of 2^-p. -/
structure Iv where
  lo : Int
  hi : Int
  deriving DecidableEq, Repr

/-- Floor and ceiling quotients by a positive number. -/
def floorDiv (a : Int) (d : Nat) : Int := a / (d : Int)
def ceilDiv (a : Int) (d : Nat) : Int := -((-a) / (d : Int))

namespace Iv

def ofQ (p : Nat) (q : Q) : Iv := ⟨floorDiv (q.num * ((2 ^ p : Nat) : Int)) q.den, ceilDiv (q.num * ((2 ^ p : Nat) : Int)) q.den⟩
def add (a b : Iv) : Iv := ⟨a.lo + b.lo, a.hi + b.hi⟩
def neg (a : Iv) : Iv := ⟨-a.hi, -a.lo⟩
def sub (a b : Iv) : Iv := a.add b.neg
def one (p : Nat) : Iv := ⟨((2 ^ p : Nat) : Int), ((2 ^ p : Nat) : Int)⟩
def mul (p : Nat) (a b : Iv) : Iv :=
  let c := [a.lo * b.lo, a.lo * b.hi, a.hi * b.lo, a.hi * b.hi]
  ⟨floorDiv (c.foldl min (a.lo * b.lo)) (2 ^ p), ceilDiv (c.foldl max (a.lo * b.lo)) (2 ^ p)⟩
def divNat (a : Iv) (d : Nat) : Iv := ⟨floorDiv a.lo d, ceilDiv a.hi d⟩
/-- Quotient of a non-negative interval by a positive one. -/
def divPos (p : Nat) (a b : Iv) : Iv :=
  ⟨floorDiv (a.lo * ((2 ^ p : Nat) : Int)) b.hi.toNat, ceilDiv (a.hi * ((2 ^ p : Nat) : Int)) b.lo.toNat⟩
/-- Widen by `e` units. -/
def widen (a : Iv) (e : Int) : Iv := ⟨a.lo - e, a.hi + e⟩
def sq (p : Nat) : Nat → Iv → Iv
  | 0, a => a
  | n + 1, a => sq p n (mul p a a)
/-- The ends as rationals. -/
def ends (p : Nat) (a : Iv) : Q × Q := (⟨a.lo, 2 ^ p⟩, ⟨a.hi, 2 ^ p⟩)

end Iv

/-- Partial sum of y^i/i! from term `i` on, `fuel` terms; `t` is the term y^(i-1)/(i-1)!. -/
def expSum (p : Nat) (y : Iv) : Nat → Nat → Iv → Iv → Iv
  | 0, _, _, acc => acc
  | fuel + 1, i, t, acc =>
    let t' := (Iv.mul p t y).divNat i
    expSum p y fuel (i + 1) t' (acc.add t')

/-- An interval for e^x, |x| at most 256: the argument is halved ten times, the series summed, the result squared. -/
def expIv (p : Nat) (x : Q) : Iv :=
  let y := Iv.ofQ p (x.scale2 (-10))
  let s := (expSum p y (p / 2 + 8) 1 (Iv.one p) (Iv.one p)).widen 4
  Iv.sq p 10 s

/-- The sum of (−1)^n x^(2n+1)/(2^n n! (2n+1)) over n; `t` is the signed term without its last divisor. -/
def erfSum (p : Nat) (x2 : Iv) : Nat → Nat → Iv → Iv → Iv
  | 0, _, _, acc => acc
  | fuel + 1, n, t, acc =>
    let t' := ((Iv.mul p t x2).divNat (2 * n)).neg
    erfSum p x2 fuel (n + 1) t' (acc.add (t'.divNat (2 * n + 1)))

/-- Integer square root by Newton's method from above. -/
def isqrtGo (n : Nat) : Nat → Nat → Nat
  | 0, x => x
  | fuel + 1, x =>
    let y := (x + n / x) / 2
    if y < x then isqrtGo n fuel y else x

def isqrt (n : Nat) : Nat := if n = 0 then 0 else isqrtGo n (Nat.log2 n + 8) (2 ^ (Nat.log2 n / 2 + 1))

/-- arctan(1/k) in units of 2^-p, by its alternating series. -/
def atanInv (p k : Nat) : Nat → Nat → Nat → Int → Int → Int
  | 0, _, _, _, acc => acc
  | fuel + 1, n, t, sign, acc => atanInv p k fuel (n + 1) (t / (k * k)) (-sign) (acc + sign * ((t / (2 * n + 1) : Nat) : Int))

/-- An interval for π (Machin's formula). -/
def piIv (p : Nat) : Iv :=
  let a := fun k => atanInv p k (p + 8) 0 (2 ^ p / k) 1 0
  let v := 16 * a 5 - 4 * a 239
  ⟨v - 64 * (p + 16), v + 64 * (p + 16)⟩

/-- An interval for √(2/π). -/
def sqrt2pi (p : Nat) : Iv :=
  let pi := piIv p
  let lo := 2 * 2 ^ (3 * p) / pi.hi.toNat
  let hi := 2 * 2 ^ (3 * p) / pi.lo.toNat + 1
  ⟨isqrt lo, isqrt hi + 1⟩

/-- An interval for the normal distribution function Φ(x), |x| at most 20. -/
def phiIv (p : Nat) (x : Q) : Iv :=
  let xi := Iv.ofQ p x
  let s := (erfSum p (Iv.mul p xi xi) (p + 2048) 1 xi xi).widen 4
  let r := Iv.mul p s (sqrt2pi p)
  (r.add (Iv.one p)).divNat 2

/-- The unary functions of R175 whose values are irrational. -/
inductive UnFn where
  | exp | sigmoid | tanh | gelu | silu
  deriving DecidableEq, Repr

/-- The largest magnitude for which the interval is used; beyond it the value has saturated in every format. -/
def UnFn.range : UnFn → Nat
  | .exp => 256
  | .sigmoid => 256
  | .tanh => 100
  | .gelu => 20
  | .silu => 256

/-- An interval for the function at x within its range. -/
def UnFn.iv (f : UnFn) (p : Nat) (x : Q) : Iv :=
  match f with
  | .exp => expIv p x
  | .sigmoid =>
    -- e^-|x| is at most 1
    let e := expIv p x.abs.neg
    let s := Iv.divPos p (Iv.one p) ((Iv.one p).add e)
    if x.num < 0 then (Iv.one p).sub s else s
  | .tanh =>
    let e := expIv p (x.abs.neg.scale2 1)
    let t := Iv.divPos p ((Iv.one p).sub e) ((Iv.one p).add e)
    if x.num < 0 then t.neg else t
  | .gelu => Iv.mul p (Iv.ofQ p x) (phiIv p x)
  | .silu =>
    let e := expIv p x.abs.neg
    let s := if x.num < 0 then Iv.divPos p e ((Iv.one p).add e) else Iv.divPos p (Iv.one p) ((Iv.one p).add e)
    Iv.mul p (Iv.ofQ p x) s

/-- A value beyond the range, to within less than any rounding distance and on the exact value's side of it: GELU and SILU of
a large x lie just below x. -/
def UnFn.far (f : UnFn) (x : Q) : Q :=
  let neg := decide (x.num < 0)
  let tiny : Q := ⟨1, 2 ^ 400⟩
  match f with
  | .exp => if neg then tiny else ⟨((2 ^ 300 : Nat) : Int), 1⟩
  | .sigmoid => if neg then tiny else (Q.ofInt 1).sub tiny
  | .tanh => if neg then (Q.ofInt (-1)).add tiny else (Q.ofInt 1).sub tiny
  | .gelu => if neg then tiny.neg else x.sub tiny
  | .silu => if neg then tiny.neg else x.sub tiny

/-- Round the function's value: try ever more precision until both ends of the interval round alike. -/
def UnFn.round (f : UnFn) (fmt : Fp) (x : Q) : Nat → Nat → Option Nat
  | 0, _ => none
  | fuel + 1, p =>
    let e := (f.iv p x).ends p
    if fmt.rnf e.1 = fmt.rnf e.2 ∧ (decide (e.1.num < 0) == decide (e.2.num < 0)) then some (fmt.rnf e.1)
    else f.round fmt x fuel (2 * p)

/-- rnf_F of the function at a finite x; a zero argument is exact. -/
def UnFn.at (f : UnFn) (fmt : Fp) (neg : Bool) (x : Q) : Option Nat :=
  if x.isZero then
    match f with
    | .exp => some (fmt.rnf (Q.ofInt 1))
    | .sigmoid => some (fmt.rnf ⟨1, 2⟩)
    | _ => some (fmt.rnf ⟨0, 1⟩ neg)
  else if (Q.ofInt f.range).lt x.abs then some (fmt.rnf (f.far x))
  else f.round fmt x 4 256

/-- A positive number's square root as a rational that rounds as the root does: exact, or between two multiples of
2^-k that no format's rounding boundary separates. -/
def sqrtQ (y : Q) : Q :=
  let k := 200
  let n := y.num.toNat * 2 ^ (2 * k)
  let s := isqrt (n / y.den)
  if s * s * y.den = n then ⟨s, 2 ^ k⟩ else ⟨2 * s + 1, 2 ^ (k + 1)⟩

end Sys2Proof.Machine
end

