-- ==== Sys2Proof/Machine/Vector.lean ====
section
/-! DEFINITION. What the vector unit, the row-range unit, the reduction unit's REDUCE and the load and store ports compute
(R175 to R177, R88, R98, R131, R561, R563). -/

namespace Sys2Proof.Machine

/-! ### Exact arithmetic on what codes stand for

Infinities and NaN, and the signs of exact zeros, follow IEEE 754-2019, which R78 names (log entry 16). -/

namespace FpVal

def neg : FpVal → FpVal
  | .nan => .nan
  | .inf s => .inf (!s)
  | .fin s v => .fin (!s) v.neg

def abs : FpVal → FpVal
  | .nan => .nan
  | .inf _ => .inf false
  | .fin _ v => .fin false v.abs

/-- A finite exact value with the sign of zero given. -/
def ofQ (v : Q) (zeroNeg : Bool := false) : FpVal := .fin (if v.isZero then zeroNeg else decide (v.num < 0)) v

def add : FpVal → FpVal → FpVal
  | .nan, _ => .nan
  | _, .nan => .nan
  | .inf a, .inf b => if a = b then .inf a else .nan
  | .inf a, _ => .inf a
  | _, .inf b => .inf b
  | .fin a x, .fin b y => ofQ (x.add y) (a && b && x.isZero && y.isZero)

def mul : FpVal → FpVal → FpVal
  | .nan, _ => .nan
  | _, .nan => .nan
  | .inf a, .inf b => .inf (a != b)
  | .inf a, .fin b y => if y.isZero then .nan else .inf (a != b)
  | .fin a x, .inf b => if x.isZero then .nan else .inf (a != b)
  | .fin a x, .fin b y => .fin (a != b) (x.mul y)

def div : FpVal → FpVal → FpVal
  | .nan, _ => .nan
  | _, .nan => .nan
  | .inf _, .inf _ => .nan
  | .inf a, .fin b _ => .inf (a != b)
  | .fin a _, .inf b => .fin (a != b) ⟨0, 1⟩
  | .fin a x, .fin b y => if y.isZero then (if x.isZero then .nan else .inf (a != b)) else .fin (a != b) (x.div y)

def sqrt : FpVal → FpVal
  | .nan => .nan
  | .inf s => if s then .nan else .inf false
  | .fin s v => if v.isZero then .fin s v else if s then .nan else .fin false (sqrtQ v)

/-- Less than, for values that are not NaN. -/
def lt : FpVal → FpVal → Bool
  | .inf a, .inf b => a && !b
  | .inf a, .fin _ _ => a
  | .fin _ _, .inf b => !b
  | .fin _ x, .fin _ y => x.lt y
  | _, _ => false

end FpVal

/-- The code of a value in a format: one rnf_F (R78, R79). -/
def Fp.code (f : Fp) : FpVal → Nat
  | .nan => f.nanCode
  | .inf s => f.infCode + b2n s * 2 ^ f.signBit
  | .fin s v => f.rnf v s

/-- Bits of a format. -/
def Fp.width (f : Fp) : Nat := 8 * f.bytes

/-- A result that the manual does not state (log entry 13). -/
def Fp.unstated (f : Fp) (op a b c : Nat) : Nat := Config.vec op a b c % 2 ^ f.width

/-- An operand's code with its format. -/
structure Opd where
  fmt : Fp
  code : Nat
  deriving DecidableEq, Repr

def Opd.val (x : Opd) : FpVal := x.fmt.read x.code

/-- The minimum or maximum of two operands (`big` for the maximum); NaN and zeros of both signs are not stated. -/
def minMax (big : Bool) (f : Fp) (op : Nat) (a b : Opd) : Nat :=
  match a.val, b.val with
  | .nan, _ => f.unstated op a.code b.code 0
  | _, .nan => f.unstated op a.code b.code 0
  | x, y =>
    if x.lt y then f.code (if big then y else x)
    else if y.lt x then f.code (if big then x else y)
    else if x = y then f.code x
    else match x, y with
      | .fin sa _, .fin sb _ => if sa = sb then f.code x else f.unstated op a.code b.code 0
      | _, _ => f.code x

/-- Unary functions (R175); infinities and poles have no exact function value (log entry 13). -/
def unary (f : Fp) (op : Nat) (a : Opd) : Nat :=
  match a.val with
  | .nan => f.nanCode
  | .inf _ => f.unstated op a.code 0 0
  | .fin s v =>
    let irr := fun (g : UnFn) => (g.at f s v).getD (f.unstated op a.code 0 0)
    if op = cEXP then irr .exp
    else if op = cSIGMOID then irr .sigmoid
    else if op = cTANH then irr .tanh
    else if op = cGELU then irr .gelu
    else if op = cSILU then irr .silu
    else if op = cSQRT then f.code (FpVal.sqrt (.fin s v))
    else if v.isZero then f.unstated op a.code 0 0
    else if op = cRECIP then f.code (.fin s ((Q.ofInt 1).div v))
    else if s then f.nanCode
    else f.code (.fin false (sqrtQ ((Q.ofInt 1).div v)))

/-- CLAMP: below the lower bound the bound, above the upper bound the bound. -/
def clampElem (f : Fp) (imm : Nat) (a : Opd) : Nat :=
  let lo := Fp.fp32.read (fld imm 31 0)
  let hi := Fp.fp32.read (fld imm 63 32)
  match a.val, lo, hi with
  | .nan, _, _ => f.unstated cCLAMP a.code imm 0
  | _, .nan, _ => f.unstated cCLAMP a.code imm 0
  | _, _, .nan => f.unstated cCLAMP a.code imm 0
  | x, l, h => if h.lt l then f.unstated cCLAMP a.code imm 0 else if x.lt l then f.code l else if h.lt x then f.code h else f.code x

/-- One element of an elementwise operator: `f` the destination format, `imm` imm0. -/
def elemOp (op : Nat) (f : Fp) (imm : Nat) (a b c : Opd) : Nat :=
  if op = cADD then f.code (a.val.add b.val)
  else if op = cSUB then f.code (a.val.add b.val.neg)
  else if op = cMUL ∨ op = cRESCALE then f.code (a.val.mul b.val)
  else if op = cFMA then f.code ((a.val.mul b.val).add c.val)
  else if op = cMIN then minMax false f op a b
  else if op = cMAX then minMax true f op a b
  else if op = cABS then f.code a.val.abs
  else if op = cNEG then f.code a.val.neg
  else if op = cCMP then f.unstated op (fld imm 2 0) a.code b.code
  else if op = cSELECT then (if Config.vec op a.code 0 0 % 2 = 1 then f.code b.val else f.code c.val)
  else if op = cRELU then (match a.val with
    | .nan => f.unstated op a.code 0 0
    | x => if x.lt (.fin false ⟨0, 1⟩) then f.code (.fin false ⟨0, 1⟩) else f.code x)
  else if op = cCLAMP then clampElem f imm a
  else if op = cCONVERT then f.code a.val
  else unary f op a

/-! ### Row sums and row operators (R176, R177): values are FP32 codes between roundings -/

def v32 (c : Nat) : FpVal := Fp.fp32.read c
def r32 (v : FpVal) : Nat := Fp.fp32.code v
def add32 (a b : Nat) : Nat := r32 ((v32 a).add (v32 b))

/-- A lane's partial: elements l, l + 64, ... in order. -/
def lanePartial (xs : List Nat) (l : Nat) : Nat :=
  (List.range ((xs.length + 63 - l) / 64)).foldl (fun p i => add32 p (xs.getD (l + 64 * i) 0)) 0

/-- One level of the pairwise tree. -/
def pairUp : List Nat → List Nat
  | a :: b :: t => add32 a b :: pairUp t
  | t => t

/-- The row sum of FP32 codes (R176). -/
def rowSum (xs : List Nat) : Nat :=
  let p := (List.range 64).map (lanePartial xs)
  (pairUp (pairUp (pairUp (pairUp (pairUp (pairUp p)))))).getD 0 0

/-- The row sum of squares: each square is rounded to FP32 first. -/
def rowSumSq (xs : List FpVal) : Nat := rowSum (xs.map (fun x => r32 (x.mul x)))

/-- The maximum or minimum of a row, as an FP32 code. -/
def rowMinMax (big : Bool) (op : Nat) (xs : List Opd) : Nat :=
  match xs with
  | [] => 0
  | x :: t => t.foldl (fun m y => minMax big .fp32 op ⟨.fp32, m⟩ y) (r32 x.val)

def vNat (n : Nat) : FpVal := .fin false (Q.ofInt n)

/-- Softmax. -/
def softmax (f : Fp) (xs : List Opd) : List Nat :=
  let m := rowMinMax true cSOFTMAX xs
  let e := xs.map (fun x => unary .fp32 cEXP ⟨.fp32, r32 (x.val.add (v32 m).neg)⟩)
  let s := rowSum e
  e.map (fun x => f.code ((v32 x).div (v32 s)))

/-- r of the normalisations from the mean square. -/
def rstd (v eps : Nat) : Nat := r32 ((vNat 1).div (v32 (r32 ((v32 v).add (v32 eps)))).sqrt)

/-- Layer normalisation. -/
def layernorm (f : Fp) (eps : Nat) (xs g b : List Opd) : List Nat :=
  let n := vNat xs.length
  let mu := r32 ((v32 (rowSum (xs.map (fun x => r32 x.val)))).div n)
  let c := xs.map (fun x => r32 (x.val.add (v32 mu).neg))
  let v := r32 ((v32 (rowSumSq (c.map v32))).div n)
  let r := rstd v eps
  c.mapIdx (fun i x => f.code ((((v32 x).mul (v32 r)).mul (g.getD i ⟨.fp32, 0⟩).val).add (b.getD i ⟨.fp32, 0⟩).val))

/-- RMS normalisation. -/
def rmsnorm (f : Fp) (eps : Nat) (xs g : List Opd) : List Nat :=
  let v := r32 ((v32 (rowSumSq (xs.map Opd.val))).div (vNat xs.length))
  let r := rstd v eps
  xs.mapIdx (fun i x => f.code ((x.val.mul (v32 r)).mul (g.getD i ⟨.fp32, 0⟩).val))

/-! ### Results of rows -/

/-- The elements of row `k` of a float tensor. -/
def State.opdRow (s : State) (d k : Nat) : List Opd := (s.rowFloats d k).map (fun c => ⟨dFp d, c⟩)

/-- The bytes of a row of float codes. -/
def floatBytes (f : Fp) (cs : List Nat) : List Byte := cs.flatMap (toBytes f.bytes)

def noOpd : Opd := ⟨.fp32, 0⟩

/-- Row `k` of an operator whose rows stand alone: its result codes. -/
def State.rowResult (s : State) (o : Op) (k : Nat) : List Nat :=
  let f := dFp o.out
  let a := s.opdRow o.in0 k
  let imm := eImm0 o.bits
  if o.code = cROW_MAX then [f.code (v32 (rowMinMax true cROW_MAX a))]
  else if o.code = cROW_MIN then [f.code (v32 (rowMinMax false cROW_MIN a))]
  else if o.code = cROW_SUM then [f.code (v32 (rowSum (a.map (fun x => r32 x.val))))]
  else if o.code = cROW_SUMSQ then [f.code (v32 (rowSumSq (a.map Opd.val)))]
  else if o.code = cSOFTMAX then softmax f a
  else if o.code = cLAYERNORM then layernorm f (eEps o.bits) a (s.opdRow o.in1 0) (s.opdRow o.in2 0)
  else if o.code = cRMSNORM then rmsnorm f (eEps o.bits) a (s.opdRow o.in1 0)
  else
    let b := if o.code = cRESCALE then s.opdRow o.in1 0 else if (opNames o.code).getD 1 false then s.opdRow o.in1 k else []
    let c := if (opNames o.code).getD 2 false then s.opdRow o.in2 k else []
    a.mapIdx (fun i x => elemOp o.code f imm x (b.getD i noOpd) (c.getD i noOpd))

/-- POOL_MAX: the elements of a window that lie inside the input; padding takes no part. -/
def State.poolElem (s : State) (o : Op) (r ch : Nat) : Nat :=
  let w := (List.range (eKh o.bits * eKw o.bits)).filterMap (fun i =>
    (o.pixel r (i * dDim0 o.in0 + ch)).map (fun p => (⟨dFp o.in0, (s.rowFloats o.in0 p.1).getD p.2 0⟩ : Opd)))
  if w.isEmpty then (dFp o.out).unstated cPOOL_MAX r ch 0 else (dFp o.out).code (v32 (rowMinMax true cPOOL_MAX w))

/-- Element `i` of row `k` of REDUCE: the partials lie along in0's highest dimension. A format other than RAW40 needs a
row scale that the entry does not name, so its value is not stated (log entries 13, 17). -/
def redParts (d : Nat) : Nat :=
  match dRank d with
  | 2 => dDim1 d
  | 3 => dDim2 d
  | 4 => dDim3 d
  | _ => 1

/-- The sum of the partials of element `i` of row `k`, with its saturation flag. -/
def State.reduceSum (s : State) (o : Op) (k i : Nat) : Acc :=
  (List.range (redParts o.in0)).foldl (fun (a : Acc) j =>
    let p := rawAcc (s.readNat (dRowAddr o.in0 (k + dRows o.out * j) + 8 * i) 8)
    let t := satAcc a p.1
    (t.1, t.2 || p.2)) (0, false)

def State.reduceElem (s : State) (o : Op) (k i : Nat) : Nat :=
  let sum := s.reduceSum o k i
  if dFmt o.out = fRAW40 then accRaw sum else Config.vec cREDUCE (accRaw sum) k i

/-- ENCODE_WEIGHT: the code of output channel `c`, input channel `k` (R88, R96), whether it clips, whether it was NaN or
infinite. in0 holds one row per output channel (log entry 17). The vector unit makes no check of its own: a codebook that is
not strictly increasing is used as it stands, since R83 ties the check to an engine's capture, and a negative channel scale
divides like any other, since R87 forbids it and states no consequence (both DESIGN CHOICE, log entry 13). -/
def State.encodeWeightAt (s : State) (o : Op) (c k : Nat) : Nat × Bool × Bool :=
  let x := encInput (dFp o.in0) ((s.rowFloats o.in0 c).getD k 0)
  let sc := Fp.fp32.read (s.readNat (dAux1 o.out + 4 * c) 4)
  match sc with
  | .fin _ v =>
    if v.isZero then (Config.vec cENCODE_WEIGHT c k 0 % 16, false, x.2)
    else let r := encWeight (codebookOf (s.readNat (dAux0 o.out) 32)) (x.1.div v); (r.1, r.2, x.2)
  | _ => (Config.vec cENCODE_WEIGHT c k 0 % 16, false, x.2)

/-- The bytes of result row `k` of an operator. -/
def State.rowBytesOf (s : State) (o : Op) (k : Nat) : List Byte :=
  let d := o.out
  if o.code = cCOPY then s.readBytes (dRowAddr o.in0 k) (dRowBytes d)
  else if o.code = cREDUCE then (List.range (dDim0 d)).flatMap (fun i => toBytes (runBytes (dFmt d) 1) (s.reduceElem o k i))
  else if o.code = cENCODE_WEIGHT then
    packNibbles ((List.range 128).map (fun l =>
      let c := k / dDim2 d * 128 + l
      if c < dDim1 d then (s.encodeWeightAt o c (k % dDim2 d)).1 else 0))
  else if o.code = cPOOL_MAX then floatBytes (dFp d) ((List.range (dDim0 d)).map (s.poolElem o k))
  else floatBytes (dFp d) (s.rowResult o k)

/-! ### Steps: a row of a row operator, a burst of COPY, else a block of 64 elements (R171) -/

/-- The operator needs a whole row before it writes one. -/
def rowWise (code : Nat) : Bool :=
  [cENCODE_ROW, cROW_MAX, cROW_MIN, cROW_SUM, cROW_SUMSQ, cSOFTMAX, cLAYERNORM, cRMSNORM, cREDUCE].contains code

/-- Steps that a row takes. -/
def Op.blocks (o : Op) : Nat :=
  if rowWise o.code then 1 else if o.code = cCOPY then cdiv (dRowBytes o.out) 4096 else cdiv (dDim0 o.out) 64

/-- First element and number of elements of a row that block `b` works on; a row operator's block is its row. -/
def Op.blockElems (o : Op) (b : Nat) : Nat × Nat :=
  if rowWise o.code then (0, dDim0 o.in0) else (64 * b, min 64 (dDim0 o.out - 64 * b))

/-- Offset and number of the bytes of a result row that block `b` writes. -/
def Op.blockOut (o : Op) (b : Nat) : Nat × Nat :=
  if rowWise o.code then (0, dRowBytes o.out)
  else if o.code = cCOPY then (4096 * b, min 4096 (dRowBytes o.out - 4096 * b))
  else (runBytes (dFmt o.out) (64 * b), runBytes (dFmt o.out) (min 64 (dDim0 o.out - 64 * b)))

/-- A run of elements of row `k` of a tensor. -/
def elemRange (d k : Nat) (e : Nat × Nat) : Nat × Nat := (dRowAddr d k + runBytes (dFmt d) e.1, runBytes (dFmt d) e.2)

/-- The block carries row `k`'s scale entry (R563): the last of its row, and of a broadcast source that of row 0. -/
def Op.movesEntry (o : Op) (k b : Nat) : Bool :=
  o.code == cCOPY && isCodes o.out && decide (o.blocks ≤ b + 1) && (dSsrc o.out != 2 || k == 0)

/-- The ranges that block `b` of row `k` reads. -/
def Op.blockReads (o : Op) (k b : Nat) : List (Nat × Nat) :=
  let e := o.blockElems b
  if o.code = cCOPY then
    (dRowAddr o.in0 k + (o.blockOut b).1, (o.blockOut b).2) :: (if o.movesEntry k b then [(dScaleAddr o.in0 k, 8)] else [])
  else if o.code = cREDUCE then
    (List.range (redParts o.in0)).map (fun j => (dRowAddr o.in0 (k + dRows o.out * j), dRowBytes o.in0))
  else if o.code = cENCODE_WEIGHT then
    let c := k / dDim2 o.out * 128 + e.1
    let n := min e.2 (dDim1 o.out - c)
    (dAux0 o.out, 32) :: (if n = 0 then [] else [(dAux1 o.out + 4 * c, 4 * n)])
      ++ (List.range n).map (fun i => elemRange o.in0 (c + i) (k % dDim2 o.out, 1))
  else if o.code = cPOOL_MAX then
    (List.range (eKh o.bits * eKw o.bits)).filterMap (fun i =>
      (o.pixel k (i * dDim0 o.in0)).map (fun p => elemRange o.in0 p.1 e))
  else
    let whole := o.code == cLAYERNORM || o.code == cRMSNORM || o.code == cRESCALE
    elemRange o.in0 k e :: (if (opNames o.code).getD 1 false then [elemRange o.in1 (if whole then 0 else k) e] else [])
      ++ (if (opNames o.code).getD 2 false then [elemRange o.in2 (if whole then 0 else k) e] else [])

/-- What block `b` of row `k` writes: the result bytes, and the scale entry that goes with them. -/
def State.blockWrites (s : State) (o : Op) (k b : Nat) : List (Nat × List Byte) :=
  let w := o.blockOut b
  (dRowAddr o.out k + w.1, ((s.rowBytesOf o k).drop w.1).take w.2)
    :: (if o.movesEntry k b then [(dScaleAddr o.out k, s.readBytes (dScaleAddr o.in0 k) 8)] else [])

/-- The statistics that a block of ENCODE_WEIGHT adds (R90, R104). -/
def State.blockStats (s : State) (o : Op) (k b : Nat) : State :=
  if o.code = cENCODE_WEIGHT && eStats o.bits then
    let c := k / dDim2 o.out * 128 + 64 * b
    let es := (List.range (min 64 (dDim1 o.out - c))).map (fun i => s.encodeWeightAt o (c + i) (k % dDim2 o.out))
    s.statAdd (eStream o.bits) 0 0 (es.filter (·.2.1)).length 0 (es.filter (·.2.2)).length
  else s

/-- Elements of row `k` of a REDUCE that converts sums whose saturation flag is set (R130); no partial of a REDUCE belongs to
an engine of the operator, so relative engine 0 is named (log entry 17). -/
def State.redFlags (s : State) (o : Op) (k : Nat) : Nat :=
  if o.code = cREDUCE ∧ dFmt o.out ≠ fRAW40 then ((List.range (dDim0 o.out)).filter (fun i => (s.reduceSum o k i).2)).length else 0

/-- Count the flagged sums of a row of REDUCE. -/
def State.redRecord (s : State) (o : Op) (n : Nat) : State := (List.range n).foldl (fun s _ => s.satRecord o o.first) s

/-- A block has been written: the part's next block, or its next row. -/
def OpPart.advance (p : OpPart) (o : Op) : OpPart :=
  if p.block + 1 < o.blocks then { p with block := p.block + 1 }
  else { p with block := 0, rows := p.rows + 1, finished := decide (dRows o.out ≤ o.nextRow p + o.cores) }

/-- The part of an operator on a core after one of its blocks or rows. -/
def State.advancePart (s : State) (o : Op) (p : OpPart) (sat : Bool) : State :=
  match s.op? o.queue o.entry with
  | some x =>
    let p1 := p.advance o
    (s.setOp { x.setPart p1 with executed := true, satSeen := x.satSeen || sat }).showPart p1 p1.rows
  | none => s

/-- One step of an operator of the vector unit, REDUCE or COPY on a core: reads, writes, hash, progress. -/
def State.opStep (s : State) (o : Op) (p : OpPart) : State :=
  let k := o.nextRow p
  s.opAccess o p.core (o.blockReads k p.block)
    ((s.blockWrites o k p.block).map (fun w => (w.1, w.2.length))) fun s =>
    let ws := s.blockWrites o k p.block
    s.opWrite o (ws.map (fun w => (w.1, w.2.length))) fun s =>
      let n := s.redFlags o k
      let s1 := (s.blockStats o k p.block).redRecord o n
      let s2 := ws.foldl (fun s w => (s.store w.1 w.2).blur o w.1 w.2.length) s1
      let w := ws.headD (0, [])
      (((s2.hashed o k p.block o.blocks w.1 w.2).advancePart o p (decide (n ≠ 0))).granted
        (unitKey p.core o.unit.num) (o.lead % 4))

/-- The operator with a code, led by context `k`, that a shared unit of some core serves next, with its part there. -/
def State.dueOp? (s : State) (k code : Nat) : Option (Op × OpPart) :=
  s.sched.ops.findSome? (fun o =>
    if o.lead = k ∧ o.code = code then
      o.parts.findSome? (fun p => (s.unitTurn? p.core o.unit).filter
        (fun x => x.1.queue == o.queue && x.1.entry == o.entry))
    else none)

/-! ### ENCODE_ROW on the row-range units (R98, R561, R562) -/

/-- The fault of row `r`'s static entry, 0 when there is none. -/
def State.encFault (s : State) (o : Op) (r : Nat) : Nat :=
  if dSsrc o.out = 0 then 0 else entryFault o.out (s.readNat (dScaleAddr o.out r) 8) r

/-- The encoding of row `r`. -/
def State.encodeVals (s : State) (o : Op) (r : Nat) : Encoded :=
  let ent := s.readNat (dScaleAddr o.out r) 8
  let static := if dSsrc o.out = 0 then none else some (entScale ent, entZp ent)
  Machine.encodeVals ((s.rowFloats o.in0 r).map (encInput (dFp o.in0))) static (qmaxOf (dFmt o.out)) (s.fexp o.bits)

/-- Encode row `r`: codes, the entry of a dynamic row, statistics, hash. -/
def State.encodeRow (s : State) (o : Op) (r : Nat) : State :=
  let e := s.encodeVals o r
  let row := packCodes (dFmt o.out) e.codes
  let a := dRowAddr o.out r
  let s1 := (s.store a row).blur o a row.length
  let s2 := if dSsrc o.out = 0 then (s1.store (dScaleAddr o.out r) (toBytes 8 (e.entry r))).blur o (dScaleAddr o.out r) 8 else s1
  (s2.statRow o.bits e).hashed o r 0 1 a row

/-- Row `r` has been encoded on its core. -/
def Op.rowEncoded (o : Op) (r : Nat) : Bool :=
  match o.part? (o.first / 16 + r % o.cores) with
  | some p => decide (r / o.cores < p.rows)
  | none => false

/-- Encode one row on a core. On a static entry's fault the rows below the lowest faulty one are completed (R137). -/
def State.encodeStep (s : State) (o : Op) (p : OpPart) : State :=
  let r := o.nextRow p
  let ent := [(dScaleAddr o.out r, 8)]
  let reads := (dRowAddr o.in0 r, dRowBytes o.in0) :: (if dSsrc o.out = 0 then [] else ent)
  let writes := (dRowAddr o.out r, dRowBytes o.out) :: (if dSsrc o.out = 0 then ent else [])
  s.opAccess o p.core reads writes fun s =>
    if s.encFault o r ≠ 0 then
      let bad := ((List.range r).find? (fun k => !o.rowEncoded k && s.encFault o k != 0)).getD r
      let s1 := (List.range bad).foldl (fun s k => if o.rowEncoded k then s else s.encodeRow o k) s
      let eng := o.first + 16 * (bad % o.cores)
      let s2 := s1.engRecord o (s1.encFault o bad) eng (some bad) true
      (if bad = r then s2 else s2.setBit Reg.ENG_FAULT_STATUS 1 true).faultQueue o.queue 1 0 none o.entry
        (fun q _ k => decide (q.entry = o.entry) && decide (k < bad))
    else
      s.opWrite o writes fun s =>
        ((s.encodeRow o r).advancePart o p false).granted (unitKey p.core OpUnit.rr.num) (o.lead % 4)

/-- ROW_ENCODE: the row-range unit of a core encodes the next row of the operator whose turn it is (R171, R173). -/
def execRowEncode (core : Fin 64) (s : State) : Host.Outcome State Fault Refusal :=
  match s.mainUp, s.unitTurn? core .rr with
  | true, some (o, p) => done (s.encodeStep o p)
  | _, _ => done s

end Sys2Proof.Machine
end

