-- ==== Sys2Proof/Machine/Contract.lean ====
section
/-! DEFINITION. The operator contract: the checks of R289 that an operator entry meets at admission. -/

namespace Sys2Proof.Machine

/-- An operand with its slot number. -/
structure Slot where
  idx : Nat
  desc : Nat
  deriving DecidableEq, Repr

/-- The operand descriptors of an entry: in0, in1, in2, out, acc; 0 where the slot is not valid. -/
structure Opds where
  in0 : Nat := 0
  in1 : Nat := 0
  in2 : Nat := 0
  out : Nat := 0
  acc : Nat := 0
  deriving DecidableEq, Repr

/-! ### Code 0x06: operand slots -/

/-- The slot is named by the operator's row of R273, or is the optional acc of an engine operator. -/
def slotNamed (code i : Nat) : Bool := (opNames code).getD i false
def slotOptional (code i : Nat) : Bool := isEngineOp code && i == 4

/-- A slot fails code 0x06; `count` is the committed TDT count. -/
def slotBad (code e count i : Nat) : Bool :=
  if eSlotValid e i then !(slotNamed code i || slotOptional code i) || decide (count ≤ eIdx e i)
  else slotNamed code i

/-! ### Code 0x07: descriptors -/

/-- Tensors whose rows are encoded or read as codes take an extent of 0 as a row length (code 0x09). -/
def rowLenSlot (code i : Nat) : Bool :=
  (isEngineOp code && i == 0) || (decide (code = cENCODE_ROW) && (i == 0 || i == 3))

/-- Reserved values of rank, dim0 and dim3, and extents beyond the rank that are not 1. -/
def extentReserved (d : Nat) (rowLen : Bool) : Bool :=
  decide (dRank d = 0) || decide (5 ≤ dRank d) || (!rowLen && decide (dDim0 d = 0)) || decide (dDim3 d = 0)
    || (decide (dRank d < 2) && decide (dDim1 d ≠ 1)) || (decide (dRank d < 3) && decide (dDim2 d ≠ 1))
    || (decide (dRank d < 4) && decide (dDim3 d ≠ 1))

/-- A reserved value in a field of a descriptor (R274). Any dim0, rank or dim3 of a W4 or W8 tensor that R276 does not allow
is code 0x08. -/
def descReserved (d : Nat) (rowLen : Bool) : Bool :=
  d.testBit 71 || decide (fld d 79 74 ≠ 0) || decide (fld d 511 400 ≠ 0) || decide (8 ≤ dFmt d)
    || decide (dDim1 d = 0) || decide (dDim2 d = 0) || (!isWeights d && extentReserved d rowLen)
    || (if isCodes d then decide (dSsrc d = 3) else decide (dSsrc d ≠ 3))
    || (decide (dAux0 d ≠ 0) && !(isCodes d || decide (dFmt d = fW4)))
    || (decide (dAux1 d ≠ 0) && !isWeights d)

/-- A format or scale source that the operand's role permits, agreeing with the entry's mode. -/
def rolePermits (code mode i d : Nat) : Bool :=
  if isEngineOp code then
    match i with
    | 0 => (match mode with
        | 0 => decide (dFmt d = fA8)
        | 1 => decide (dFmt d = fA4)
        | 2 => decide (dFmt d = fA8)
        | _ => isCodes d) && (decide (code = cLINEAR) || decide (dSsrc d = 2))
    | 1 => (match mode with
        | 2 => decide (dFmt d = fW8)
        | 3 => isWeights d
        | _ => decide (dFmt d = fW4))
    | 3 => isFloat d || decide (dFmt d = fRAW40) || (isCodes d && decide (dSsrc d ≠ 0))
    | _ => decide (dFmt d = fRAW40)
  else if code = cENCODE_ROW then
    (if i = 0 then decide (dFmt d = fFP16) || decide (dFmt d = fBF16) else isCodes d)
  else if code = cENCODE_WEIGHT then (if i = 0 then isFloat d else decide (dFmt d = fW4))
  else if code = cCOPY then true
  else if code = cREDUCE then (if i = 0 then decide (dFmt d = fRAW40) else isFloat d || decide (dFmt d = fRAW40))
  else if code = cRESCALE ∧ i = 1 then decide (dFmt d = fFP32)
  else isFloat d

/-! ### Code 0x08: shapes -/

/-- The shape of a W4 or W8 tensor (R276). -/
def weightShape (d : Nat) : Bool := !isWeights d || (decide (dDim0 d = 128) && decide (dRank d = 3) && decide (dDim3 d = 1))

def sameRows (a b : Nat) : Bool := decide (dDim0 a = dDim0 b) && decide (dRows a = dRows b)

/-- Extent of a window operator's output along one dimension; 0 when no window fits or a parameter is 0. -/
def windowOut (n k s p d : Nat) : Nat :=
  if s = 0 ∨ d = 0 ∨ k = 0 ∨ n + 2 * p < d * (k - 1) + 1 then 0 else (n + 2 * p - (d * (k - 1) + 1)) / s + 1

/-- The output of a window operator has the extents that its window gives (log entry 14). -/
def windowShape (e : Nat) (x : Opds) : Bool :=
  decide (dDim1 x.out = windowOut (dDim1 x.in0) (eKw e) (eSw e) (ePw e) (eDw e))
    && decide (dDim2 x.out = windowOut (dDim2 x.in0) (eKh e) (eSh e) (ePh e) (eDh e))
    && decide (dDim3 x.out = dDim3 x.in0)

/-- Channels of an engine operator's activation row. -/
def rowChannels (code e : Nat) (x : Opds) : Nat :=
  if code = cCONV2D then eKh e * eKw e * dDim0 x.in0 else dDim0 x.in0

/-- The slots whose shapes must fit, in slot order, each with whether it does. -/
def shapes (code e : Nat) (x : Opds) (hasAcc : Bool) : List (Nat × Bool) :=
  if isEngineOp code then
    [(0, decide (rowChannels code e x = dDim2 x.in1)), (1, weightShape x.in1),
     (3, decide (dDim0 x.out = dDim1 x.in1) && (if code = cCONV2D then windowShape e x else decide (dRows x.out = dRows x.in0))),
     (4, !hasAcc || (decide (dDim0 x.acc = dDim1 x.in1) && decide (dRows x.acc = dRows x.out)))]
  else if code = cENCODE_WEIGHT then
    [(0, decide (dDim0 x.in0 = dDim2 x.out) && decide (dRows x.in0 = dDim1 x.out)), (3, weightShape x.out)]
  else if code = cRESCALE ∨ code = cRMSNORM then
    [(1, decide (dDim0 x.in1 = dDim0 x.in0) && decide (dRows x.in1 = 1)), (3, sameRows x.out x.in0)]
  else if code = cLAYERNORM then
    [(1, decide (dDim0 x.in1 = dDim0 x.in0) && decide (dRows x.in1 = 1)),
     (2, decide (dDim0 x.in2 = dDim0 x.in0) && decide (dRows x.in2 = 1)), (3, sameRows x.out x.in0)]
  else if cROW_MAX ≤ code ∧ code ≤ cROW_SUMSQ then [(3, decide (dDim0 x.out = 1) && decide (dRows x.out = dRows x.in0))]
  else if code = cREDUCE then
    [(0, decide (redParts x.in0 ≤ 64)),
     (3, decide (dDim0 x.out = dDim0 x.in0) && decide (dRows x.out * redParts x.in0 = dRows x.in0))]
  else if code = cCOPY then
    [(0, weightShape x.in0),
     (3, weightShape x.out && decide (dFmt x.out = dFmt x.in0) && sameRows x.out x.in0
        && (!isCodes x.in0 || decide (dSsrc x.out = dSsrc x.in0)))]
  else if code = cPOOL_MAX then [(3, decide (dDim0 x.out = dDim0 x.in0) && windowShape e x)]
  else
    (if slotNamed code 1 then [(1, sameRows x.in1 x.in0)] else [])
      ++ (if slotNamed code 2 then [(2, sameRows x.in2 x.in0)] else []) ++ [(3, sameRows x.out x.in0)]

/-! ### Code 0x09: row lengths -/

def lenOk (n : Nat) : Bool := decide (1 ≤ n ∧ n ≤ 4096)

/-- The slots whose row length is bounded (R97, R275, R286). -/
def lengths (code e : Nat) (x : Opds) : List (Nat × Bool) :=
  if isEngineOp code then
    [(0, lenOk (rowChannels code e x))] ++ (if isCodes x.out then [(3, lenOk (dDim0 x.out))] else [])
  else if code = cENCODE_ROW then [(0, lenOk (dDim0 x.in0)), (3, lenOk (dDim0 x.out))]
  else []

/-! ### Codes 0x0A to 0x0C -/

def splitOk (n : Nat) : Bool := [1, 2, 4, 8, 16, 32, 64].contains n

/-- Weight rows that the selected halves hold (R114). -/
def weightSpace (mode half : Nat) : Nat := (if mode = 2 then 256 else 512) * (if half = 2 then 2 else 1)

/-- Code 0x0A: the slice, of ⌈K / S⌉ channels whatever S is, does not fit. -/
def sliceBad (e : Nat) (x : Opds) : Bool :=
  decide (eMode e ≠ 3) && decide (eHalf e ≠ 3)
    && decide (weightSpace (eMode e) (eHalf e) < cdiv (dDim2 x.in1) (eSplit e))

/-- The imm bits that an operator uses (R286). -/
def immUsed (code : Nat) : Nat × Nat :=
  if code = cLINEAR then (0x7F, 0)
  else if code = cCONV2D then (0x7F, 0xFFFFFFFF)
  else if code = cCMP then (0x7, 0)
  else if code = cCLAMP then (0xFFFFFFFFFFFFFFFF, 0)
  else if code = cLAYERNORM ∨ code = cRMSNORM then (0xFFFFFFFF, 0)
  else if code = cPOOL_MAX then (0, 0xFFFFFFFF)
  else (0, 0)

/-- Bits of `v` outside a mask. -/
def outside (v m : Nat) : Bool := decide (v &&& m ≠ v)

/-- Code 0x0C for an operator entry. -/
def opReserved (code e : Nat) : Bool :=
  decide (fld e 7 4 ≠ 0) || decide (fld e 31 24 ≠ 0) || decide (fld e 63 58 ≠ 0) || decide (fld e 127 74 ≠ 0)
    || decide (fld e 319 288 ≠ 0) || (List.range 5).any (fun i => decide (fld (eSlot e i) 30 20 ≠ 0))
    || (if isEngineOp code then decide (eMode e = 3) || decide (eHalf e = 3) else decide (eMode e ≠ 3) || decide (eHalf e ≠ 3))
    || outside (eImm0 e) (immUsed code).1 || outside (eImm1 e) (immUsed code).2 || decide (eImm2 e ≠ 0)

/-- Code 0x0C for a wait, signal or arrival entry: a bit outside its fields, a reserved counter, an amount of 0. -/
def waitBad (e : Nat) : Bool := outside e (0xF + 0xFFFF * 2 ^ 32 + 0xFFFFFFFFFFFF * 2 ^ 64) || decide (0x2000 ≤ wCtr e)
def signalBad (e : Nat) : Bool :=
  outside e (0xF + 0xFFFFFFFF * 2 ^ 32) || decide (0x2000 ≤ wCtr e) || decide (sAmt e = 0)
def arrivalBad (e : Nat) : Bool := outside e (0xF + 0x3F * 2 ^ 32 + 2 ^ 48 + 0xFFFFFFFF * 2 ^ 64)

/-- Code 0x05: a predecessor distance that does not reach an earlier operator of the queue since start. -/
def predBad (hist : List Bool) (p : Nat) : Bool := decide (p ≠ 0) && !(hist.getD (p - 1) false)

/-! ### The checks in order -/

/-- What admission finds: a contract error with the slot it names, the address faults of the descriptor reads, or operands. -/
inductive Verdict where
  | error (code : Nat) (slot : Option Nat)
  | fault (fs : List (Nat × Nat))
  | ok (x : Opds)
  deriving DecidableEq, Repr

/-- Device address of a descriptor. -/
def State.descAddr (s : State) (e i : Nat) : Nat := s.roots.tdt.base + 64 * eIdx e i

/-- The descriptor in a slot; 0 when the slot is not valid. -/
def State.desc (s : State) (e i : Nat) : Nat := if eSlotValid e i then s.readNat (s.descAddr e i) 64 else 0

/-- The first slot that fails. -/
def firstBad (l : List (Nat × Bool)) : Option Nat := (l.find? (fun p => !p.2)).map (·.1)

/-- Checks 0x07 to 0x0C, on descriptors that have been read. -/
def checkOpds (code e engines : Nat) (x : Opds) : Verdict :=
  let ds := [x.in0, x.in1, x.in2, x.out, x.acc]
  let bad7 := (List.range 5).find? (fun i => eSlotValid e i &&
    (descReserved (ds.getD i 0) (rowLenSlot code i) || !rolePermits code (eMode e) i (ds.getD i 0)))
  match bad7 with
  | some i => .error 0x07 (some i)
  | none =>
    match firstBad (shapes code e x (eSlotValid e 4)) with
    | some i => .error 0x08 (some i)
    | none =>
      match firstBad (lengths code e x) with
      | some i => .error 0x09 (some i)
      | none =>
        if isEngineOp code && sliceBad e x then .error 0x0A none
        else if isEngineOp code && (!splitOk (eSplit e) || decide (engines < eSplit e)) then .error 0x0B none
        else if opReserved code e then .error 0x0C none
        else .ok x

/-- Every check of an operator entry with an implemented code, in ascending code order (R289): `g` is the queue's group
reference, `hist` the kinds of the entries before it. -/
def State.verdict (s : State) (e g : Nat) (hist : List Bool) : Verdict :=
  let code := eOp e
  if !opCodes.contains code then .error 0x03 none
  else if !groupValid (eGroup e) || !groupWithin (eGroup e) g then .error 0x04 none
  else if predBad hist (ePred0 e) || predBad hist (ePred1 e) then .error 0x05 none
  else match (List.range 5).find? (slotBad code e s.roots.tdt.count) with
    | some i => .error 0x06 (some i)
    | none =>
      match s.faultsIn (((List.range 5).filter (eSlotValid e)).map (fun i => (s.descAddr e i, 64))) with
      | f :: fs => .fault (f :: fs)
      | [] => checkOpds code e (groupSize (eGroup e))
          { in0 := s.desc e 0, in1 := s.desc e 1, in2 := s.desc e 2, out := s.desc e 3, acc := s.desc e 4 }

end Sys2Proof.Machine
end

