-- ==== Sys2Proof/Machine/Digest.lean ====
section
/-! DEFINITION. Digests and digest records (R468 to R471), the mode in force, and what holds a digested operator or a
gated signal back (R472 to R475). -/

namespace Sys2Proof.Machine

/-! ### Records -/

/-- A record as its 32 bytes hold it (R470). -/
def DigestRec.bits (r : DigestRec) : Nat :=
  r.d + r.index * 2 ^ 64 + r.id * 2 ^ 112 + r.kind * 2 ^ 120 + b2n r.sat * 2 ^ 121 + r.rows * 2 ^ 128

def DigestRec.sameKey (a b : DigestRec) : Bool := a.kind == b.kind && a.id == b.id && a.index == b.index

def DigestRec.agrees (a b : DigestRec) : Bool := a.d == b.d && a.sat == b.sat && a.rows == b.rows

/-- The queue is digested (R469). -/
def State.digQueue (s : State) (q : Nat) : Bool := s.bit (Reg.SAF_DIG_QMASK (q / 32)) (q % 32)

/-! ### The mode in force (R472, R476, R496) -/

/-- SAF_STATUS.mode_act: Doubles needs the pair link, and falls back to Single after its loss. -/
def State.modeAct (s : State) : Nat :=
  match s.fld Reg.SAF_CTRL 1 0 with
  | 1 => 1
  | 2 => if s.bit Reg.SAF_STATUS 4 then 1 else if s.bit (Reg.LNK_STATUS 3) 0 then 2 else 0
  | _ => 0

/-- The device is to run in Doubles: it has not fallen back to Single (R476), whether or not the pair link is up. -/
def State.inDoubles (s : State) : Bool := decide (s.fld Reg.SAF_CTRL 1 0 = 2) && !s.bit Reg.SAF_STATUS 4

/-- Local records not yet matched: formed, or in the match table. -/
def State.unmatched (s : State) : List DigestRec :=
  s.safety.forming ++ (s.safety.table.filter (fun m => !m.peer)).map (·.dig)

/-- Doubles holds digested admissions and adds while 256 local records are unmatched (R474). -/
def State.digHold (s : State) : Bool := s.inDoubles && decide (256 ≤ s.unmatched.length)

/-- A signal of queue `q` waits for the records of its earlier operators (R475); a lost pair link frees it only with a
fall-back to Single (R476). -/
def State.gateHold (s : State) (q : Nat) : Bool :=
  s.inDoubles && s.safety.dblCfg.getLsbD 8 && s.digQueue q
    && s.unmatched.any (fun r => r.kind == 0 && r.id == q)

end Sys2Proof.Machine
end

