-- ==== Sys2Proof/Machine/Sched.lean ====
section
/-! DEFINITION. The hardware scheduler: queue commands, the issue grant, queue entries, admission and issue of operators,
retirement, the watchdog and the scheduler's registers (R153 to R198, R278 to R291). -/

namespace Sys2Proof.Machine

/-! ### Queue commands (R156, R157, R187, R188) -/

/-- A logical core is held in reset (R485) or its die is out of reach (R54). -/
def State.coreHeld (s : State) (n : Nat) : Bool :=
  s.safety.heldCores.contains n || s.domHeld (19 + n / 32)

/-- The reserves of a core's contexts sum to more than 64. -/
def State.reservesBad (s : State) (n : Nat) : Bool :=
  decide (64 < ((List.range 4).map (fun c => s.reserve (4 * n + c))).sum)

/-- The causes of R157 that hold for a command (1 start, 2 halt, 3 resume, 4 release), lowest first. -/
def State.qCauses (s : State) (q cmd : Nat) : List Nat :=
  let e := s.qdt q
  let ks := qCtxs e
  let lead := s.ctx (qLead e)
  let valid : Bool := match cmd with
    | 1 => true
    | 2 => s.bound q && !lead.haltPend &&
        (lead.mode == .ready || lead.mode == .issuing || lead.mode == .waiting || lead.mode == .following)
    | 3 => s.bound q && !lead.haltPend && lead.mode == .halted
    | _ => s.bound q && (lead.mode == .halted || lead.mode == .faulted)
  let named := decide (q < s.roots.qdt.count)
  let grp := groupValid (qGroup e)
  (if s.fld Reg.CTL_ROOT_STATUS 3 1 = 7 then [] else [1])
    ++ (if named then [] else [2])
    ++ (if decide (cmd = 1) && named && grp && ks.any (fun k => (s.ctx k).mode != .idle) then [3] else [])
    ++ (if decide (cmd = 1) && named && grp && (groupCores (qGroup e)).any s.reservesBad then [4] else [])
    ++ (if named && !grp then [5] else [])
    ++ (if named && grp && (groupCores (qGroup e)).any s.coreHeld then [6] else [])
    ++ (if valid then [] else [7])

/-- Record a refusal. -/
def State.qRefuse (s : State) (q cause : Nat) : State := s.setNat Reg.SCH_Q_STATUS (1 + cause * 16 + q * 256)

/-- Carry out a command, or refuse it with its lowest cause. -/
def State.qCommand (s : State) (q cmd : Nat) (act : State → State) : State :=
  match s.qCauses q cmd with
  | c :: _ => s.qRefuse q c
  | [] => act s

/-- Index of the first entry after Start. -/
def startIdx (e : Nat) : Nat := qStart e

/-- Start: the lead begins at the start entry, followers enter FOLLOWING. -/
def State.qStart (s : State) (q : Nat) : State :=
  let e := s.qdt q
  (qCtxs e).foldl (fun s k => s.setCtx k
    (if k = qLead e then { mode := .ready, lead := true, queue := q, pos := startIdx e }
     else { mode := .following, queue := q })) s

/-- A lead's arrival on its way to the cluster node: not yet applied. -/
def State.arrivalOut (s : State) (k : Nat) : Bool := s.sync.arrivals.any (fun a => a.ctx == some k && decide (a.node < 16))

/-- Withdraw what a halting lead holds: its waiter record, and an arrival not yet applied. -/
def State.haltLead (s : State) (k : Nat) : State :=
  let out := s.arrivalOut k
  let s1 := s.withdraw k
  let c := s1.ctx k
  let s2 := s1.setCtx k { c with
    mode := if c.mode = .waiting then .ready else c.mode
    phase := if out then .holding else c.phase }
  { s2 with sync := { s2.sync with arrivals := s2.sync.arrivals.filter (fun a => !(a.ctx == some k && decide (a.node < 16))) } }

/-- Halt. -/
def State.qHalt (s : State) (q : Nat) : State :=
  let e := s.qdt q
  ((s.haltLead (qLead e)).mapCtxs (qCtxs e) (fun c => { c with haltPend := true })).haltCheck q

/-- Resume: the lead evaluates again what it halted at. -/
def State.qResume (s : State) (q : Nat) : State :=
  (qCtxs (s.qdt q)).foldl (fun s k => s.setCtx k { s.ctx k with mode := if (s.ctx k).lead then .ready else .following }) s

/-- Release: the end-of-task check, then every context is IDLE. -/
def State.qRelease (s : State) (q : Nat) : State :=
  (s.endCheck q).mapCtxs (qCtxs (s.qdt q)) (fun _ => {})

/-- Q_START. -/
def execQStart (q : BitVec 8) (s : State) : Host.Outcome State Fault Refusal :=
  s.hAccess fun s => s.qCommand q.toNat 1 (·.qStart q.toNat)

/-- Q_HALT. -/
def execQHalt (q : BitVec 8) (s : State) : Host.Outcome State Fault Refusal :=
  s.hAccess fun s => s.qCommand q.toNat 2 (·.qHalt q.toNat)

/-- Q_RESUME. -/
def execQResume (q : BitVec 8) (s : State) : Host.Outcome State Fault Refusal :=
  s.hAccess fun s => s.qCommand q.toNat 3 (·.qResume q.toNat)

/-- Q_RELEASE. -/
def execQRelease (q : BitVec 8) (s : State) : Host.Outcome State Fault Refusal :=
  s.hAccess fun s => s.qCommand q.toNat 4 (·.qRelease q.toNat)

/-- A write to SCH_Q_CTRL (R187). -/
def State.qCtrl (s : State) (q cmd : Nat) : State :=
  match cmd with
  | 1 => s.qCommand q 1 (·.qStart q)
  | 2 => s.qCommand q 2 (·.qHalt q)
  | 3 => s.qCommand q 3 (·.qResume q)
  | 4 => s.qCommand q 4 (·.qRelease q)
  | _ => s.qRefuse q 8

/-- Q_CMD_RESERVED: a reserved code is refused with cause 0x8; of the codes that a row of their own carries, this command
has none of the effects. -/
def execQCmdReserved (q : BitVec 8) (cmd : BitVec 3) (s : State) : Host.Outcome State Fault Refusal :=
  s.hAccess fun s => if 1 ≤ cmd.toNat ∧ cmd.toNat ≤ 4 then s else s.qRefuse q.toNat 8

/-! ### Scoreboard entries (R160 to R162) -/

/-- Units of an operator on a core (R273, log entry 18): u_load, u_rr, u_vec, u_red, u_store in bits 0 to 4. -/
def unitsOf (code split : Nat) : Nat :=
  if isEngineOp code then 1 + (if split = 1 then 0 else 8) + 16
  else if code = cENCODE_ROW then 1 + 2 + 16
  else if code = cREDUCE then 1 + 8 + 16
  else if code = cCOPY then 1 + 16
  else 1 + 4 + 16

/-- Logical engines of a core that an operator uses. -/
def Op.engMask (o : Op) (core : Nat) : Nat :=
  if isEngineOp o.code then
    flagsNat ((List.range 16).map (fun j => match o.rel? (16 * core + j) with
      | some er => decide (o.passesOf er ≠ 0)
      | none => false))
  else 0

/-- Scoreboard index on a core of the predecessor at distance `p`, while it holds an entry there. -/
def State.depIdx (s : State) (o : Op) (core p : Nat) : Option Nat :=
  if p = 0 ∨ o.entry < p then none
  else match s.op? o.queue (o.entry - p) with
    | some d => d.slot? core
    | none => none

/-- SCH_OCCn.high follows the entries in use. -/
def State.trackHigh (s : State) (core : Nat) : State :=
  { s with sched := { s.sched with high := s.sched.high.put 0 core (max (s.sched.high.look 0 core) (s.occ core)) } }

/-! ### The Single checker (R477, R478) -/

/-- The row of a logical engine that the `c`-th check of its core recomputes; none when the engine is gated. -/
def Op.checkRow (o : Op) (c eng : Nat) : Option Nat :=
  match o.rel? eng with
  | some er => if o.rows * o.passesOf er = 0 then none else some (c / 16 % (o.rows * o.passesOf er))
  | none => none

/-- Core `n` has a checker: Single with chk_en, and its spare engine unused (R477). -/
def State.hasChecker (s : State) (n : Nat) : Bool :=
  s.modeAct == 1 && s.bit Reg.SAF_CTRL 2 && !s.bit (Reg.SCH_ENG_SUB n) 4

/-- Take the check of the `c`-th digested engine operator of a core. -/
def State.takeCheck (s : State) (o : Op) (core c : Nat) : State :=
  let eng := 16 * core + c % 16
  match o.checkRow c eng with
  | none => s.incFld Reg.SAF_CHK_CNT 31 16 1
  | some r =>
    { s with safety := { s.safety with checks := s.safety.checks ++
      [{ core := core, queue := o.queue, entry := o.entry, eng := eng, row := r }] } }

/-- Digested engine operators admitted on a core since reset. -/
def State.digSeen (s : State) (core : Nat) : Nat := s.safety.digCount.look 0 core

/-- Count one more of them. -/
def State.digMore (s : State) (core : Nat) : State :=
  { s with safety := { s.safety with digCount := s.safety.digCount.put 0 core (s.digSeen core + 1) } }

/-- Count a digested engine operator admitted on a core, and take its check. -/
def State.checkAdmit (s : State) (o : Op) (core : Nat) : State :=
  if o.digested && isEngineOp o.code then
    if s.hasChecker core then (s.digMore core).takeCheck o core (s.digSeen core) else s.digMore core
  else s

/-- A core admits its part of an operator into its lowest free entry. -/
def State.admitPart (s : State) (o : Op) (core : Nat) : State :=
  let k := 4 * core + o.lead % 4
  let i := s.sbFree core
  let part := (o.part? core).getD { core := core, phase := .sent }
  let age := s.sched.ages.look 0 core
  let e : SbEntry :=
    { valid := true, ctx := o.lead % 4
      state := if part.finished then 4 else if s.unblocked o then 2 else 1
      fwd := decide (core ≠ o.lead / 4), engMask := o.engMask core, units := unitsOf o.code o.split
      dep0 := s.depIdx o core (ePred0 o.bits), dep1 := s.depIdx o core (ePred1 o.bits)
      queue := o.queue, entry := o.entry, age := age }
  let s1 := (s.setSb core i e).setOp (o.setPart { part with phase := .admitted i })
  let s2 := { s1 with sched := { s1.sched with ages := s1.sched.ages.put 0 core ((age + 1) % 65536) } }
  let s3 := s2.trackHigh core
  let s4 := if k = o.lead then s3 else s3.setCtx k { s3.ctx k with pos := o.entry }
  s4.checkAdmit o core

/-! ### Issue to the units -/


/-- An engine operator captures its codebook; a codebook that is not increasing, or a faulty broadcast entry of a code
output, ends it before its first row (R83, R94, R128). -/
def State.issueEngine (s : State) (o : Op) : State :=
  let w4 := dFmt o.in1 = fW4
  let cast := isCodes o.out && dSsrc o.out == 2
  let rs := (if w4 then [(dAux0 o.in1, 32)] else []) ++ (if cast then [(dAux0 o.out, 8)] else [])
  if o.parts.all (fun p => s.reaches (coreNode p.core) rs) then
    s.opAccess o (o.lead / 4) rs [] fun s =>
      let cb := if w4 then codebookOf (s.readNat (dAux0 o.in1) 32) else []
      let bad1 := decide w4 && !increasing cb
      let bad2 := cast && entFaulty (s.readNat (dAux0 o.out) 8) (qmaxOf (dFmt o.out))
      if bad1 then s.engFaultIssue o 1 bad2
      else if bad2 then s.engFaultIssue o 2 false
      else s.setOp { o with codebook := cb, executed := true }
  else s

/-- The operators that other commands than their own work on: those of the engines, and ENCODE_ROW. -/
def unitCommands (code : Nat) : Bool := isEngineOp code || code == cENCODE_ROW

/-- An operator of these whose predecessors have retired is issued to its units. -/
def State.issueOp (s : State) (o : Op) : State :=
  if isEngineOp o.code then s.issueEngine o else s.setOp { o with executed := true }

/-- The operator may be issued: not yet issued, and unblocked. -/
def State.mayIssue (s : State) (o : Op) : Bool := unitCommands o.code && !o.executed && s.unblocked o

/-- Issue an operator in flight when it may be. -/
def State.tryIssue (s : State) (q entry : Nat) : State :=
  match s.op? q entry with
  | some o => if s.mayIssue o then s.issueOp o else s
  | none => s

/-! ### The issue grant (R165) -/

/-- The oldest part forwarded to a follower and awaiting admission there. -/
def State.arrivedOp? (s : State) (k : Nat) : Option Op :=
  s.sched.ops.find? (fun o => o.queue == (s.ctx k).queue && match o.part? (k / 4) with
    | some p => decide (p.phase = .arrived)
    | none => false)

/-- The context is READY with an operator awaiting admission, and an entry is free for it. -/
def State.wantsIssue (s : State) (k : Nat) : Bool :=
  let c := s.ctx k
  c.mode == .ready &&
    (if c.lead then decide (c.phase = .holding) && decide (eKind c.entry = 1) && !c.haltPend
        && (s.sbRoom k || !(groupCores (eGroup c.entry)).contains (k / 4)) && !(s.digQueue c.queue && s.digHold)
     else (s.arrivedOp? k).isSome && s.sbRoom k)

/-- The context that a core grants: the highest priority, then the first in round-robin order. -/
def State.grantee? (s : State) (core : Nat) : Option Nat :=
  let first := s.sched.rr.look 0 core
  let order := (List.range 4).map (fun i => 4 * core + (first + i) % 4)
  (order.filter s.wantsIssue).foldl (fun best k => match best with
    | none => some k
    | some b => if s.prio b < s.prio k then some k else best) none

/-- A granted follower admits its oldest part. -/
def State.followerAdmit (s : State) (k : Nat) : State :=
  match s.arrivedOp? k with
  | some o =>
    let s1 := s.admitPart o (k / 4)
    let s2 := s1.setCtx k { s1.ctx k with mode := if (s1.arrivedOp? k).isSome then .ready else .following }
    s2.tryIssue o.queue o.entry
  | none => s

/-- ISSUE_GRANT: no grant while a context of the core is ISSUING. -/
def execIssueGrant (core : Fin 64) (s : State) : Host.Outcome State Fault Refusal :=
  if s.mainUp && (List.range 4).all (fun c => (s.ctx (4 * core + c)).mode != .issuing) then
    match s.grantee? core with
    | some k =>
      let s1 := { s with sched := { s.sched with rr := s.sched.rr.put 0 core ((k + 1) % 4) } }
      done (if (s.ctx k).lead then s1.setCtx k { s1.ctx k with mode := .issuing } else s1.followerAdmit k)
    | none => done s
  else done s

/-! ### Queue entries (R167, R278 to R286) -/

/-- The lead is free to work on its entry. -/
def State.leadFree (s : State) (k : Nat) (ph : LeadPhase) : Bool :=
  let c := s.ctx k
  s.mainUp && c.lead && c.mode == .ready && !c.haltPend && decide (c.phase = ph)

/-- The lead holds an entry of a kind. -/
def State.leadHolds (s : State) (k kind : Nat) : Bool := s.leadFree k .holding && eKind (s.ctx k).entry == kind

/-- Device address of the entry with index `i` of a queue (R279). -/
def ringAddr (q i : Nat) : Nat := qRingBase q + 64 * (i % 2 ^ qRingLog2 q)

/-- The lead waits for a counter to hold a value. -/
def State.waitFor (s : State) (k c v : Nat) : State :=
  s.setCtx k { s.ctx k with mode := .waiting, wait := some (c, v), registered := false }

/-- The lead of context `k` can read an entry of its ring. -/
def State.canFetch (s : State) (k a : Nat) : Bool := s.reaches (coreNode (k / 4)) [(a, 64)]

/-- The lead fetches the entry at its position. -/
def State.fetchEntry (s : State) (k : Nat) : State :=
  let c := s.ctx k
  let q := s.qdt c.queue
  if !c.checked && !qdtOk q then s.contractError k 0x01
  else
    let s1 := s.setCtx k { c with checked := true }
    let a := ringAddr q c.pos
    if (s1.ctr (qSubmit q)).v < c.pos + 1 then s1.waitFor k (qSubmit q) (c.pos + 1)
    else if s1.canFetch k a then
      match s1.faultsIn [(a, 64)] with
      | [] =>
        let s2 := s1.eccReads [(a, 64)]
        s2.setCtx k { s2.ctx k with phase := .holding, entry := s2.readNat a 64 }
      | fs => s1.opAddrFault c.queue c.pos false fs
    else s1

/-- Entries that a lead fetches ahead of admission (R167). -/
def aheadMax : Nat := 8

/-- The lead fetches one entry further ahead (R167): at most 8, and only below the submit count. An entry whose read would meet
an address fault is left until the lead comes to it (log entry 74). -/
def State.fetchAhead (s : State) (k : Nat) : State :=
  let c := s.ctx k
  let q := s.qdt c.queue
  let i := c.pos + 1 + c.ahead.length
  let a := ringAddr q i
  if c.ahead.length < aheadMax ∧ i < (s.ctr (qSubmit q)).v ∧ s.canFetch k a = true ∧ s.faultsIn [(a, 64)] = [] then
    let s1 := s.eccReads [(a, 64)]
    s1.setCtx k { s1.ctx k with ahead := c.ahead ++ [s1.readNat a 64] }
  else s

/-- A lead works through its queue while it is READY, ISSUING or WAITING and no Halt is pending. -/
def State.leadGoes (s : State) (k : Nat) : Bool :=
  let c := s.ctx k
  s.mainUp && c.lead && !c.haltPend && (c.mode == .ready || c.mode == .issuing || c.mode == .waiting)

/-- ENTRY_FETCH: the entry that the lead needs, or one ahead of the entry that it holds. -/
def execEntryFetch (k : Fin 256) (s : State) : Host.Outcome State Fault Refusal :=
  done (if s.leadFree k .needFetch then s.fetchEntry k
    else if s.leadGoes k && decide ((s.ctx k).phase ≠ .needFetch) then s.fetchAhead k
    else s)

/-- The slot counter's add (R280). -/
def State.slotAdd (s : State) (k : Nat) : State :=
  let n := qSlot (s.qdt (s.ctx k).queue)
  if n = 0xFFFF then s else s.addCtr n 1 (ctxUnit k)

/-- The lead of context `k` can reach the slot counter's store. -/
def State.slotOpen (s : State) (k : Nat) : Bool :=
  decide (qSlot (s.qdt (s.ctx k).queue) = 0xFFFF) || s.ctrOpen (coreNode (k / 4)) (qSlot (s.qdt (s.ctx k).queue))

/-- The lead can reach the store of a counter of its entry, and that of its slot counter (R202). -/
def State.leadLinked (s : State) (k c : Nat) : Bool := s.slotOpen k && s.ctrOpen (coreNode (k / 4)) c

/-- The lead has finished with its entry and goes on to the next, which it holds if it has fetched it ahead. -/
def State.entryDone (s : State) (k : Nat) : State :=
  let s1 := s.slotAdd k
  let c := s1.ctx k
  s1.setCtx k { c with
    mode := .ready, phase := if c.ahead.isEmpty then .needFetch else .holding
    entry := c.ahead.headD 0, ahead := c.ahead.drop 1, pos := c.pos + 1
    hist := (decide (eKind c.entry = 1) :: c.hist).take 255, wait := none, registered := false }

/-- A context's counter operation names a counter that it may not use (R242). -/
def State.ctrRemote (s : State) (k c : Nat) : State := (s.synError 6 c (ctxUnit k)).syncFault k

/-- Evaluate a wait of the lead: go on, or deschedule. -/
def State.leadWait (s : State) (k c v : Nat) : State :=
  if ctrLocal c k = false then s.ctrRemote k c
  else if v ≤ (s.ctr c).v then s.entryDone k else s.waitFor k c v

/-- WAIT_ENTRY (R166). -/
def execWaitEntry (k : Fin 256) (s : State) : Host.Outcome State Fault Refusal :=
  if s.leadHolds k 2 && !s.frozen && s.leadLinked k (wCtr (s.ctx k).entry) then
    let e := (s.ctx k).entry
    done (if waitBad e then s.contractError k 0x0C else s.leadWait k (wCtr e) (wExp e))
  else done s

/-- The operators before a signal have retired on every core, and their records have matched (R164, R475). -/
def State.signalOpen (s : State) (k : Nat) : Bool :=
  let q := (s.ctx k).queue
  (s.opsOf q).isEmpty && !s.gateHold q

/-- SIGNAL_ENTRY (R164): the entry completes as its add is applied (R283), so it waits while a dump holds adds (R259). -/
def execSignalEntry (k : Fin 256) (s : State) : Host.Outcome State Fault Refusal :=
  if s.leadHolds k 3 then
    let e := (s.ctx k).entry
    if signalBad e then done (s.contractError k 0x0C)
    else if s.signalOpen k && !s.frozen && s.leadLinked k (wCtr e) then
      done (if ctrLocal (wCtr e) k then (s.addCtr (wCtr e) (sAmt e) (ctxUnit k)).entryDone k else s.ctrRemote k (wCtr e))
    else done s
  else done s

/-- A lead whose arrival has been applied goes on, or waits for the round. -/
def State.arrivalWait (s : State) (k : Nat) : State :=
  let e := (s.ctx k).entry
  if s.arrivalOut k || !s.leadLinked k (aRoot e) || (aWait e && s.frozen) then s
  else if aWait e then s.leadWait k (aRoot e) ((s.huddle (aRoot e)).n * aTag e) else s.entryDone k

/-- HUDDLE_ARRIVAL_ENTRY (R249, R285): the arrival goes to the cluster's node; once it is applied there the entry
completes, or the lead waits for the root to reach n × tag. -/
def execHuddleArrivalEntry (k : Fin 256) (s : State) : Host.Outcome State Fault Refusal :=
  if s.leadHolds k 4 then
    let e := (s.ctx k).entry
    if arrivalBad e then done (s.contractError k 0x0C)
    else if s.signalOpen k then
      let s1 := s.sendArrival
        { root := aRoot e, node := k / 16, child := k, tag := aTag e, weight := 1, unit := ctxUnit k, ctx := some k.val }
      done (s1.setCtx k { s1.ctx k with phase := .arrived })
    else done s
  else if s.leadFree k .arrived then done (s.arrivalWait k)
  else done s

/-- RESERVED_ENTRY_KIND (R283). -/
def execReservedEntryKind (k : Fin 256) (s : State) : Host.Outcome State Fault Refusal :=
  let kind := eKind (s.ctx k).entry
  done (if s.leadFree k .holding && !decide (1 ≤ kind ∧ kind ≤ 4) then s.contractError k 0x02 else s)

/-! ### Admission (R159 to R162, R165, R280) -/

/-- The lead has the grant and holds an operator entry. -/
def State.leadIssuing (s : State) (k : Nat) : Bool :=
  let c := s.ctx k
  s.mainUp && c.lead && c.mode == .issuing && decide (c.phase = .holding) && eKind c.entry == 1

/-- OP_UNIMPLEMENTED (R273): an operator entry names a code that the device does not implement. -/
def execOpUnimplemented (k : Fin 256) (s : State) : Host.Outcome State Fault Refusal :=
  done (if (s.leadIssuing k || s.leadHolds k 1) && !opCodes.contains (eOp (s.ctx k).entry) then s.contractError k 0x03 else s)

/-- The operator of an entry that has passed its checks; a core that it gives nothing to do has finished. -/
def State.newOp (s : State) (k : Nat) (x : Opds) : Op :=
  let c := s.ctx k
  let e := c.entry
  let o : Op := {
    queue := c.queue, entry := c.pos, lead := k, code := eOp e, bits := e
    in0 := x.in0, in1 := x.in1, in2 := x.in2, out := x.out, acc := x.acc, hasAcc := eSlotValid e 4
    preds := ([ePred0 e, ePred1 e].filter (fun p => decide (p ≠ 0) && (s.op? c.queue (c.pos - p)).isSome)).map (fun p => c.pos - p)
    parts := [], digested := s.digQueue c.queue }
  { o with parts := (groupCores (eGroup e)).map (fun n => { core := n, phase := .sent, finished := o.emptyOn n }) }

/-- Admission of an operator: its parts are forwarded, its part on the lead's core is admitted, the entry's slot is free,
and it is issued when no predecessor holds it. -/
def State.admitOp (s : State) (k : Nat) (x : Opds) : State :=
  let o := s.newOp k x
  let s1 := { s with sched := { s.sched with ops := s.sched.ops ++ [o] } }
  let s2 := if (o.part? (k / 4)).isSome then s1.admitPart o (k / 4) else s1
  (s2.entryDone k).tryIssue o.queue o.entry

/-- The lead admits the operator that it holds, or a contract error or an address fault ends it. -/
def State.admitLead (s : State) (k : Nat) : State :=
  let c := s.ctx k
  match s.verdict c.entry (qGroup (s.qdt c.queue)) c.hist with
  | .error code slot => s.contractError k code slot
  | .fault fs => s.opAddrFault c.queue c.pos false fs
  | .ok x =>
    let room := s.sbRoom k || !(groupCores (eGroup c.entry)).contains (k / 4)
    if room && s.slotOpen k && !(s.digQueue c.queue && s.digHold) then s.admitOp k x else s

/-- The oldest operator of a context with a code, of those that other commands work on, that waited and may now be issued. -/
def State.waitingOp? (s : State) (k code : Nat) : Option Op :=
  s.sched.ops.find? (fun o => o.lead == k && o.code == code && s.mayIssue o)

/-- An operator of context `k` in flight goes on: it is issued to the units that other commands drive, or its own unit takes
the next row, block or burst of it. -/
def State.opWork (s : State) (k code : Nat) : State :=
  if unitCommands code then
    match s.waitingOp? k code with
    | some o => s.issueOp o
    | none => s
  else
    match s.dueOp? k code with
    | some (o, p) => s.opStep o p
    | none => s

/-- An operator's command: the lead of context `k`, holding an entry with this code, admits it; else such an operator in
flight goes on. The table has no row for the steps of R171 of the vector unit, REDUCE and COPY: their own command, given
again, stands for one (DESIGN CHOICE, log entry 87). -/
def State.operator (s : State) (k code : Nat) : State :=
  if s.leadIssuing k && eOp (s.ctx k).entry == code then s.admitLead k
  else if s.mainUp then s.opWork k code else s

/-! ### The operators of R273 -/

/-- LINEAR (R287). -/
def execLinear (k : Fin 256) (s : State) : Host.Outcome State Fault Refusal := done (s.operator k cLINEAR)

/-- CONV2D (R286). -/
def execConv2d (k : Fin 256) (s : State) : Host.Outcome State Fault Refusal := done (s.operator k cCONV2D)

/-- ENCODE_ROW (R561). -/
def execEncodeRow (k : Fin 256) (s : State) : Host.Outcome State Fault Refusal := done (s.operator k cENCODE_ROW)

/-- ENCODE_WEIGHT (R88). -/
def execEncodeWeight (k : Fin 256) (s : State) : Host.Outcome State Fault Refusal := done (s.operator k cENCODE_WEIGHT)

/-- ADD (R175). -/
def execAdd (k : Fin 256) (s : State) : Host.Outcome State Fault Refusal := done (s.operator k cADD)

/-- SUB (R175). -/
def execSub (k : Fin 256) (s : State) : Host.Outcome State Fault Refusal := done (s.operator k cSUB)

/-- MUL (R175). -/
def execMul (k : Fin 256) (s : State) : Host.Outcome State Fault Refusal := done (s.operator k cMUL)

/-- FMA (R175). -/
def execFma (k : Fin 256) (s : State) : Host.Outcome State Fault Refusal := done (s.operator k cFMA)

/-- MIN (R175). -/
def execMin (k : Fin 256) (s : State) : Host.Outcome State Fault Refusal := done (s.operator k cMIN)

/-- MAX (R175). -/
def execMax (k : Fin 256) (s : State) : Host.Outcome State Fault Refusal := done (s.operator k cMAX)

/-- ABS (R175). -/
def execAbs (k : Fin 256) (s : State) : Host.Outcome State Fault Refusal := done (s.operator k cABS)

/-- NEG (R175). -/
def execNeg (k : Fin 256) (s : State) : Host.Outcome State Fault Refusal := done (s.operator k cNEG)

/-- CMP (R175). -/
def execCmp (k : Fin 256) (s : State) : Host.Outcome State Fault Refusal := done (s.operator k cCMP)

/-- SELECT (R175). -/
def execSelect (k : Fin 256) (s : State) : Host.Outcome State Fault Refusal := done (s.operator k cSELECT)

/-- RELU (R175). -/
def execRelu (k : Fin 256) (s : State) : Host.Outcome State Fault Refusal := done (s.operator k cRELU)

/-- CLAMP (R175). -/
def execClamp (k : Fin 256) (s : State) : Host.Outcome State Fault Refusal := done (s.operator k cCLAMP)

/-- CONVERT (R175). -/
def execConvert (k : Fin 256) (s : State) : Host.Outcome State Fault Refusal := done (s.operator k cCONVERT)

/-- EXP (R175). -/
def execExp (k : Fin 256) (s : State) : Host.Outcome State Fault Refusal := done (s.operator k cEXP)

/-- RECIP (R175). -/
def execRecip (k : Fin 256) (s : State) : Host.Outcome State Fault Refusal := done (s.operator k cRECIP)

/-- SQRT (R175). -/
def execSqrt (k : Fin 256) (s : State) : Host.Outcome State Fault Refusal := done (s.operator k cSQRT)

/-- RSQRT (R175). -/
def execRsqrt (k : Fin 256) (s : State) : Host.Outcome State Fault Refusal := done (s.operator k cRSQRT)

/-- SIGMOID (R175). -/
def execSigmoid (k : Fin 256) (s : State) : Host.Outcome State Fault Refusal := done (s.operator k cSIGMOID)

/-- TANH (R175). -/
def execTanh (k : Fin 256) (s : State) : Host.Outcome State Fault Refusal := done (s.operator k cTANH)

/-- GELU (R175). -/
def execGelu (k : Fin 256) (s : State) : Host.Outcome State Fault Refusal := done (s.operator k cGELU)

/-- SILU (R175). -/
def execSilu (k : Fin 256) (s : State) : Host.Outcome State Fault Refusal := done (s.operator k cSILU)

/-- RESCALE (R135). -/
def execRescale (k : Fin 256) (s : State) : Host.Outcome State Fault Refusal := done (s.operator k cRESCALE)

/-- ROW_MAX (R175). -/
def execRowMax (k : Fin 256) (s : State) : Host.Outcome State Fault Refusal := done (s.operator k cROW_MAX)

/-- ROW_MIN (R175). -/
def execRowMin (k : Fin 256) (s : State) : Host.Outcome State Fault Refusal := done (s.operator k cROW_MIN)

/-- ROW_SUM (R176). -/
def execRowSum (k : Fin 256) (s : State) : Host.Outcome State Fault Refusal := done (s.operator k cROW_SUM)

/-- ROW_SUMSQ (R176). -/
def execRowSumsq (k : Fin 256) (s : State) : Host.Outcome State Fault Refusal := done (s.operator k cROW_SUMSQ)

/-- SOFTMAX (R177). -/
def execSoftmax (k : Fin 256) (s : State) : Host.Outcome State Fault Refusal := done (s.operator k cSOFTMAX)

/-- LAYERNORM (R177). -/
def execLayernorm (k : Fin 256) (s : State) : Host.Outcome State Fault Refusal := done (s.operator k cLAYERNORM)

/-- RMSNORM (R177). -/
def execRmsnorm (k : Fin 256) (s : State) : Host.Outcome State Fault Refusal := done (s.operator k cRMSNORM)

/-- REDUCE (R131). -/
def execReduce (k : Fin 256) (s : State) : Host.Outcome State Fault Refusal := done (s.operator k cREDUCE)

/-- COPY (R563). -/
def execCopy (k : Fin 256) (s : State) : Host.Outcome State Fault Refusal := done (s.operator k cCOPY)

/-- POOL_MAX (R175). -/
def execPoolMax (k : Fin 256) (s : State) : Host.Outcome State Fault Refusal := done (s.operator k cPOOL_MAX)

/-- The oldest operator of a follower's queue whose part for its core is on its way. -/
def State.sentOp? (s : State) (k : Nat) : Option Op :=
  s.sched.ops.find? (fun o => o.queue == (s.ctx k).queue && match o.part? (k / 4) with
    | some p => decide (p.phase = .sent)
    | none => false)

/-- FORWARDED_OPERATOR (R154): the oldest part on its way to follower `k` arrives (R179). -/
def execForwardedOperator (k : Fin 256) (s : State) : Host.Outcome State Fault Refusal :=
  let c := s.ctx k
  match s.mainUp && !c.lead && (c.mode == .following || c.mode == .ready), s.sentOp? k with
  | true, some o =>
    if s.routeOpen (coreNode (o.lead / 4)) (coreNode (k / 4)) then
      let p := (o.part? (k / 4)).getD { core := k / 4, phase := .sent }
      let s1 := s.setOp (o.setPart { p with phase := .arrived })
      done (s1.setCtx k { s1.ctx k with mode := .ready })
    else done s
  | _, _ => done s

/-! ### Retirement (R162, R163) -/

/-- Dependents of a retired operator become ready. -/
def State.unblock (s : State) (q entry : Nat) : State :=
  (s.opsOf q).foldl (fun s o =>
    if o.preds.contains entry && s.unblocked o then
      o.parts.foldl (fun s p => match p.phase with
        | .admitted i => if (s.sbAt p.core i).state = 1 then s.setSb p.core i { s.sbAt p.core i with state := 2 } else s
        | _ => s) s
    else s) s

/-- When the lead knows every part to have retired, the operator has retired: its digest record is formed, its dependents
are unblocked, a halting queue may halt. -/
def State.retireCheck (s : State) (q entry : Nat) : State :=
  match s.op? q entry with
  | some o =>
    if o.parts.all (fun p => decide (p.phase = .reported)) then
      let s1 := { s with
        sched := { s.sched with ops := s.sched.ops.filter (fun p => !(p.queue == q && p.entry == entry)) }
        safety := if o.digested then { s.safety with forming := s.safety.forming ++ [o.record] } else s.safety }
      (s1.unblock q entry).haltCheck q
    else s
  | none => s

/-- A part retires: its entry is free in the same token, and no entry of the core depends on it. -/
def State.retirePart (s : State) (o : Op) (core idx : Nat) : State :=
  let p := (o.part? core).getD { core := core, phase := .sent }
  let ph : PartPhase := if core = o.lead / 4 then .reported else .retired
  let s0 := (s.setSb core idx {}).setOp (o.setPart { p with phase := ph })
  let s1 := if core = o.lead / 4 then s0
    else { s0 with sched := { s0.sched with reports := s0.sched.reports ++ [(core, o.queue, o.entry)] } }
  let clear := fun (e : SbEntry) =>
    { e with dep0 := if e.dep0 = some idx then none else e.dep0, dep1 := if e.dep1 = some idx then none else e.dep1 }
  let s2 := { s1 with sched := { s1.sched with
    sb := s1.sched.sb.rewrite {} (fun i e => if i / 64 = core then clear e else e) } }
  s2.retireCheck o.queue o.entry

/-- OPERATOR_RETIRE (R163). -/
def execOperatorRetire (core : Fin 64) (idx : Fin 64) (s : State) : Host.Outcome State Fault Refusal :=
  let e := s.sbAt core idx
  match s.mainUp && e.valid, s.op? e.queue e.entry with
  | true, some o =>
    match o.part? core with
    | some p => if p.finished && decide (p.phase = .admitted idx) then done (s.retirePart o core idx) else done s
    | none => done s
  | _, _ => done s

/-- The core of the lead that a report goes to. -/
def State.reportTo (s : State) (r : Nat × Nat × Nat) : Nat := qLead (s.qdt r.2.1) / 4

/-- A report is the oldest on its way from its core to its lead's core: reports between two cores arrive in order (R179). -/
def State.reportNext (s : State) (r : Nat × Nat × Nat) : Bool :=
  s.sched.reports.find? (fun x => x.1 == r.1 && s.reportTo x == s.reportTo r) == some r

/-- RETIREMENT_REPORT (R162): a follower's retirement reaches the lead. -/
def execRetirementReport (core : Fin 64) (q : BitVec 8) (entry : Nat) (s : State) : Host.Outcome State Fault Refusal :=
  let r := (core.val, q.toNat, entry)
  match s.mainUp && s.reportNext r && s.routeOpen (coreNode core) (coreNode (s.reportTo r)), s.op? q.toNat entry with
  | true, some o =>
    match o.part? core with
    | some p =>
      let s1 := { s with sched := { s.sched with reports := s.sched.reports.erase r } }
      done ((s1.setOp (o.setPart { p with phase := .reported })).retireCheck q.toNat entry)
    | none => done s
  | _, _ => done s

/-! ### The watchdog (R183, R465) -/

/-- SAF_FTI.fti_ms, 10 to 100. -/
def State.fti (s : State) : Nat := min (max (s.fld Reg.SAF_FTI 6 0) 10) 100

/-- The watchdog's limit in µs; 0 when it is disabled. -/
def State.wdogLimit (s : State) : Nat :=
  let l := s.fld Reg.SCH_WDOG 15 0
  if l ≠ 0 ∧ s.fti * 1000 ≤ l + 20 then (s.fti - 1) * 1000 - 20 else l

/-- What a scan makes of one entry: the time for which its state and rows have stood unchanged. -/
def SbEntry.scan (e : SbEntry) : SbEntry :=
  if e.valid && decide (2 ≤ e.state ∧ e.state ≤ 4) then
    if e.seen = some (e.state, e.rowsDone) then { e with stuckUs := e.stuckUs + 20 }
    else { e with seen := some (e.state, e.rowsDone), stuckUs := 0 }
  else { e with seen := none, stuckUs := 0 }

/-- Queues and entries that the watchdog faults, by the package context of the lead; one entry to a queue. -/
def State.wdogHits (s : State) : List (Nat × Nat) :=
  let l := s.wdogLimit
  let hits := s.sched.sb.filter (fun e => l != 0 && e.2.valid && decide (l ≤ e.2.stuckUs))
  let byLead := (List.range 256).flatMap (fun k => hits.filter (fun e => qLead (s.qdt e.2.queue) == k))
  (byLead.map (fun e => (e.2.queue, e.2.entry))).foldl
    (fun acc h => if acc.any (fun a => a.1 == h.1) then acc else acc ++ [h]) []

/-- WATCHDOG_SCAN: every scoreboard entry of the package, once every 20 µs. -/
def execWatchdogScan (s : State) : Host.Outcome State Fault Refusal :=
  if s.mainUp then
    let s1 := { s with sched := { s.sched with sb := s.sched.sb.rewrite {} (fun _ e => e.scan) } }
    done (s1.wdogHits.foldl (fun s h => (s.faultQueue h.1 2 0 none h.2).raise { src := 0x06, queue := some h.1 }) s1)
  else done s

/-! ### Registers (R191 to R198) -/

/-- A scoreboard entry in the layout of R160. -/
def SbEntry.bits (e : SbEntry) : Nat :=
  let dep := fun (d : Option Nat) => match d with | some i => i + 64 | none => 0
  b2n e.valid + e.ctx * 2 + e.state * 8 + b2n e.fwd * 64 + e.engMask * 2 ^ 8 + e.units * 2 ^ 24 + dep e.dep0 * 2 ^ 32
    + dep e.dep1 * 2 ^ 39 + e.queue * 2 ^ 48 + e.entry % 2 ^ 24 * 2 ^ 56 + e.age * 2 ^ 80 + e.rowsDone * 2 ^ 96

/-- A write to SCH_SB_SEL captures the selected entry (R192). -/
def State.sbCapture (s : State) (val : Word) : State :=
  let v := (s.sbAt (wfld val 13 8) (wfld val 5 0)).bits
  (s.setReg Reg.SCH_SB_SEL (val &&& 0x3F3F#32)).setRegs (Reg.SCH_SB_DATA 0)
    ((List.range 4).map (fun i => BitVec.ofNat 32 (v / 2 ^ (32 * i))))

/-- SB_CAPTURE. -/
def execSbCapture (val : Word) (s : State) : Host.Outcome State Fault Refusal :=
  s.hAccess fun s => s.sbCapture val

/-- SCH_CTRL.clr_hw (R191). -/
def State.clrHw (s : State) : State :=
  { s with sched := { s.sched with high := (List.range 64).foldl (fun m n => SMap.put 0 m n (s.occ n)) s.sched.high } }

/-- SCH_CLR_HW. -/
def execSchClrHw (s : State) : Host.Outcome State Fault Refusal := s.hAccess fun s => s.clrHw

/-- A write to SCH_CTX_CFGk (R193). -/
def State.ctxCfgWrite (s : State) (p : Path) (k : Nat) (val : Word) : State :=
  if (s.ctx k).mode = .idle then s.setReg (Reg.SCH_CTX_CFG k) (val &&& 0x7F03#32) else s.badWrite p (Reg.SCH_CTX_CFG k)

/-- CTX_CFG_WRITE. -/
def execCtxCfgWrite (path : Path) (k : Fin 256) (val : Word) (s : State) : Host.Outcome State Fault Refusal :=
  s.hAccess fun s => s.ctxCfgWrite path k val

/-- The state code of R155. -/
def modeCode : CtxMode → Nat
  | .idle => 0
  | .ready => 1
  | .issuing => 2
  | .waiting => 3
  | .following => 4
  | .halted => 5
  | .faulted => 6

/-- SCH_CTX_STATEk (R194). -/
def State.ctxState (s : State) (k : Nat) : Nat :=
  let c := s.ctx k
  modeCode c.mode + b2n c.lead * 8 + b2n c.haltPend * 16 + c.queue * 256 + s.used k * 65536

/-- SCH_OCCn (R198). -/
def State.occReg (s : State) (n : Nat) : Nat := s.occ n + s.sched.high.look 0 n * 256

end Sys2Proof.Machine
end

