-- ==== Sys2Proof/Machine/Monitor.lean ====
section
/-! DEFINITION. The safety monitor: faults, the reaction to them, Doubles, golden digests, background BIST, the recovery
sequence with its substitutions, full die reset and the test registers (R462 to R499). -/

namespace Sys2Proof.Machine

/-! ### Places and the maps of R181 -/

def uDie (u : Nat) : Nat := fld u 0 0
def uCluster (u : Nat) : Nat := uDie u * 8 + fld u 3 1
def uCore (u : Nat) : Nat := fld u 6 4
def uEng (u : Nat) : Nat := fld u 11 7

/-- The place of an engine, or with 0x1F of the core outside its engines. -/
def placeOf (cluster pcore peng : Nat) : Nat := cluster / 8 + cluster % 8 * 2 + pcore * 16 + peng * 128

/-- The logical core that a unit's physical core serves; none for an unused spare core or a core out of service. -/
def State.coreAt (s : State) (u : Nat) : Option Nat :=
  ((List.range 4).map (fun i => 4 * uCluster u + i)).find? (fun n => s.physCore n == uCore u)

/-- The logical engine that a physical engine serves. -/
def State.engAt (s : State) (u : Nat) : Option Nat :=
  match s.coreAt u with
  | some n => ((List.range 16).find? (fun j => s.physEng n j == uEng u)).map (fun j => 16 * n + j)
  | none => none

/-- The unit serves no logical unit: an unused spare, or a unit out of service. -/
def State.idleUnit (s : State) (u : Nat) : Bool :=
  match s.coreAt u with
  | none => true
  | some _ => uEng u != 0x1F && (s.engAt u).isNone

/-- The unused spare that a unit is or belongs to: the spare engine of a core in service, or the spare core of a cluster. -/
def State.spareOf? (s : State) (u : Nat) : Option Nat :=
  match s.coreAt u with
  | some n => if uEng u = 16 && !s.bit (Reg.SCH_ENG_SUB n) 4 then some u else none
  | none => if uCore u = 4 && !s.bit (Reg.SCH_CORE_SUB (uCluster u)) 2 then some (placeOf (uCluster u) 4 0x1F) else none

/-! ### Affected queues (R464) -/

/-- Every queue that a context runs. -/
def State.liveQueues (s : State) : List Nat := (List.range 256).filter s.bound

/-- The digested queues. -/
def State.digQueues (s : State) : List Nat := (List.range 256).filter s.digQueue

/-- The queues whose group contains the logical core that a unit serves. An engine takes its core's queues with it, a
group being made of whole cores (R20). -/
def State.queuesOn (s : State) (u : Nat) : List Nat :=
  if s.idleUnit u then []
  else match s.coreAt u with
    | some n => s.liveQueues.filter (fun q => (groupCores (qGroup (s.qdt q))).contains n)
    | none => []

/-- SAF_DBL_CFG.fallback in force. -/
def State.fallbackOn (s : State) : Bool := s.safety.dblCfg.getLsbD 9

/-- The queues that a fault affects. -/
def State.affected (s : State) (f : FaultReport) : List Nat :=
  if f.src = 0x0F ∨ f.src = 0x0E then []
  else if f.src = 0x0A then (if s.fallbackOn then [] else s.digQueues)
  else if f.src = 0x08 then s.digQueues
  else match f.queue, f.unit with
    | some q, _ => [q]
    | none, some u => s.queuesOn u
    | none, none => if f.src = 0x07 ∨ f.src = 0x09 then s.digQueues else s.liveQueues

/-- Stop the affected queues: those it stopped, and the queue of a watchdog fault, which has stopped under R184. -/
def State.stopAffected (s : State) (f : FaultReport) : State × List Nat :=
  if s.bit Reg.SAF_CTRL 6 then
    let qs := (s.affected f).filter (fun q => s.bound q &&
      (decide (f.src = 0x06) || (s.ctx (qLead (s.qdt q))).mode != .faulted))
    (qs.foldl (fun s q => if (s.ctx (qLead (s.qdt q))).mode = .faulted then s else s.stopQueue q (fun _ _ _ => false)) s, qs)
  else (s, [])

/-- Set the queues' bits of SAF_REC_QMASKj, with those set before or alone. -/
def State.recMask (s : State) (qs : List Nat) (union : Bool) : State :=
  let s1 := if union then s else (List.range 8).foldl (fun s j => s.setNat (Reg.SAF_REC_QMASK j) 0) s
  qs.foldl (fun s q => s.setBit (Reg.SAF_REC_QMASK (q / 32)) (q % 32) true) s1

/-! ### The recovery state (R484, R499) -/

def State.recState (s : State) : Nat := s.fld Reg.SAF_REC_STATUS 2 0

/-- Set SAF_REC_STATUS.state and class. -/
def State.setRec (s : State) (st cls : Nat) : State := s.setNat Reg.SAF_REC_STATUS (st + cls * 8)

/-- Faults whose action in R490 is a full die reset. -/
def State.needsDieReset (s : State) (f : FaultReport) : Bool :=
  decide (f.src = 0x03) || decide (f.src = 0x04) || (decide (f.src = 0x02) && f.unit.isNone)
    || (decide (f.src = 0x0A) && !s.fallbackOn)

/-- The units of a queue's group: its engines in service, and its cores outside their engines. -/
def State.groupUnits (s : State) (q : Nat) : List Nat :=
  (groupCores (qGroup (s.qdt q))).flatMap (fun n =>
    (List.range 16).map (fun j => s.place n (s.physEng n j)) ++ [s.place n 0x1F])

/-- Members of a list not yet in another. -/
def addNew (xs ys : List Nat) : List Nat := ys.foldl (fun acc y => if acc.contains y then acc else acc ++ [y]) xs

/-- The located or suspect units of a fault (R484, R490). A mismatch or timeout of a frame record (0x07, 0x09) makes the units
of every digested queue suspect; a background BIST failure of a unit that serves nothing starts no sequence (R482, R490). -/
def State.suspectsOf (s : State) (f : FaultReport) : List Nat :=
  if f.src = 0x08 ∨ f.src = 0x0F then []
  else match f.unit, f.queue with
    | some u, _ => if f.src = 0x0D ∧ s.idleUnit u = true then [] else [u]
    | none, some q => s.groupUnits q
    | none, none =>
      if f.src = 0x07 ∨ f.src = 0x09 then addNew [] ((s.digQueues.filter s.bound).flatMap s.groupUnits) else []

/-- What a fault does to the recovery sequence: a full die reset is required, the sequence starts or starts again, the queues
stopping first, or nothing. -/
def State.recover (s : State) (f : FaultReport) : State :=
  let us := s.suspectsOf f
  if s.needsDieReset f then s.setRec 5 4
  else if us.isEmpty || !s.bit Reg.SAF_CTRL 5 || s.recState == 5 then s
  else
    let restart := decide (1 ≤ s.recState ∧ s.recState ≤ 3)
    let declared := if f.src = 0x0D ∨ f.src = 0x02 then us else []
    { s.setRec 1 0 with safety := { s.safety with
      suspects := addNew (if restart then s.safety.suspects else []) us
      failedUnits := addNew (if restart then s.safety.failedUnits else []) declared } }

/-- The affected queues have stopped: diagnostic BIST begins (R484 step 2, R499). -/
def State.queuesStopped (s : State) : State :=
  if s.mainUp && s.recState == 1 then s.setFld Reg.SAF_REC_STATUS 2 0 2 else s

/-- A link that fails again after a full die reset is permanent: the die behind it is marked and its cores are held
(R489). -/
def State.linkGone (s : State) (f : FaultReport) : State :=
  match f.src, f.link with
  | 0x03, some i =>
    if s.safety.linkFails.contains i then
      let d := if i = 0 then 0 else 1
      let s1 := s.setBit Reg.SAF_SPARE_STAT (12 + d) true
      { s1 with safety := { s1.safety with heldCores := addNew s1.safety.heldCores ((List.range 32).map (fun n => 32 * d + n)) } }
    else s
  | _, _ => s

/-- The tile's copy of the substitution state is brought up to date in the same token (R186). -/
def State.copySubs (s : State) : State :=
  let regs := (List.range 64).map Reg.SCH_ENG_SUB ++ (List.range 16).map Reg.SCH_CORE_SUB ++ [Reg.SAF_SPARE_STAT]
  { s with subCopy :=
    { maps := regs.foldl (fun m a => SMap.put 0#32 m a (s.reg a)) []
      failedSpares := s.safety.failedSpares, heldCores := s.safety.heldCores } }

/-! ### The monitor (R462) -/

/-- SAF_FAULT_LOC (R497). -/
def FaultReport.loc (f : FaultReport) : Nat :=
  (match f.unit with | some u => u % 4096 + 2 ^ 12 | none => 0)
    + (match f.queue with | some q => q % 256 * 2 ^ 13 + 2 ^ 21 | none => 0)
    + (match f.link with | some i => i % 4 * 2 ^ 22 + 2 ^ 24 | none => 0)

/-- Record a fault in SAF_FAULT, SAF_FAULT_LOC and SAF_FAULT_TIME. -/
def State.recordFault (s : State) (f : FaultReport) : State :=
  ((s.setNat Reg.SAF_FAULT (s.fld Reg.SAF_FAULT 1 0 + f.src * 256)).setNat Reg.SAF_FAULT_LOC f.loc).setReg64
    Reg.SAF_FAULT_TIME_LO s.now

/-- The report with the lowest source code. -/
def lowestSrc (f : FaultReport) (fs : List FaultReport) : FaultReport := fs.foldl (fun a b => if b.src < a.src then b else a) f

/-- The reaction to one fault: its queues stop, the recovery sequence follows. `first`: it is the recorded fault. -/
def State.react (s : State) (first : Bool) (f : FaultReport) : State :=
  let idle := s.recState == 0
  let p := s.stopAffected f
  let s1 := (p.1.linkGone f).recover f
  if s1.recState = 0 then (if first then s1.recMask p.2 false else s1).copySubs
  else (s1.recMask p.2 (!idle)).copySubs

/-- The faults that reach the monitor in one cycle: recorded, counted, acted on. -/
def State.monitorTake (s : State) (f : FaultReport) (fs : List FaultReport) : State :=
  let low := lowestSrc f fs
  let fresh := !s.bit Reg.SAF_FAULT 0
  let s1 := s.incSat Reg.SAF_FAULT_CNT (1 + fs.length)
  let s2 := if fresh then (s1.setBit Reg.SAF_FAULT 0 true).recordFault low else s1
  let s3 := if fresh && fs.isEmpty then s2 else s2.setBit Reg.SAF_FAULT 1 true
  (f :: fs).foldl (fun s g => s.react (fresh && g == low) g) s3

/-- DANGEROUS_FAULT (R462): the oldest presented fault reaches the monitor, with the `extra` faults that reach it in the
same cycle. -/
def execDangerousFault (extra : Nat) (s : State) : Host.Outcome State Fault Refusal :=
  match s.mainUp, s.safety.inbox with
  | true, f :: t =>
    done ({ s with safety := { s.safety with inbox := t.drop extra } }.monitorTake f (t.take extra))
  | _, _ => done s

/-- OVER_TEMPERATURE (R466): a sensor reads at least 125 °C. -/
def execOverTemperature (s : State) : Host.Outcome State Fault Refusal :=
  done (if s.mainUp then s.raise { src := 0x0E } else s)

/-! ### Doubles (R472 to R476) -/

/-- SAF_DBL_CFG.timeout_ms in force (R465, R498). -/
def State.dblTimeout (s : State) : Nat :=
  let t := max 1 (wfld s.safety.dblCfg 6 0)
  if s.fti ≤ t then s.fti - 1 else t

/-- Record the key of a mismatch or timeout, unless one is recorded or awaits its record. -/
def State.dblKey (s : State) (r : DigestRec) : State :=
  let dbl := fun (n : Nat) => decide (7 ≤ n ∧ n ≤ 9)
  if (s.bit Reg.SAF_FAULT 0 && dbl (s.fld Reg.SAF_FAULT 15 8)) || s.safety.inbox.any (fun f => dbl f.src) then s
  else s.setReg64 Reg.SAF_DBL_KEY_LO (r.index + r.id * 2 ^ 48 + r.kind * 2 ^ 56)

/-- Raise a Doubles fault about a key. -/
def State.dblFault (s : State) (src : Nat) (r : DigestRec) : State :=
  (s.dblKey r).raise { src := src, queue := if r.kind = 0 then some r.id else none }

/-- Put a record into the match table. -/
def State.tablePut (s : State) (r : DigestRec) (peer : Bool) : State :=
  s.saf fun x => { x with table := x.table ++ [{ dig := r, peer := peer }] }

/-- Place a record in the match table: a key twice from one side is a mismatch; two records of a key are compared. -/
def State.matchPut (s : State) (r : DigestRec) (peer : Bool) : State :=
  if s.safety.table.any (fun m => m.peer == peer && m.dig.sameKey r) then s.dblFault 0x07 r
  else match s.safety.table.find? (fun m => m.peer != peer && m.dig.sameKey r) with
    | some m =>
      if m.dig.agrees r then
        (s.setNat Reg.SAF_DBL_MATCH ((s.reg Reg.SAF_DBL_MATCH).toNat + 1)).saf fun x =>
          { x with table := x.table.filter (fun y => y != m) }
      else (s.tablePut r peer).dblFault (if r.kind = 0 then 0x07 else 0x08) r
    | none => s.tablePut r peer

/-- An armed TST_DIG inverts bit 0 of d (R492). -/
def State.tstDig (s : State) (r : DigestRec) : State × DigestRec :=
  if s.bit Reg.TST_DIG 31 then (s.setBit Reg.TST_DIG 31 false, { r with d := r.d ^^^ 1 }) else (s, r)

/-- A ready record goes to the golden check when that is enabled, and in Doubles to the peer and the match table. -/
def State.recordReady (s : State) (r : DigestRec) : State :=
  let s1 := if s.bit Reg.SAF_CTRL 3 && r.kind == 0 then s.saf fun x => { x with golden := x.golden ++ [r] } else s
  if s1.inDoubles then
    (if s1.modeAct = 2 then s1.saf fun x => { x with sent := x.sent ++ [r] } else s1).matchPut r false
  else s1

/-- DIGEST_RECORD_READY (R471, R473, R480, R492): the oldest local record is ready. -/
def execDigestRecordReady (s : State) : Host.Outcome State Fault Refusal :=
  match s.mainUp, s.safety.forming with
  | true, r :: t =>
    let p := (s.saf fun x => { x with forming := t }).tstDig r
    done (p.1.recordReady p.2)
  | _, _ => done s

/-- PEER_RECORD_RECEIVE (R473): a record of the peer arrives over the pair link. -/
def execPeerRecordReceive (d : BitVec 64) (index : BitVec 48) (id : BitVec 8) (kind sat : Bool) (rows : BitVec 24) (s : State) :
    Host.Outcome State Fault Refusal :=
  if s.mainUp && s.modeAct == 2 then
    done ({ s with safety := { s.safety with peerSeen := true } }.matchPut
      { d := d.toNat, index := index.toNat, id := id.toNat, kind := b2n kind, sat := sat, rows := rows.toNat } true)
  else done s

/-- MATCH_TABLE_SCAN (R473): every 100 µs; a record unmatched for timeout_ms is a fault. -/
def execMatchTableScan (s : State) : Host.Outcome State Fault Refusal :=
  if s.mainUp && s.modeAct == 2 then
    let old := fun (m : MatchEntry) => decide (10 * s.dblTimeout ≤ m.scans + 1)
    let table := s.safety.table.map (fun m => { m with scans := m.scans + 1, late := m.late || old m })
    let late := s.safety.table.filter (fun m => old m && !m.late)
    done (late.foldl (fun s m => s.dblFault 0x09 m.dig) { s with safety := { s.safety with table := table } })
  else done s

/-- A setting of R465 or R495 that acts clamped sets cfg_err. -/
def State.cfgCheck (s : State) : State :=
  let f := s.fld Reg.SAF_FTI 6 0
  let bad := decide (f < 10 ∨ 100 < f) || decide (s.fti ≤ max 1 (wfld s.safety.dblCfg 6 0))
    || decide (s.fti * 1000 ≤ s.fld Reg.SCH_WDOG 15 0 + 20)
  if bad then s.setBit Reg.SAF_STATUS 1 true else s

/-- A write to SAF_CTRL (R472, R496, R498): the match table is emptied, the settings of SAF_DBL_CFG take effect, and a
fall-back ends. -/
def State.modeWrite (s : State) (val : Word) : State :=
  let bad := wfld val 1 0 == 3
  let v := if bad then val &&& 0x7C#32 else val &&& 0x7F#32
  let s1 := ((if bad then s.setBit Reg.SAF_STATUS 1 true else s).setReg Reg.SAF_CTRL v).setBit Reg.SAF_STATUS 4 false
  { s1 with safety := { s1.safety with table := [], peerSeen := false, dblCfg := s1.reg Reg.SAF_DBL_CFG } }.cfgCheck

/-- SAF_MODE_WRITE. -/
def execSafModeWrite (val : Word) (s : State) : Host.Outcome State Fault Refusal :=
  s.hWrite Reg.SAF_CTRL fun s => s.modeWrite val

/-! ### Golden digests (R480) -/

/-- Count a golden check skipped. -/
def State.goldSkip (s : State) : State := s.incFld Reg.SAF_GOLD_CNT 31 16 1

/-- The record that 32 bytes of memory hold (R470). -/
def recOf (g : Nat) : DigestRec :=
  { d := fld g 63 0, index := fld g 111 64, id := fld g 119 112, kind := fld g 120 120, sat := g.testBit 121, rows := fld g 151 128 }

/-- Address of the golden record of an entry index. -/
def State.goldAddr (s : State) (index : Nat) : Nat :=
  s.reg64 Reg.SAF_GOLD_BASE_LO / 32 * 32 + 32 * (index % 2 ^ min (s.fld Reg.SAF_GOLD_CFG 4 0) 20)

/-- Compare a local record with its golden record, or capture it. -/
def State.goldCheck (s : State) (r : DigestRec) : State :=
  let a := s.goldAddr r.index
  let capture := s.bit Reg.SAF_GOLD_CFG 8
  match s.rangeFault a 32 with
  | some f => (s.addrFault 1 capture f.2 f.1 0).goldSkip
  | none =>
    if capture then s.store a (toBytes 32 r.bits)
    else
      let s1 := s.eccRead a 32
      let g := s1.readNat a 32
      if (recOf g).sameKey r then
        let s2 := s1.incFld Reg.SAF_GOLD_CNT 15 0 1
        if (recOf g).agrees r then s2
        else s2.raise { src := 0x0C, queue := some r.id }
      else s1.goldSkip

/-- GOLDEN_CHECK. -/
def execGoldenCheck (s : State) : Host.Outcome State Fault Refusal :=
  match s.mainUp, s.safety.golden with
  | true, r :: t =>
    if s.reaches .hdie [(s.goldAddr r.index, 32)] then done ({ s with safety := { s.safety with golden := t } }.goldCheck r)
    else done s
  | _, _ => done s

/-! ### Background BIST (R481, R482) -/

/-- A unit that exists: an engine of a physical core, or with 0x1F the core memory of an unused spare core. -/
def State.bistUnit (s : State) (u : Nat) : Bool :=
  decide (uCore u ≤ 4) && (decide (uEng u ≤ 16) || (decide (uEng u = 0x1F) && (s.coreAt u).isNone))

/-- No row of an engine runs or is pending. -/
def State.bistIdle (s : State) (u : Nat) : Bool :=
  match s.engAt u with
  | some e => (s.eng e).run.isNone && (s.eng e).half0.owner.isNone && (s.eng e).half1.owner.isNone
  | none => true

/-- A unit that fails and is or belongs to an unused spare spoils it: the spare is marked failed and counted (R482, R483,
R499). -/
def State.spareFail (s : State) (u : Nat) : State :=
  match s.spareOf? u with
  | some x =>
    if s.safety.failedSpares.contains x then s
    else
      let s1 := { s with safety := { s.safety with failedSpares := s.safety.failedSpares ++ [x] } }
      (if uEng x = 16 then s1.incFld Reg.SAF_SPARE_STAT 6 0 1 else s1.incFld Reg.SAF_SPARE_STAT 11 7 1).copySubs
  | none => s

/-- BIST_SLICE (R481, R482): a slice of an idle unit's test completes. `last`: with it the unit has completed its test;
`fail`: the test fails. -/
def execBistSlice (u : BitVec 12) (last fail : Bool) (s : State) : Host.Outcome State Fault Refusal :=
  let n := u.toNat
  if s.mainUp && s.power.state != .hold && s.bit Reg.SAF_CTRL 4 && s.bistUnit n && s.bistIdle n then
    let s1 := if last && uEng n ≤ 16 then { s with safety := { s.safety with bistDone := addNew s.safety.bistDone [n] } } else s
    if fail then
      done ((s1.raise { src := 0x0D, unit := some n }).spareFail n)
    else done s1
  else done s

/-- Every physical engine of the package. -/
def allEngines : List Nat :=
  (List.range 16).flatMap (fun c => (List.range 5).flatMap (fun p => (List.range 17).map (fun e => placeOf c p e)))

/-- BIST_PERIOD_END (R482): the engines that completed no test in the period are starved. -/
def execBistPeriodEnd (s : State) : Host.Outcome State Fault Refusal :=
  if s.mainUp && s.bit Reg.SAF_CTRL 4 then
    let starved := (allEngines.filter (fun u => !s.safety.bistDone.contains u)).length
    let s1 := s.setNat Reg.SAF_BIST_STAT ((s.fld Reg.SAF_BIST_STAT 7 0 + 1) % 256 + min starved 255 * 256)
    done { s1 with safety := { s1.safety with bistDone := [] } }
  else done s

/-! ### Substitution (R483 to R487) -/

/-- Put zeros with valid check bits into a unit's memories; a stop on a credit error of its own ends (R247). -/
def State.clearUnit (s : State) (u : Nat) : State :=
  let mine := fun (e : EccError) => decide (e.arr.level ≠ 4) && e.arr.die == uDie u && e.arr.cluster == uCluster u % 8
    && e.arr.pcore == uCore u && (if uEng u = 0x1F then e.arr.level == 3 else e.arr.level != 3 && e.arr.peng == uEng u)
  let s1 := { s with links := { s.links with
    errors := s.links.errors.filter (fun e => !mine e), writebacks := s.links.writebacks.filter (fun e => !mine e)
    stopped := s.links.stopped.filter (fun c => creditUnit c != some u) } }
  if uEng u = 0x1F then
    match s1.coreAt u with
    | some n =>
      let lo := 0x10000000 + n * 0x80000
      { s1 with mem := s1.mem.filter (fun c => !(decide (lo ≤ c.1) && decide (c.1 < lo + 0x80000))) }
    | none => s1
  else match s1.engAt u with
    | some e => s1.setEng e {}
    | none => s1

/-- The spare engine of the physical core that serves core `n` is free. -/
def State.spareEngFree (s : State) (n : Nat) : Bool :=
  !s.bit (Reg.SCH_ENG_SUB n) 4 && !s.safety.failedSpares.contains (s.place n 16)

/-- The spare core of cluster `m` is free. -/
def State.spareCoreFree (s : State) (m : Nat) : Bool :=
  !s.bit (Reg.SCH_CORE_SUB m) 2 && !s.safety.failedSpares.contains (placeOf m 4 0x1F)

/-- Replace a logical engine by the spare engine of its core. -/
def State.subEngine (s : State) (n j : Nat) : State :=
  let s1 := s.setNat (Reg.SCH_ENG_SUB n) (j + 16 + s.physCore n * 256)
  { s1.incFld Reg.SAF_SPARE_STAT 6 0 1 with
    safety := { s1.safety with substitutes := addNew s1.safety.substitutes [s1.place n 16] } }

/-- Replace a logical core by the spare core of its cluster: the map comes with the substitute's own engine map. -/
def State.subCore (s : State) (n : Nat) : State :=
  let m := n / 4
  let s1 := (s.setNat (Reg.SCH_CORE_SUB m) (n % 4 + 4)).setNat (Reg.SCH_ENG_SUB n) (4 * 256)
  let us := (List.range 16).map (fun j => s1.place n j) ++ [s1.place n 0x1F]
  { s1.incFld Reg.SAF_SPARE_STAT 11 7 1 with safety := { s1.safety with substitutes := addNew s1.safety.substitutes us } }

/-- No spare is left: the logical core is held in reset and its die is marked. -/
def State.holdCore (s : State) (n : Nat) : State :=
  { s.setBit Reg.SAF_SPARE_STAT (12 + n / 32) true with
    safety := { s.safety with heldCores := addNew s.safety.heldCores [n] } }

/-- Replace a failed unit under the order of R485, with the class of R499 that this gives. -/
def State.substitute (s : State) (cls u : Nat) : State × Nat :=
  match s.coreAt u with
  | none => (s.spareFail u, cls)
  | some n =>
    if s.safety.heldCores.contains n then (s, cls)
    else
      let whole := if s.spareCoreFree (n / 4) then (s.subCore n, max cls 2) else (s.holdCore n, max cls 5)
      if uEng u = 0x1F then whole
      else match s.engAt u with
        | some e => if s.spareEngFree n then (s.subEngine n (e % 16), max cls 1) else whole
        | none => (s.spareFail u, cls)

/-- The end of diagnostic BIST: every suspect unit's memories are clear, the failed units are replaced; with none the fault
was transient. The units stay suspect until the state is ready, for a fault that restarts the sequence (R484). -/
def State.diagnosed (s : State) (fails : List Nat) : State :=
  let failed := addNew s.safety.failedUnits (fails.filter s.safety.suspects.contains)
  let s1 := s.safety.suspects.foldl (fun s u => s.clearUnit u) s
  let s2 := { s1 with safety := { s1.safety with substitutes := [], failedUnits := [] } }
  if failed.isEmpty then s2.setRec 2 3
  else
    let p := failed.foldl (fun (a : State × Nat) u => a.1.substitute a.2 u) (s2, 0)
    let s3 := if p.2 = 5 then p.1.setRec 5 5 else if p.2 = 0 then p.1.setRec 2 3 else p.1.setRec 3 p.2
    s3.copySubs

/-- DIAGNOSTIC_BIST_DONE (R484 steps 2 and 3). `fails`: the suspect units that fail. -/
def execDiagnosticBistDone (fails : List (BitVec 12)) (s : State) : Host.Outcome State Fault Refusal :=
  if s.mainUp && decide (1 ≤ s.recState ∧ s.recState ≤ 2) && s.fld Reg.SAF_REC_STATUS 5 3 == 0 then
    done (s.diagnosed (fails.map BitVec.toNat))
  else done s

/-- RECOVERY_READY (R484 steps 4 and 5): the substitutes' memories are zero, the match table is empty (R472), and the
state is ready. -/
def execRecoveryReady (s : State) : Host.Outcome State Fault Refusal :=
  if s.mainUp && decide (2 ≤ s.recState ∧ s.recState ≤ 3) && s.fld Reg.SAF_REC_STATUS 5 3 != 0 then
    let s1 := s.safety.substitutes.foldl (fun s u => s.clearUnit u) s
    done { s1.setFld Reg.SAF_REC_STATUS 2 0 4 with safety := { s1.safety with suspects := [], substitutes := [], table := [] } }
  else done s

/-- SAF_REC_STATUS.done (R488, R499): state returns to idle; ignored unless it is ready. -/
def State.replayDone (s : State) : State := if s.recState = 4 then s.setFld Reg.SAF_REC_STATUS 2 0 0 else s

/-- REPLAY_DONE. -/
def execReplayDone (s : State) : Host.Outcome State Fault Refusal := s.hWrite Reg.SAF_REC_STATUS fun s => s.replayDone

/-! ### Full die reset (R489) -/

/-- A write to SAF_RESET. -/
def State.dieReset (s : State) (p : Path) (val : Word) : State :=
  if wfld val 15 0 ≠ 0x0D1E then s.badWrite p Reg.SAF_RESET
  else if val.getLsbD 16 then
    let bad := (List.range 3).filter (fun i => s.bit (Reg.LNK_STATUS i) 1)
    { s with safety := { s.safety with linkFails := addNew s.safety.linkFails bad } }.mainReset 2
  else s

/-- FULL_DIE_RESET. -/
def execFullDieReset (path : Path) (val : Word) (s : State) : Host.Outcome State Fault Refusal :=
  s.hWrite Reg.SAF_RESET fun s => s.dieReset path val

/-! ### The test registers (R492 to R494) -/

/-- A write to TST_KEY: 0x7E57 and then 0x0A11 from one path unlock; any other write locks. -/
def State.tstKey (s : State) (p : Path) (val : Word) : State :=
  let k := wfld val 15 0
  let open2 := decide (k = 0x0A11) && s.safety.tstFirst == some p
  { s with safety := { s.safety with tstUnlocked := open2, tstFirst := if k = 0x7E57 then some p else none } }

/-- TST_KEY_WRITE. -/
def execTstKeyWrite (path : Path) (val : Word) (s : State) : Host.Outcome State Fault Refusal :=
  s.hWrite Reg.TST_KEY fun s => s.tstKey path val

/-- A write to another TST_ register: refused while locked. -/
def State.tstWrite (s : State) (p : Path) (a : Nat) (act : State → State) : State :=
  if s.safety.tstUnlocked then act s else s.badWrite p a

/-- TST_DIG_ARM (R492): TST_DIG is written with arm = 1. -/
def execTstDigArm (path : Path) (s : State) : Host.Outcome State Fault Refusal :=
  s.hWrite Reg.TST_DIG fun s => s.tstWrite path Reg.TST_DIG (·.setNat Reg.TST_DIG (2 ^ 31))

/-- TST_FAULT (R492): go raises source 0x0F. -/
def execTstFault (path : Path) (s : State) : Host.Outcome State Fault Refusal :=
  s.hWrite Reg.TST_FAULT fun s => s.tstWrite path Reg.TST_FAULT (·.raise { src := 0x0F })

/-- TST_ECC_ARM (R494): TST_ECC is written with arm = 1. -/
def execTstEccArm (path : Path) (val : Word) (s : State) : Host.Outcome State Fault Refusal :=
  s.hWrite Reg.TST_ECC fun s => s.tstWrite path Reg.TST_ECC (·.setReg Reg.TST_ECC (val &&& 0xFFFF#32 ||| 0x80000000#32))

/-- TST_STATUS. -/
def State.tstStatus (s : State) : Nat :=
  let on := [Reg.TST_LNK, Reg.TST_BP, Reg.TST_ECC, Reg.TST_ENG, Reg.TST_DIG].any (fun a => s.bit a 31)
  b2n s.safety.tstUnlocked + b2n on * 2

/-! ### Registers computed on read (R495, R496) -/

/-- SAF_STATUS: cfg_err and fallback are held, the rest is computed. -/
def State.safStatus (s : State) : Nat :=
  b2n s.faultLow + b2n (s.bit Reg.SAF_STATUS 1) * 2 + s.modeAct * 4 + b2n (s.bit Reg.SAF_STATUS 4) * 16

/-- SAF_DBL_STATUS. -/
def State.dblStatus (s : State) : Nat :=
  s.safety.table.length + b2n s.digHold * 2 ^ 16 + b2n s.safety.peerSeen * 2 ^ 17

/-- SAF_COV: cores that have no checker. -/
def State.coverage (s : State) : Nat := flagsNat ((List.range 64).map (fun n => s.bit (Reg.SCH_ENG_SUB n) 4))

end Sys2Proof.Machine
end

