-- ==== Sys2Proof/Machine/Thermocouple.lean ====
section
/-! DEFINITION. The thermocouple reference functions of IEC 60584-1 that R350 and R351 name, and their inverse. The
coefficients are the standard's, which the manual does not print (log entry 20). -/

namespace Sys2Proof.Machine

/-! ### Coefficients

A function is a list of segments: the upper end in 0.001 °C, and the coefficients of the powers of t in °C, each a pair
(m, k) for m × 10^-k units of 10 nV. -/

/-- Type B. -/
def tcB : List (Int × List (Int × Nat)) :=
  [(630615, [(0, 0), (-24650818346, 9), (59040421171, 11), (-13257931636, 14), (15668291901, 17), (-1694452924, 19),
      (62990347094, 24)]),
    (1820000, [(-38938168621, 5), (2857174747, 6), (-84885104785, 10), (15785280164, 12), (-16835344864, 15), (11109794013, 18),
      (-44515431033, 22), (98975640821, 26), (-93791330289, 30)])]

/-- Type E. -/
def tcE : List (Int × List (Int × Nat)) :=
  [(0, [(0, 0), (58665508708, 7), (45410977124, 10), (-77998048686, 12), (-25800160843, 13), (-59452583057, 15),
      (-93214058667, 17), (-10287605534, 18), (-80370123621, 21), (-43979497391, 23), (-16414776355, 25),
      (-39673619516, 28), (-55827328721, 31), (-34657842013, 34)]),
    (1000000, [(0, 0), (5866550871, 6), (45032275582, 10), (28908407212, 13), (-33056896652, 15), (6502440327, 17),
      (-19197495504, 21), (-12536600497, 23), (21489217569, 26), (-14388041782, 29), (35960899481, 33)])]

/-- Type J. -/
def tcJ : List (Int × List (Int × Nat)) :=
  [(760000, [(0, 0), (50381187815, 7), (3047583693, 9), (-8568106572, 12), (13228195295, 15), (-17052958337, 18),
      (20948090697, 21), (-12538395336, 24), (15631725697, 28)]),
    (1200000, [(29645625681, 3), (-14976127786, 5), (31787103924, 8), (-31847686701, 11), (15720819004, 14), (-30691369056, 18)])]

/-- Type K. -/
def tcK : List (Int × List (Int × Nat)) :=
  [(0, [(0, 0), (39450128025, 7), (23622373598, 10), (-32858906784, 12), (-49904828777, 14), (-67509059173, 16),
      (-57410327428, 18), (-31088872894, 20), (-10451609365, 22), (-19889266878, 25), (-16322697486, 28)]),
    (1372000, [(-17600413686, 7), (38921204975, 7), (18558770032, 10), (-99457592874, 13), (31840945719, 15),
      (-56072844889, 18), (56075059059, 21), (-32020720003, 24), (97151147152, 28), (-12104721275, 31)])]

/-- Type N. -/
def tcN : List (Int × List (Int × Nat)) :=
  [(0, [(0, 0), (26159105962, 7), (10957484228, 10), (-93841111554, 13), (-46412039759, 16), (-26303357716, 17),
      (-22653438003, 19), (-76089300791, 22), (-93419667835, 25)]),
    (1300000, [(0, 0), (25929394601, 7), (1571014188, 9), (43825627237, 13), (-25261169794, 15), (64311819339, 18),
      (-10063471519, 20), (99745338992, 24), (-60863245607, 27), (20849229339, 30), (-30682196151, 34)])]

/-- Type R. -/
def tcR : List (Int × List (Int × Nat)) :=
  [(1064180, [(0, 0), (528961729765, 9), (139166589782, 11), (-238855693017, 14), (356916001063, 17), (-462347666298, 20),
      (500777441034, 23), (-373105886191, 26), (157716482367, 29), (-281038625251, 33)]),
    (1664500, [(295157925316, 6), (-252061251332, 9), (159564501865, 11), (-764085947576, 15), (205305291024, 18),
      (-293359668173, 22)]),
    (1768100, [(152232118209, 4), (-268819888545, 7), (171280280471, 10), (-345895706453, 14), (-934633971046, 21)])]

/-- Type S. -/
def tcS : List (Int × List (Int × Nat)) :=
  [(1064180, [(0, 0), (540313308631, 9), (12593428974, 10), (-232477968689, 14), (322028823036, 17), (-331465196389, 20),
      (255744251786, 23), (-125068871393, 26), (271443176145, 30)]),
    (1664500, [(132900444085, 6), (334509311344, 9), (654805192818, 12), (-164856259209, 15), (129989605174, 20)]),
    (1768100, [(146628232636, 4), (-258430516752, 7), (163693574641, 10), (-330439046987, 14), (-943223690612, 21)])]

/-- Type T. -/
def tcT : List (Int × List (Int × Nat)) :=
  [(0, [(0, 0), (38748106364, 7), (44194434347, 10), (11844323105, 12), (20032973554, 13), (90138019559, 15),
      (22651156593, 16), (36071154205, 18), (38493939883, 20), (28213521925, 22), (14251594779, 24), (48768662286, 27),
      (1079553927, 28), (13945027062, 32), (79795153927, 36)]),
    (400000, [(0, 0), (38748106364, 7), (3329222788, 9), (20618243404, 12), (-21882256846, 14), (10996880928, 16),
      (-30815758772, 19), (4547913529, 21), (-27512901673, 25)])]


/-- The segments of a curve code (R350). -/
def tcSegs : Nat → List (Int × List (Int × Nat))
  | 2 => tcB
  | 3 => tcE
  | 4 => tcJ
  | 5 => tcK
  | 6 => tcN
  | 7 => tcR
  | 8 => tcS
  | _ => tcT

/-- The ranges of the thermocouple curves, in 0.001 °C. -/
def tcRange : Nat → Int × Int
  | 2 => (0, 1820000)
  | 3 => (-270000, 1000000)
  | 4 => (-210000, 1200000)
  | 5 => (-270000, 1372000)
  | 6 => (-270000, 1300000)
  | 9 => (-270000, 400000)
  | _ => (-50000, 1768100)

/-! ### The functions -/

/-- A polynomial at `h` half-thousandths of a degree, by Horner's rule over one denominator. -/
def polyAt (cs : List (Int × Nat)) (h : Int) : Q :=
  let p := cs.foldr (fun c (p : Int × Nat) => (c.1 * ((10 ^ (37 - c.2) * (2000 * p.2) : Nat) : Int) + h * p.1, 2000 * p.2)) (0, 1)
  ⟨p.1, p.2 * 10 ^ 37⟩

/-- The sum of the next terms of e^-y, in units of 10^-40, from the term before them. -/
def expTerms (y : Int) : Nat → Nat → Int → Int
  | 0, _, t => t
  | fuel + 1, n, t => t + expTerms y fuel (n + 1) (-(t * y) / (10 ^ 40 * (n : Int)))

/-- The exponential term of type K above 0 °C, a₀ × exp(a₁ × (t − a₂)²), to 10^-30 of its value at a₂: e^-x is (e^(-x/256))^256. -/
def tcBell (h : Int) : Q :=
  let w := 10 * h - 2539372
  let y := 1183432 * w * w * 10 ^ 22 / 1024
  let e := (List.range 8).foldl (fun (e : Int) _ => e * e / 10 ^ 40) (expTerms y 32 1 (10 ^ 40))
  ⟨1185976 * e, 10 ^ 42⟩

/-- The reference function E of a curve code at `h` half-thousandths of a degree, in units of 10 nV. -/
def tcAt (c : Nat) (h : Int) : Q :=
  let p := match (tcSegs c).find? fun g => decide (h ≤ 2 * g.1) with
    | some g => polyAt g.2 h
    | none => ⟨0, 1⟩
  if c = 5 ∧ 0 < h then p.add (tcBell h) else p

/-! ### Inversion of a rising curve -/

/-- The curve at `h` half-thousandths is at most `q` (below it, where t is negative: a tie rounds away from zero). -/
def curveAtMost (f : Int → Q) (h : Int) (q : Q) : Bool := if h < 0 then (f h).lt q else (f h).le q

/-- The largest value in [lo, hi] whose lower rounding boundary lies at most at `q`, by bisection. -/
def curveSearch (f : Int → Q) (q : Q) : Nat → Int → Int → Int
  | 0, lo, _ => lo
  | n + 1, lo, hi =>
    if lo = hi then lo
    else
      let m := (lo + hi + 1) / 2
      if curveAtMost f (2 * m - 1) q then curveSearch f q n m hi else curveSearch f q n lo (m - 1)

/-- A value clamped to a range, and whether it was. -/
def clampR (lo hi v : Int) : Int × Bool := (clampI lo hi v, decide (v < lo ∨ hi < v))

/-- The inverse of a curve that rises over [lo, hi], within 5 of the exact one (R350); beyond the ends it is clamped. -/
def curveInverse (c : Nat) (f : Int → Q) (lo hi : Int) (q : Q) : Int × Bool :=
  if q.lt (f (2 * lo)) then (lo, true)
  else if (f (2 * hi)).lt q then (hi, true)
  else
    let n := q.norm
    clampR lo hi (curveSearch f q 24 lo hi + clampI (-5) 5 (Config.curveErr c n.num n.den))

/-- The inverse of a thermocouple's reference function. Type B falls to its least voltage at 21.020 °C and is positive
again only above 42 °C: a voltage between that least one and 0 is that of two temperatures, and which of them the device
gives is free; one below it lies outside the curve (log entry 20). -/
def tcInverse (c : Nat) (q : Q) : Int × Bool :=
  let r := tcRange c
  if c = 2 ∧ q.le (Q.ofInt 0) then
    if q.lt (tcAt 2 42040) then (0, true) else let n := q.norm; (clampI 0 43000 (Config.tcLow n.num n.den), false)
  else if c = 2 then curveInverse 2 (tcAt 2) 42000 r.2 q
  else curveInverse c (tcAt c) r.1 r.2 q

/-- E of a reference-junction value in 0.001 °C; beyond the function's range the standard defines none and it is free. -/
def tcVolts (c : Nat) (v : Int) : Q :=
  let r := tcRange c
  if r.1 ≤ v ∧ v ≤ r.2 then tcAt c (2 * v) else ⟨Config.tcRef c v, 10 ^ 6⟩

end Sys2Proof.Machine
end

