-- ==== Sys2Proof/Machine/Ingest.lean ====
section
/-! DEFINITION. Sensor ingest: streams and their commands, CSI-2 frames, Ethernet frames, CAN messages, delivery, drops
and breaks, and the transmit rings (R295 to R313, R326 to R328). -/

namespace Sys2Proof.Machine

/-! ### SDT entries (R298): `e` is the 64-byte entry as a number -/

def tSrc (e : Nat) : Nat := fld e 1 0
def tPort (e : Nat) : Nat := fld e 4 2
def tErrDrop (e : Nat) : Bool := e.testBit 5
def tNobufFault (e : Nat) : Bool := e.testBit 6
def tVc (e : Nat) : Nat := fld e 11 8
def tDt (e : Nat) : Nat := fld e 17 12
def tFrameCtr (e : Nat) : Nat := fld e 47 32
def tRelease (e : Nat) : Nat := fld e 63 48
def tBufBase (e : Nat) : Nat := fld e 127 64
def tBufStride (e : Nat) : Nat := fld e 159 128
def tNbuf (e : Nat) : Nat := fld e 167 160
def tDropAlarm (e : Nat) : Nat := fld e 175 168
def tMaxUnits (e : Nat) : Nat := fld e 191 176
def tUnitStride (e : Nat) : Nat := fld e 223 192
def tAdmit (e : Nat) : Nat := fld e 235 224
def tGap (e : Nat) : Nat := fld e 255 240
def tRecBase (e : Nat) : Nat := fld e 319 256
def tMatch (e : Nat) : Nat := fld e 351 320
def tMask (e : Nat) : Nat := fld e 383 352

/-- A range lies wholly in hub memory or wholly in core memory. -/
def inSram (a n : Nat) : Bool :=
  let r := regionOf a
  let z := regionOf (a + n - 1)
  (r == some .hub && z == some .hub) || (r == some .core && z == some .core)

/-- The fields of the source: port, selection, match and mask. -/
def srcFieldsOk (e : Nat) : Bool :=
  match tSrc e with
  | 0 => decide (0x10 ≤ tDt e) && decide (tMatch e = 0) && decide (tMask e = 0)
  | 1 => decide (tPort e < 2) && decide (16 + 9216 ≤ tUnitStride e)
  | 2 => decide (tPort e < 2) && decide (80 ≤ tUnitStride e) && decide (tMatch e / 2 ^ 30 = 0) && decide (tMask e / 2 ^ 29 = 0)
  | _ => false

/-- An entry keeps every rule of R298. -/
def sdtOk (e : Nat) : Bool :=
  srcFieldsOk e && !e.testBit 7 && decide (fld e 31 18 = 0) && decide (fld e 239 236 = 0) && decide (fld e 511 384 = 0)
    && decide (tNbuf e ≠ 0) && decide (tMaxUnits e ≠ 0)
    && decide (tBufBase e % 64 = 0) && decide (tRecBase e % 64 = 0) && decide (tBufStride e % 64 = 0)
    && decide (tUnitStride e % 64 = 0) && decide (tMaxUnits e * tUnitStride e ≤ tBufStride e) && decide (tAdmit e ≤ 2048)
    && decide (tFrameCtr e < 0x1000) && (decide (tRelease e < 0x1000) || decide (tRelease e = 0xFFFF))
    && (List.range (tNbuf e)).all (fun b =>
        inSram (tBufBase e + b * tBufStride e) (tMaxUnits e * tUnitStride e) && inSram (tRecBase e + 64 * b) 64)

/-! ### Streams -/

def State.strm (s : State) (n : Nat) : Stream := s.ingest.streams.look {} n

/-- Change the ingest state. -/
def State.ing (s : State) (f : Ingest → Ingest) : State := { s with ingest := f s.ingest }

def State.setStrm (s : State) (n : Nat) (x : Stream) : State := s.ing fun g => { g with streams := g.streams.put {} n x }

/-- The stream runs: RUNNING or STOPPING. -/
def Stream.live (x : Stream) : Bool := x.mode == .running || x.mode == .stopping

/-- A frame is in progress (R304): admitted and not yet delivered, dropped or broken. -/
def Stream.inFrame (x : Stream) : Bool := (match x.frame with | some f => !f.broken | none => false) || !x.ended.isEmpty

/-- The clock domain of a source. -/
def srcDomain (src port : Nat) : Nat := if src = 0 then port else if src = 1 then 8 + port else 15 + port

/-- The source of a stream is enabled: the receiver's or the MAC's en, or a CAN mode that receives. -/
def State.srcOn (s : State) (src port : Nat) : Bool :=
  match src with
  | 0 => s.bit (Reg.ING_CSI_CFG port) 4
  | 1 => s.bit (Reg.ING_ETH_CFG port) 0
  | _ => let m := s.fld (Reg.ING_CAN_CTRL port) 1 0
         decide (m = 1 ∨ m = 2)

/-- A domain runs from its PLL (R305). -/
def State.onPll (s : State) (d : Nat) : Bool := s.bit Reg.CLK_SRC d

/-- Traffic on a source reaches the device: the source enabled, on its PLL, its crossing open. HOLD gates the CSI-2 receivers,
while an enabled MAC or CAN controller goes on receiving and counting (R427). -/
def State.srcLive (s : State) (src port : Nat) : Bool :=
  let d := srcDomain src port
  s.mainUp && (s.power.state == .run || src != 0) && s.srcOn src port && s.onPll d && s.crossOpen d && !s.domHeld d

/-- ING_BUF_STATUS shows what is in use of the hub ingest buffer, and the highest value. -/
def State.backlog (s : State) (kib : Nat) : State :=
  (s.setFld Reg.ING_BUF_STATUS 11 0 kib).setFld Reg.ING_BUF_STATUS 27 16 (max kib (s.fld Reg.ING_BUF_STATUS 27 16))

/-! ### Frames not delivered (R307, R308) -/

/-- Why a frame is not delivered. -/
inductive Loss where
  | nobuf | full | brk | err
  deriving DecidableEq, Repr

/-- Count a frame that is not delivered, in the stream's counters, its run and its next record; the drop alarm. -/
def State.lose (s : State) (n : Nat) (l : Loss) : State :=
  let s1 := match l with
    | .nobuf => s.incFld (Reg.ING_DROP n) 15 0 1
    | .full => s.incFld (Reg.ING_DROP n) 31 16 1
    | .brk => s.incFld (Reg.ING_LOSS n) 15 0 1
    | .err => s.incFld (Reg.ING_LOSS n) 31 16 1
  let x := s1.strm n
  let run := satAdd 255 x.run 1
  let s2 := s1.setStrm n { x with run := run, drops := satAdd 0xFFFF x.drops 1 }
  let a := tDropAlarm x.entry
  if a ≠ 0 ∧ x.run < a ∧ a ≤ run then s2.setBit (Reg.ING_ALARM_LO + n / 32) (n % 32) true else s2

/-- A STOPPING stream whose last frame has ended is STOPPED (R303). -/
def State.stopCheck (s : State) (n : Nat) : State :=
  let x := s.strm n
  if x.mode = .stopping ∧ x.inFrame = false then s.setStrm n { x with mode := .stopped, frame := none } else s

/-- Count a number of frames as broken. -/
def State.loseBroken (s : State) (n : Nat) : Nat → State
  | 0 => s
  | k + 1 => (s.lose n .brk).loseBroken n k

/-- Frames in progress: the one being received, and those ended and not yet delivered (R304). -/
def Stream.underWay (x : Stream) : Nat := b2n (match x.frame with | some f => !f.broken | none => false) + x.ended.length

/-- The frame being received is broken (R307); a packet frame is discarded until its close when `rest` is given. -/
def State.breakFrame (s : State) (n : Nat) (rest : Bool) : State :=
  let x := s.strm n
  match x.frame with
  | some f =>
    if f.broken then s
    else
      let keep := rest && tSrc x.entry != 0 && decide (f.seen < tMaxUnits x.entry)
      ((s.setStrm n { x with frame := if keep then some { f with broken := true } else none }).lose n .brk).stopCheck n
  | none => s

/-- An ingest transfer meets an address fault: the stream faults (R26, R328). -/
def State.strmFault (s : State) (n code : Nat) : State :=
  s.setStrm n { s.strm n with mode := .faulted, fault := code, frame := none, ended := [] }

/-! ### Stream commands (R304, R327) -/

/-- Record a refusal. -/
def State.strmRefuse (s : State) (n cause : Nat) : State := s.setNat Reg.ING_STRM_STATUS (1 + cause * 16 + n * 256)

/-- Streams RUNNING or STOPPING. -/
def State.liveStreams (s : State) : List (Nat × Stream) := ((List.range 64).map (fun n => (n, s.strm n))).filter (fun e => e.2.live)

/-- CSI-2 selection. -/
def selection (e : Nat) : Nat × Nat × Nat := (tPort e, tVc e, tDt e)

/-- The causes of R304 for a Start with entry `e`, from 0x4 on. -/
def State.startCauses (s : State) (e : Nat) : List Nat :=
  let csi := s.liveStreams.filter (fun x => tSrc x.2.entry == 0)
  (if sdtOk e then [] else [4])
    ++ (if decide (tSrc e = 0) && decide (24 ≤ csi.length) then [5] else [])
    ++ (if decide (tSrc e = 0) && csi.any (fun x => selection x.2.entry == selection e) then [6] else [])
    ++ (if decide (tRelease e ≠ 0xFFFF) && (s.ctr (tFrameCtr e)).v != (s.ctr (tRelease e)).v then [7] else [])
    ++ (let d := srcDomain (tSrc e) (tPort e)
        if s.domHeld d || !s.srcOn (tSrc e) (tPort e) || !s.onPll d then [8] else [])

/-- The causes common to every command: no table, a number beyond it, a state that does not allow the command. -/
def State.strmCauses (s : State) (n : Nat) (ok : Bool) : List Nat :=
  (if s.bit Reg.CTL_ROOT_STATUS 0 then [] else [1]) ++ (if n < s.roots.sdt.count then [] else [2]) ++ (if ok then [] else [3])

/-- Carry out a stream command, or refuse it with its lowest cause. -/
def State.strmCommand (s : State) (n : Nat) (causes : List Nat) (act : State → State) : State :=
  match causes with
  | c :: _ => s.strmRefuse n c
  | [] => act s

/-- Start. -/
def State.strmStart (s : State) (n : Nat) : State :=
  let e := s.roots.sdt.entries.getD n 0
  s.strmCommand n (s.strmCauses n ((s.strm n).mode == .stopped) ++ s.startCauses e) fun s =>
    (s.setStrm n { mode := .running, entry := e }).setNat (Reg.ING_DELIV n) 0

/-- Stop. -/
def State.strmStop (s : State) (n : Nat) : State :=
  let x := s.strm n
  s.strmCommand n (s.strmCauses n (x.mode == .running)) fun s =>
    if x.inFrame then s.setStrm n { x with mode := .stopping } else s.setStrm n { x with mode := .stopped, frame := none }

/-- Abort: the frames in progress are discarded and counted as broken. -/
def State.strmAbort (s : State) (n : Nat) : State :=
  let x := s.strm n
  s.strmCommand n (s.strmCauses n x.live) fun s =>
    let s1 := s.loseBroken n x.underWay
    s1.setStrm n { s1.strm n with mode := .stopped, frame := none, ended := [] }

/-- Reload: the entry is read again from the committed table; one that fails R298 is refused. -/
def State.strmReload (s : State) (n : Nat) : State :=
  let a := s.roots.sdt.base + 64 * n
  let e := s.readNat a 64
  s.strmCommand n (s.strmCauses n ((s.strm n).mode == .stopped) ++ (if sdtOk e then [] else [4])) fun s =>
    let s1 := s.eccRead a 64
    { s1 with roots := { s1.roots with sdt := { s1.roots.sdt with entries := s1.roots.sdt.entries.set n e } } }

/-- Clear. -/
def State.strmClear (s : State) (n : Nat) : State :=
  let x := s.strm n
  s.strmCommand n (s.strmCauses n (x.mode == .faulted)) fun s => s.setStrm n { x with mode := .stopped, fault := 0 }

/-- A write to ING_STRM_CTRL (R327). -/
def State.strmCtrl (s : State) (n cmd : Nat) : State :=
  match cmd with
  | 1 => s.strmStart n
  | 2 => s.strmStop n
  | 3 => s.strmAbort n
  | 4 => s.strmReload n
  | 5 => s.strmClear n
  | _ => s.strmRefuse n 9

/-- STREAM_START. -/
def execStreamStart (n : Fin 64) (s : State) : Host.Outcome State Fault Refusal := s.hAccess fun s => s.strmStart n
/-- STREAM_STOP. -/
def execStreamStop (n : Fin 64) (s : State) : Host.Outcome State Fault Refusal := s.hAccess fun s => s.strmStop n
/-- STREAM_ABORT. -/
def execStreamAbort (n : Fin 64) (s : State) : Host.Outcome State Fault Refusal := s.hAccess fun s => s.strmAbort n
/-- STREAM_RELOAD. -/
def execStreamReload (n : Fin 64) (s : State) : Host.Outcome State Fault Refusal := s.hAccess fun s => s.strmReload n
/-- STREAM_CLEAR. -/
def execStreamClear (n : Fin 64) (s : State) : Host.Outcome State Fault Refusal := s.hAccess fun s => s.strmClear n
/-- STREAM_CMD_RESERVED: a reserved code is refused with cause 0x9; the codes with a row of their own do nothing here. -/
def execStreamCmdReserved (n : Fin 64) (cmd : BitVec 3) (s : State) : Host.Outcome State Fault Refusal :=
  s.hAccess fun s => if 1 ≤ cmd.toNat ∧ cmd.toNat ≤ 5 then s else s.strmRefuse n 9

/-! ### Counters (R326) -/

/-- ING_CTRL.clr: every ING_ counter becomes 0. -/
def State.ingClr (s : State) : State :=
  let s1 := (List.range 64).foldl (fun s n => ((s.setNat (Reg.ING_DELIV n) 0).setNat (Reg.ING_DROP n) 0).setNat (Reg.ING_LOSS n) 0) s
  let s2 := (List.range 8).foldl (fun s r => s.setNat (Reg.ING_CSI_STAT r) 0) s1
  (List.range 2).foldl (fun s m =>
    ((s.setNat (Reg.ING_ETH_UNM m) 0).setNat (Reg.ING_ETH_BAD m) 0).setNat (Reg.ING_CAN_UNM m) 0) s2

/-- ING_CLR. -/
def execIngClr (s : State) : Host.Outcome State Fault Refusal := s.hAccess fun s => s.ingClr

/-- ING_CTRL.clr_hw. -/
def State.ingClrHw (s : State) : State := s.setFld Reg.ING_BUF_STATUS 27 16 (s.fld Reg.ING_BUF_STATUS 11 0)

/-- ING_CLR_HW. -/
def execIngClrHw (s : State) : Host.Outcome State Fault Refusal := s.hAccess fun s => s.ingClrHw

/-! ### Enabling and disabling sources (R305, R306) -/

/-- Break every frame in progress of every stream of a source; a STOPPING stream is then STOPPED (R306). -/
def State.breakSource (s : State) (src port : Nat) : State :=
  (s.liveStreams.filter (fun e => tSrc e.2.entry == src && tPort e.2.entry == port)).foldl (fun s e =>
    let s1 := s.loseBroken e.1 e.2.underWay
    (s1.setStrm e.1 { s1.strm e.1 with frame := none, ended := [] }).stopCheck e.1) s

/-- The register of a source, the fields a write sets, and its clock domain. -/
def srcReg : Source → Nat × Word × Nat
  | .csi r => (Reg.ING_CSI_CFG r, 0x00000013#32, r)
  | .eth m => (Reg.ING_ETH_CFG m, 0x00FFFF01#32, 8 + m)
  | .can c => (Reg.ING_CAN_CTRL c, 0x0000000F#32, 15 + c)
  | .tx t => (Reg.ING_TX_CFG t, 0x8FFFFFFF#32, if t.val < 2 then 8 + t.val else 13 + t.val)

/-- A word enables a source. -/
def srcEnables (src : Source) (val : Word) : Bool :=
  match src with
  | .csi _ => val.getLsbD 4
  | .eth _ => val.getLsbD 0
  | .can _ => wfld val 1 0 == 1 || wfld val 1 0 == 2
  | .tx _ => val.getLsbD 31

/-- A CAN controller in bus-off begins its recovery (R312, R326). -/
def State.canRecover (s : State) (c : Nat) : State :=
  if s.fld (Reg.ING_CAN_STATUS c) 1 0 = 2 then s.ing fun g => { g with canRecovering := addNew g.canRecovering [c] } else s

/-- The done counter of a ring. -/
def State.txDone (s : State) (t : Nat) : Nat := s.fld (Reg.ING_TX_CFG t) 27 16
def State.txSubmit (s : State) (t : Nat) : Nat := s.fld (Reg.ING_TX_CFG t) 15 4

/-- A ring that is enabled begins at the descriptor that its done counter names (log entry 19). -/
def State.txBegin (s : State) (t : Nat) : State :=
  s.ing fun g => { g with tx := g.tx.put {} t { next := (s.ctr (s.txDone t)).v } }

/-- A write to the register of a source: an enabling write is ignored with bad_addr while its domain is on the oscillator;
a disabling write breaks the source's frames; a ring's register is written only while its en is 0. -/
def State.sourceWrite (s : State) (p : Path) (src : Source) (val : Word) : State :=
  let r := srcReg src
  let was := srcEnables src (s.reg r.1)
  let on := srcEnables src val
  if on && !was && !s.onPll r.2.2 then s.badWrite p r.1
  else
    let s1 := s.setReg r.1 (val &&& r.2.1)
    match src with
    | .csi i => if was && !on then s1.breakSource 0 i else s1
    | .eth i => if was && !on then s1.breakSource 1 i else s1
    | .can i =>
      let s2 := if was && !on then s1.breakSource 2 i else s1
      if val.getLsbD 4 then s2.canRecover i else s2
    | .tx t => if was then s.badWrite p r.1 else if on then s1.txBegin t else s1

/-- SOURCE_ENABLE (R305): a write that enables. -/
def execSourceEnable (path : Path) (src : Source) (val : Word) (s : State) : Host.Outcome State Fault Refusal :=
  s.hWrite (srcReg src).1 fun s => if srcEnables src val then s.sourceWrite path src val else s

/-- SOURCE_DISABLE (R306): a write that disables. -/
def execSourceDisable (path : Path) (src : Source) (val : Word) (s : State) : Host.Outcome State Fault Refusal :=
  s.hWrite (srcReg src).1 fun s => if srcEnables src val then s else s.sourceWrite path src val

/-! ### Admission and writing (R299, R300, R307) -/

/-- A buffer is free (R307). -/
def State.bufFree (s : State) (e : Nat) : Bool :=
  decide (tRelease e = 0xFFFF) || decide ((s.ctr (tFrameCtr e)).v < (s.ctr (tRelease e)).v + tNbuf e)

/-- The stream is digested (R469). -/
def State.digStream (s : State) (n : Nat) : Bool := s.bit (Reg.SAF_DIG_SMASK_LO + n / 32) (n % 32)

/-- Admit a frame, or drop it, or fault the stream (R307). A dropped packet frame is discarded until its close. -/
def State.admitFrame (s : State) (n fnum t kib : Nat) : State :=
  let x := s.strm n
  let e := x.entry
  let gone := fun (s : State) (l : Loss) =>
    let s1 := s.lose n l
    if tSrc e = 0 then s1 else s1.setStrm n { s1.strm n with frame := some { broken := true } }
  if s.bufFree e = false then
    (if tNobufFault e then (s.lose n .nobuf).strmFault n 2 else gone s .nobuf)
  else if 2048 - kib < tAdmit e then gone s .full
  else s.setStrm n { x with frame := some { fnum := fnum, tSof := t, digested := s.digStream n } }

/-- The buffer that the frame being received is written to. -/
def Stream.bufAddr (x : Stream) : Nat := tBufBase x.entry + (x.d + x.ended.length) % tNbuf x.entry * tBufStride x.entry

/-- Write one line or packet of the frame being received at its place: `bs` what is stored, `payload` its payload bytes,
`row` what a digest hashes. A write whose route is closed is held (R202); what it is held for is gone when the route opens
again, since only a reset of the die opens it (log entry 79). -/
def State.writeUnit (s : State) (n : Nat) (f : FrameRun) (bs row : List Byte) (payload : Nat) : State :=
  let x := s.strm n
  let a := x.bufAddr + f.seen * tUnitStride x.entry
  match s.rangeFault a bs.length with
  | some g => (s.addrFault 2 true g.2 g.1 n).strmFault n 1
  | none =>
    let s1 := if s.reaches .hdie [(a, bs.length)] then s.store a bs else s
    s1.setStrm n { s1.strm n with frame := some { f with
      seen := f.seen + 1, units := f.units + 1, bytes := (f.bytes + payload) % 2 ^ 32
      digest := if f.digested then (f.digest + rowHash f.seen row) % 2 ^ 64 else 0 } }

/-- The hub ingest buffer returns a word with an uncorrectable error: the stream faults, and source 0x05 is raised. -/
def State.bufUe (s : State) (n : Nat) : State := (s.strmFault n 3).raise { src := 0x05 }

/-- A line FIFO can overflow only on a full hub ingest buffer. -/
def overflows (lost : Bool) (kib n : Nat) : Bool := lost && decide (2048 * 1024 < kib * 1024 + n)

/-! ### CSI-2 (R299) -/

/-- Streams of a receiver and virtual channel that run. -/
def State.csiStreams (s : State) (r vc : Nat) : List Nat :=
  (s.liveStreams.filter (fun e => tSrc e.2.entry == 0 && tPort e.2.entry == r && tVc e.2.entry == vc)).map (·.1)

/-- Frame Start for one stream: an early one breaks the frame in progress. -/
def State.frameStart (s : State) (n fnum kib : Nat) : State :=
  let s1 := s.breakFrame n false
  if (s1.strm n).mode = .running then s1.admitFrame n fnum s1.now kib else s1

/-- Count a corrected header, or one that cannot be corrected, or a CRC error. -/
def State.csiCount (s : State) (r : Nat) (fixed bad : Bool) : State :=
  let s1 := if fixed then s.incFld (Reg.ING_CSI_STAT r) 15 0 1 else s
  if bad then s1.incFld (Reg.ING_CSI_STAT r) 31 16 1 else s1

/-- FRAME_START (R307). -/
def execFrameStart (r : Fin 8) (vc : BitVec 4) (fnum : BitVec 16) (fixed : Bool) (backlog : Fin 2049) (s : State) :
    Host.Outcome State Fault Refusal :=
  if s.srcLive 0 r then
    let s1 := (s.backlog backlog).csiCount r fixed false
    done ((s1.csiStreams r vc.toNat).foldl (fun s n => s.frameStart n fnum.toNat backlog) s1)
  else done s

/-- One long packet of a stream is written as a line. -/
def State.line (s : State) (n : Nat) (data : List Byte) (crcBad lost ue : Bool) : State :=
  let x := s.strm n
  match x.frame with
  | none => s
  | some f =>
    if lost then s.breakFrame n true
    else if ue then s.bufUe n
    else if tMaxUnits x.entry ≤ f.seen then s.setStrm n { x with frame := some { f with seen := f.seen + 1, long := true } }
    else
      let bs := data.take (tUnitStride x.entry)
      s.writeUnit n { f with long := f.long || decide (bs.length < data.length), crc := f.crc || crcBad } bs bs bs.length

/-- An uncorrectable header flags every frame in progress on the receiver (R301), those not yet delivered among them. -/
def State.headerError (s : State) (r : Nat) : State :=
  let flag := fun (f : FrameRun) => { f with ecc := true }
  (s.liveStreams.filter (fun e => tSrc e.2.entry == 0 && tPort e.2.entry == r)).foldl (fun s e =>
    s.setStrm e.1 { e.2 with frame := e.2.frame.map flag, ended := e.2.ended.map flag }) s

/-- LONG_PACKET (R299). -/
def execLongPacket (r : Fin 8) (vc : BitVec 4) (dt : BitVec 6) (data : List Byte) (hdr : Fin 3) (crcBad : Bool)
    (backlog : Fin 2049) (lost ue : Bool) (s : State) : Host.Outcome State Fault Refusal :=
  if s.srcLive 0 r then
    if hdr.val = 2 then done ((s.csiCount r false true).headerError r)
    else
      let s1 := (s.backlog backlog).csiCount r (hdr.val == 1) crcBad
      let ns := (s1.csiStreams r vc.toNat).filter (fun n => tDt (s1.strm n).entry == dt.toNat)
      done (ns.foldl (fun s n => s.line n data crcBad (overflows lost backlog data.length) ue) s1)
  else done s

/-- A frame closes: dropped under err_drop, or handed to delivery. -/
def State.closeFrame (s : State) (n : Nat) (gap : Bool) : State :=
  let x := s.strm n
  match x.frame with
  | none => s
  | some f =>
    if f.broken then s.setStrm n { x with frame := none }
    else if tErrDrop x.entry && (f.crc || f.ecc || f.long) then ((s.setStrm n { x with frame := none }).lose n .err).stopCheck n
    else s.setStrm n { x with frame := none, ended := x.ended ++ [{ f with tEof := s.now, gap := gap }] }

/-- FRAME_END (R299). -/
def execFrameEnd (r : Fin 8) (vc : BitVec 4) (fixed : Bool) (s : State) : Host.Outcome State Fault Refusal :=
  if s.srcLive 0 r then
    let s1 := s.csiCount r fixed false
    done ((s1.csiStreams r vc.toNat).foldl (fun s n => s.closeFrame n false) s1)
  else done s

/-! ### Delivery (R301, R302) -/

/-- The frame record. -/
def frameRecord (n : Nat) (x : Stream) (f : FrameRun) : Nat :=
  x.d % 2 ^ 32 + f.fnum * 2 ^ 32 + x.drops * 2 ^ 48 + f.tSof * 2 ^ 64 + f.tEof * 2 ^ 128 + f.bytes * 2 ^ 192
    + f.units * 2 ^ 224 + b2n f.crc * 2 ^ 240 + b2n f.ecc * 2 ^ 241 + b2n f.long * 2 ^ 242 + b2n f.gap * 2 ^ 243 + n * 2 ^ 256

/-- Deliver the oldest ended frame of a stream: its record, then the add to frame_ctr, then its digest record. -/
def State.deliver (s : State) (n : Nat) (f : FrameRun) (rest : List FrameRun) : State :=
  let x := s.strm n
  let a := tRecBase x.entry + 64 * (x.d % tNbuf x.entry)
  match s.rangeFault a 64 with
  | some g => (s.addrFault 2 true g.2 g.1 n).strmFault n 1
  | none =>
    let s1 := s.store a (toBytes 64 (frameRecord n x f))
    let s2 := s1.setStrm n { s1.strm n with d := (x.d + 1) % 2 ^ 32, run := 0, drops := 0, ended := rest }
    let s3 := s2.setNat (Reg.ING_DELIV n) ((s2.reg (Reg.ING_DELIV n)).toNat + 1)
    let s4 := s3.addCtr (tFrameCtr x.entry) 1 (0x2000 + n)
    let s5 := if f.digested then s4.saf fun y => { y with forming := y.forming ++
        [{ d := f.digest, index := x.d, id := n, kind := 1, sat := false, rows := f.units % 2 ^ 24 }] }
      else s4
    s5.stopCheck n

/-- Where the oldest ended frame of a stream and its record are written. -/
def Stream.outRanges (x : Stream) : List (Nat × Nat) :=
  let b := x.d % tNbuf x.entry
  [(tBufBase x.entry + b * tBufStride x.entry, tMaxUnits x.entry * tUnitStride x.entry), (tRecBase x.entry + 64 * b, 64)]

/-- FRAME_DELIVER (R302): once every line is written; in Doubles a digested frame's add is held while 256 local records are
unmatched (R474). -/
def execFrameDeliver (n : Fin 64) (s : State) : Host.Outcome State Fault Refusal :=
  match s.mainUp && s.reaches .hdie (s.strm n).outRanges, (s.strm n).ended with
  | true, f :: t => if f.digested && s.digHold then done s else done (s.deliver n f t)
  | _, _ => done s

/-- FRAME_GAP_TIMEOUT (R299, R300): gap_us passes with no packet of the stream. -/
def execFrameGapTimeout (n : Fin 64) (s : State) : Host.Outcome State Fault Refusal :=
  let x := s.strm n
  if s.mainUp && x.live && decide (tGap x.entry ≠ 0) then
    done (if tSrc x.entry = 0 then s.breakFrame n false else s.closeFrame n true)
  else done s

/-! ### Packet streams (R296, R300) -/

/-- Two bytes in network order. -/
def be16 (bs : List Byte) (i : Nat) : Nat := (bs.getD i 0).toNat * 256 + (bs.getD (i + 1) 0).toNat

/-- The frame carries an 802.1Q tag; where its EtherType stands. -/
def ethTagged (bs : List Byte) : Bool := be16 bs 12 == 0x8100
def ethTypeAt (bs : List Byte) : Nat := if ethTagged bs then 16 else 12

/-- A pause frame. -/
def ethPause (bs : List Byte) : Bool := be16 bs (ethTypeAt bs) == 0x8808 && be16 bs (ethTypeAt bs + 2) == 1

/-- An Ethernet frame matches an entry (R298): EtherType, and where they are set the IPv4 source and the UDP port. -/
def ethMatches (e : Nat) (bs : List Byte) : Bool :=
  let t := ethTypeAt bs
  let ip := t + 2
  let v4 := be16 bs t == 0x0800
  let port := tMatch e / 2 ^ 16
  let hlen := 4 * ((bs.getD ip 0).toNat % 16)
  let udp := v4 && (bs.getD (ip + 9) 0).toNat == 17 && decide (be16 bs (ip + 6) % 8192 = 0)
  decide (be16 bs t = tMatch e % 2 ^ 16)
    && (decide (port = 0) || (udp && be16 bs (ip + hlen + 2) == port))
    && (decide (tMask e = 0) || (v4 && be16 bs (ip + 12) * 65536 + be16 bs (ip + 14) == tMask e))

/-- A CAN message matches an entry. -/
def canMatches (e id : Nat) (ide : Bool) : Bool :=
  let m := fld (tMask e) 28 0
  decide (id &&& m = fld (tMatch e) 28 0 &&& m) && (tMatch e).testBit 29 == ide

/-- The lowest-numbered running stream of a source that a packet matches; a STOPPING one takes packets of its last
frame. -/
def State.packetStream? (s : State) (src port : Nat) (hit : Nat → Bool) : Option Nat :=
  (List.range 64).find? (fun n =>
    let x := s.strm n
    tSrc x.entry == src && tPort x.entry == port && hit x.entry
      && (x.mode == .running || (x.mode == .stopping && x.frame.isSome)))

/-- A packet of a stream: the first one of a frame admits it; the packet that fills the frame closes it. -/
def State.packet (s : State) (n t kib : Nat) (bs row : List Byte) (payload : Nat) (lost ue : Bool) : State :=
  let s1 := if (s.strm n).frame.isNone then s.admitFrame n 0 t kib else s
  let s2 := match (s1.strm n).frame with
    | none => s1
    | some f =>
      if f.broken then s1.setStrm n { s1.strm n with frame := some { f with seen := f.seen + 1 } }
      else if lost then (s1.setStrm n { s1.strm n with frame := some { f with seen := f.seen + 1 } }).breakFrame n true
      else if ue then s1.bufUe n
      else s1.writeUnit n f bs row payload
  match (s2.strm n).frame with
  | some f => if tMaxUnits (s2.strm n).entry ≤ f.seen then s2.closeFrame n false else s2
  | none => s2

/-- The time `age` nanoseconds before now and `ahead` nanoseconds after that, in compact form. -/
def State.before (s : State) (age : Nat) (ahead : Nat := 0) : Nat :=
  let t := s.time.sec * 10 ^ 9 + s.time.ns + ahead - age
  t % 10 ^ 9 + t / 10 ^ 9 % 2 ^ 34 * 2 ^ 30

/-- ETHERNET_FRAME_RX (R296, R300). -/
def execEthernetFrameRx (m : Fin 2) (data : List Byte) (fcsOk : Bool) (age : Nat) (backlog : Fin 2049) (lost ue : Bool)
    (s : State) : Host.Outcome State Fault Refusal :=
  if s.srcLive 1 m then
    let s1 := s.backlog backlog
    if !fcsOk || decide (9216 < data.length) then done (s1.incSat (Reg.ING_ETH_BAD m) 1)
    else if ethPause data then done s1
    else match s1.packetStream? 1 m (fun e => ethMatches e data) with
      | none => done (s1.incSat (Reg.ING_ETH_UNM m) 1)
      | some n =>
        let t := s1.before (age + s1.fld (Reg.ING_ETH_CFG m) 15 8)
        let hdr := t + data.length * 2 ^ 64 + b2n (ethTagged data) * 2 ^ 78
        done (s1.activity.packet n t backlog (toBytes 16 hdr ++ data) data data.length (overflows lost backlog (16 + data.length)) ue)
  else done s

/-- Data bytes that a data length code stands for (ISO 11898-1). -/
def canLen (fdf rtr : Bool) (dlc : Nat) : Nat :=
  if rtr && !fdf then 0
  else if dlc ≤ 8 then dlc
  else if !fdf then 8
  else [12, 16, 20, 24, 32, 48, 64].getD (dlc - 9) 64

/-- A message record (R313). -/
def canRecord (t id : Nat) (ide fdf brs rtr esi : Bool) (dlc : Nat) (data : List Byte) : List Byte :=
  let n := canLen fdf rtr dlc
  let head := t + (if ide then id else id % 2 ^ 11) * 2 ^ 64 + b2n ide * 2 ^ 93 + b2n fdf * 2 ^ 94 + b2n brs * 2 ^ 95
    + b2n rtr * 2 ^ 96 + b2n esi * 2 ^ 97 + dlc * 2 ^ 104
  toBytes 16 head ++ (List.range 64).map (fun i => if i < n then data.getD i 0 else 0)

/-- The error counters of a controller after a message sent (`tx`) or received without error (R312, ISO 11898-1): a message
sent lowers the transmit count; one received lowers a receive count of 1 to 127, and takes a higher one to a value from 119 to
127 that the standard leaves open (PRESUMED, log entry 78). With both at most 127 the controller is error-active. -/
def State.canGood (s : State) (c : Nat) (tx : Bool) : State :=
  let r := Reg.ING_CAN_STATUS c
  let t := s.fld r 15 8 - b2n tx
  let v := s.fld r 23 16
  let v' := if tx then v else if v ≤ 127 then v - 1 else 119 + s.drawn % 9
  let s1 := if !tx && decide (127 < v) then s.draw else s
  if s.fld r 1 0 = 2 then s
  else ((s1.setFld r 15 8 t).setFld r 23 16 v').setFld r 1 0 (if 127 < t ∨ 127 < v' then 1 else 0)

/-- CAN_MESSAGE_RX (R312, R313): a CAN FD frame needs fd_en; a controller in bus-off receives nothing. -/
def execCanMessageRx (c : Fin 2) (id : BitVec 29) (ide fdf brs rtr esi : Bool) (dlc : BitVec 4) (data : List Byte)
    (age : Nat) (backlog : Fin 2049) (lost ue : Bool) (s : State) : Host.Outcome State Fault Refusal :=
  if s.srcLive 2 c && s.fld (Reg.ING_CAN_STATUS c) 1 0 != 2 && (!fdf || s.bit (Reg.ING_CAN_CTRL c) 2) then
    let s1 := (s.backlog backlog).canGood c false
    let i := if ide then id.toNat else id.toNat % 2 ^ 11
    match s1.packetStream? 2 c (fun e => canMatches e i ide) with
    | none => done (s1.incSat (Reg.ING_CAN_UNM c) 1)
    | some n =>
      let t := s1.before age
      let rec_ := canRecord t i ide fdf brs rtr esi dlc.toNat data
      done (s1.activity.packet n t backlog rec_ (rec_.drop 16) (canLen fdf rtr dlc.toNat) (overflows lost backlog 80) ue)
  else done s

/-! ### Transmit rings (R311) -/

def State.txRing (s : State) (t : Nat) : TxRing := s.ingest.tx.look {} t

def State.setTx (s : State) (t : Nat) (x : TxRing) : State := s.ing fun g => { g with tx := g.tx.put {} t x }

/-- Address of descriptor `i` of a ring: the base is aligned to 4 KiB, ring_log2 lies in 4 to 12. -/
def State.txAddr (s : State) (t i : Nat) : Nat :=
  let n := 2 ^ min (max (s.fld (Reg.ING_TX_CFG t) 3 0) 4) 12
  s.reg64 (Reg.ING_TX_BASE_LO t) / 4096 * 4096 + 32 * (i % n)

/-- A descriptor keeps R311. -/
def State.txDescOk (s : State) (t d : Nat) : Bool :=
  let a := nfld d 63 0
  let n := nfld d 77 64
  let hubOrLpddr := (regionOf a == some .hub && regionOf (a + n - 1) == some .hub)
    || (regionOf a == some .lpddr && regionOf (a + n - 1) == some .lpddr)
  (if t < 2 then decide (60 ≤ n ∧ n ≤ 9216) else decide (n = 80)) && decide (nfld d 79 78 = 0) && decide (nfld d 95 82 = 0)
    && decide (nfld d 127 98 = 0) && decide (nfld d 255 192 = 0) && hubOrLpddr && (s.rangeFault a n).isNone

/-- Write a descriptor back, add to the done counter, and go on to the next. -/
def State.txFinish (s : State) (t i : Nat) (err : Bool) (time : Option Nat) : State :=
  let a := s.txAddr t i
  let d := s.readNat a 32
  let d1 := nset (nset d 96 96 1) 97 97 (b2n err)
  let d2 := match time with | some v => nset d1 191 128 v | none => d1
  ((s.store a (toBytes 32 d2)).addCtr (s.txDone t) 1 (0x2000 + 64 + t)).setTx t { next := i + 1 }

/-- The ring's port can send: the MAC is enabled; the CAN controller is in normal mode and not in bus-off. -/
def State.txPort (s : State) (t : Nat) : Bool :=
  if t < 2 then s.srcLive 1 t
  else s.srcLive 2 (t - 2) && s.fld (Reg.ING_CAN_CTRL (t - 2)) 1 0 == 1 && s.fld (Reg.ING_CAN_STATUS (t - 2)) 1 0 != 2

/-- The next submitted descriptor of a ring is sent, or written back with err. Where the read of the descriptor itself meets an
address fault, the rule gives neither the record's source and stream nor the ring's state after it: source 2 and stream 0 are
recorded, and the ring stays enabled at that descriptor (DESIGN CHOICE, log entry 77). -/
def State.txSend (s : State) (t : Nat) : State :=
  let i := (s.txRing t).next
  let a := s.txAddr t i
  match s.rangeFault a 32 with
  | some g => s.addrFault 2 false g.2 g.1 0
  | none =>
    let s1 := s.eccRead a 32
    let d := s1.readNat a 32
    if s1.txDescOk t d then
      let b := nfld d 63 0
      let n := nfld d 77 64
      let s2 := s1.eccRead b n
      (s2.ing fun g => { g with txOut := g.txOut ++ [(t, s2.readBytes b n)] }).setTx t { next := i, sending := some i }
    else
      let f := s1.rangeFault (nfld d 63 0) (nfld d 77 64)
      let s2 := match f with | some g => s1.addrFault 2 false g.2 g.1 0 | none => s1
      s2.txFinish t i true none

/-- TX_DESCRIPTOR_SEND. -/
def execTxDescriptorSend (t : Fin 4) (s : State) : Host.Outcome State Fault Refusal :=
  let x := s.txRing t
  if s.txPort t && s.bit (Reg.ING_TX_CFG t) 31 && x.sending.isNone && decide (x.next < (s.ctr (s.txSubmit t)).v) then
    done (s.txSend t)
  else done s

/-- TX_COMPLETE: a CAN message that was not sent is tried again unless it is one-shot. -/
def execTxComplete (t : Fin 4) (ok : Bool) (age : Nat) (s : State) : Host.Outcome State Fault Refusal :=
  match s.mainUp, (s.txRing t).sending with
  | true, some i =>
    let d := s.readNat (s.txAddr t i) 32
    if ok || t.val < 2 then
      let lat := if t.val < 2 then s.fld (Reg.ING_ETH_CFG t) 23 16 else 0
      let s1 := if t.val < 2 then s else s.canGood (t - 2) true
      done (s1.txFinish t i false (if d.testBit 80 then some (s.before age lat) else none))
    else if d.testBit 81 then done (s.txFinish t i true none)
    else done s
  | _, _ => done s

/-! ### CAN errors (R312, R326) and Ethernet links -/

/-- CAN_RECOVER: ING_CANc_CTRL.recover. -/
def execCanRecover (c : Fin 2) (s : State) : Host.Outcome State Fault Refusal := s.hWrite (Reg.ING_CAN_CTRL c) fun s => s.canRecover c

/-- CAN_BUS_OFF_RECOVERY: error-active again, the counts 0. -/
def execCanBusOffRecovery (c : Fin 2) (s : State) : Host.Outcome State Fault Refusal :=
  if s.mainUp && s.ingest.canRecovering.contains c.val then
    let s1 := ((s.setFld (Reg.ING_CAN_STATUS c) 1 0 0).setFld (Reg.ING_CAN_STATUS c) 15 8 0).setFld (Reg.ING_CAN_STATUS c) 23 16 0
    done (s1.ing fun g => { g with canRecovering := g.canRecovering.filter (· != c.val) })
  else done s

/-- CAN_BUS_ERROR: the counts and the state of ISO 11898-1; entering bus-off sets its flag, and with auto_rec begins the
recovery. -/
def execCanBusError (c : Fin 2) (tec recv : Fin 257) (s : State) : Host.Outcome State Fault Refusal :=
  let r := Reg.ING_CAN_STATUS c
  if s.srcLive 2 c && s.fld r 1 0 != 2 then
    let st := if tec.val = 256 then 2 else if 127 < tec.val ∨ 127 < recv.val then 1 else 0
    let s1 := ((s.setFld r 1 0 st).setFld r 15 8 (min tec.val 255)).setFld r 23 16 (min recv.val 255)
    if st = 2 then
      let s2 := s1.setBit r 24 true
      done (if s2.bit (Reg.ING_CAN_CTRL c) 3 then s2.canRecover c else s2)
    else done s1
  else done s

/-- ETHERNET_LINK_CHANGE. -/
def execEthernetLinkChange (m : Fin 2) (up : Bool) (rate : BitVec 2) (s : State) : Host.Outcome State Fault Refusal :=
  done (if s.mainUp then s.setNat (Reg.ING_ETH_STAT m) (b2n up + rate.toNat * 2) else s)

/-! ### Registers computed on read (R328) -/

def streamCode : StreamMode → Nat
  | .stopped => 0
  | .running => 1
  | .stopping => 2
  | .faulted => 3

/-- ING_STATEn. -/
def State.strmState (s : State) (n : Nat) : Nat :=
  let x := s.strm n
  let buf := if tNbuf x.entry = 0 then 0 else x.d % tNbuf x.entry
  streamCode x.mode + x.fault * 16 + b2n x.inFrame * 256 + buf * 65536 + x.run * 2 ^ 24

end Sys2Proof.Machine
end

