-- ==== Sys2Proof/Machine/Time.lean ====
section
/-! DEFINITION. The timebase, its step, rate and slew, the timestamp inputs and the kickoffs (R314 to R332). -/

namespace Sys2Proof.Machine

/-- Change the timebase. -/
def State.tb (s : State) (f : TimeBase → TimeBase) : State := { s with time := f s.time }

/-- Whole nanoseconds since 0. -/
def TimeBase.abs (t : TimeBase) : Nat := t.sec * 10 ^ 9 + t.ns

/-- L of R315, in units of 2^-32 ns per cycle. -/
def rateLimit : Int := 4294967

/-- TIM_RATE.adj, clamped. -/
def State.rateAdj (s : State) : Int := clampI (-rateLimit) rateLimit (sgn 32 (s.reg Reg.TIM_RATE).toNat)

/-- TIM_SERVO.slew_lim, clamped. -/
def State.slewLim (s : State) : Int := min (s.fld Reg.TIM_SERVO 22 0 : Int) rateLimit

/-- The slew of one cycle (R317). -/
def slewOf (a lim rem : Int) : Int :=
  if 0 < rem then min (min lim (rateLimit - a)) rem
  else if rem < 0 then -(min (min lim (rateLimit + a)) (-rem)) else 0

/-- The timebase runs from its PLL. -/
def State.tbPll (s : State) : Bool := s.bit Reg.CLK_SRC 17

/-- The slew that a cycle now consumes. -/
def State.slewNow (s : State) : Int := slewOf s.rateAdj s.slewLim s.time.rem

/-- Add to the time, in units of 2^-32 ns, with the carries of R314. -/
def TimeBase.advance (t : TimeBase) (u : Nat) : TimeBase :=
  let f := t.frac + u
  let n := t.ns + f / 2 ^ 32
  { t with frac := f % 2 ^ 32, ns := n % 10 ^ 9, sec := (t.sec + n / 10 ^ 9) % 2 ^ 64 }

/-- One cycle (R315, R317): 10 ns on the oscillator; on the PLL 2 ns with rate and slew. -/
def State.cycle (s : State) : State :=
  if s.tbPll then
    let d := s.slewNow
    s.tb fun t => { t.advance ((2 * 2 ^ 32 + s.rateAdj + d).toNat) with rem := t.rem - d }
  else s.tb fun t => t.advance (10 * 2 ^ 32)

/-- TIMEBASE_CYCLE. -/
def execTimebaseCycle (s : State) : Host.Outcome State Fault Refusal :=
  done (if s.mainUp && s.time.counting && !s.domHeld 17 then s.cycle else s)

/-! ### Step and offset (R316 to R318) -/

def State.kick (s : State) (i : Nat) : Kickoff := s.time.ko.look {} i

def State.setKick (s : State) (i : Nat) (k : Kickoff) : State := s.tb fun t => { t with ko := t.ko.put {} i k }

/-- Targets that a step from `a` to `b` carries the time past fire late. -/
def State.stepPast (s : State) (a b : Nat) : State :=
  (List.range 32).foldl (fun s i =>
    let k := s.kick i
    if k.armed && decide (a < k.target ∧ k.target < b) then s.setKick i { k with lateNext := true } else s) s

/-- A write to TIM_STEP_SEC_HI: the timebase steps once, or the step is refused. -/
def State.timeStep (s : State) (p : Path) (val : Word) : State :=
  let ws := s.commitWords Reg.TIM_STEP_NS 3 p val
  let ns := wfld (ws.getD 0 0) 29 0
  let sec := (ws.getD 1 0).toNat + (ws.getD 2 0).toNat * 2 ^ 32
  if s.bit Reg.TIM_STATUS 1 || decide (10 ^ 9 ≤ ns) then (s.setBit Reg.TIM_STATUS 2 true).committed Reg.TIM_STEP_NS 3 p
  else
    let a := s.time.abs
    let s1 := ((s.plainWords Reg.TIM_STEP_NS ws).committed Reg.TIM_STEP_NS 3 p).setBit Reg.TIM_STATUS 1 true
    (s1.tb fun t => { t with sec := sec, ns := ns, frac := 0, rem := 0 }).stepPast a (sec * 10 ^ 9 + ns)

/-- TIME_STEP (R316). -/
def execTimeStep (path : Path) (val : Word) (s : State) : Host.Outcome State Fault Refusal :=
  s.hWrite Reg.TIM_STEP_NS fun s => s.timeStep path val

/-- A write to TIM_OFFSET_HI replaces the remainder; an offset beyond div_ns raises TIME_DIVERGED. -/
def State.offsetCommit (s : State) (p : Path) (val : Word) : State :=
  let ws := s.commitWords Reg.TIM_OFFSET_LO 2 p val
  let off := sgn 64 ((ws.getD 0 0).toNat + (ws.getD 1 0).toNat * 2 ^ 32)
  let s1 := ((s.setRegs Reg.TIM_OFFSET_LO ws).committed Reg.TIM_OFFSET_LO 2 p).tb fun t => { t with rem := off * 2 ^ 32 }
  if (s.reg Reg.TIM_DIV_LIM).toNat < off.natAbs then s1.setBit Reg.TIM_STATUS 3 true else s1

/-- OFFSET_COMMIT (R317, R318). -/
def execOffsetCommit (path : Path) (val : Word) (s : State) : Host.Outcome State Fault Refusal :=
  s.hWrite Reg.TIM_OFFSET_LO fun s => s.offsetCommit path val

/-! ### Timestamp inputs (R320, R321, R331) -/

def State.tsiFifo (s : State) (i : Nat) : List TsiEntry := s.time.tsi.look [] i

def State.setTsi (s : State) (i : Nat) (l : List TsiEntry) : State := s.tb fun t => { t with tsi := t.tsi.put [] i l }

/-- The input's edge setting takes an edge to this level. -/
def edgeTaken (sel : Nat) (level : Bool) : Bool :=
  match sel with
  | 1 => level
  | 2 => !level
  | 3 => true
  | _ => false

/-- TIM_TSI_CFGi.filt: the cycles for which a level must hold. -/
def State.tsiFilt (s : State) (i : Nat) : Nat := s.fld (Reg.TIM_TSI_CFG i) 15 8

/-- The filter length in nanoseconds: a timebase cycle is 2 ns on the PLL and 10 ns on the oscillator (R315). -/
def State.tsiFiltNs (s : State) (i : Nat) : Nat := s.tsiFilt i * (if s.tbPll then 2 else 10)

/-- A captured edge: queued with its time unless the FIFO is full, and added to the input's counter. The time is that of
the accepting sample less the synchroniser's delay, both of which `age` counts, and the filter length (log entry 69). -/
def State.tsiEdge (s : State) (i : Nat) (level : Bool) (age : Nat) : State :=
  let q := s.tsiFifo i
  let s1 := if 8 ≤ q.length then s.setBit Reg.TIM_TSI_INFO (16 + i) true
    else s.setTsi i (q ++ [{ time := s.before (age + s.tsiFiltNs i), level := level }])
  if s.bit (Reg.TIM_TSI_CFG i) 31 then s1.addCtr (s.fld (Reg.TIM_TSI_CFG i) 27 16) 1 (0x5000 + 32 + i) else s1

/-- TSI_EDGE: a level that has held for fewer cycles than the filter asks is not accepted. -/
def execTsiEdge (i : Fin 16) (level : TsiLevel) (age : Nat) (s : State) : Host.Outcome State Fault Refusal :=
  done (if s.mainUp && s.time.counting && decide (s.tsiFilt i ≤ level.held)
      && edgeTaken (s.fld (Reg.TIM_TSI_CFG i) 1 0) level.level then
      s.tsiEdge i level.level age
    else s)

/-- A write to TIM_TSI_SEL with pop (R321). -/
def State.tsiPop (s : State) (i : Nat) : State :=
  let s0 := s.setNat Reg.TIM_TSI_SEL i
  match s0.tsiFifo i with
  | [] => s0.setFld Reg.TIM_TSI_INFO 11 0 0
  | e :: t =>
    let s1 := (s0.setTsi i t).setReg64 Reg.TIM_TSI_LO e.time
    s1.setFld Reg.TIM_TSI_INFO 11 0 (1 + b2n e.level * 2 + t.length * 256)

/-- TSI_POP. -/
def execTsiPop (i : Fin 16) (s : State) : Host.Outcome State Fault Refusal := s.hWrite Reg.TIM_TSI_SEL fun s => s.tsiPop i

/-! ### Kickoffs (R322 to R324, R332) -/

/-- The fields that TIM_KOs_CFG implements. -/
def kickMask : Word := 0xFF3FFFF7#32

/-- A write to TIM_KOs_CFG with arm = 1: armed with the target registers as they stand; nanoseconds of 10^9 or more are
refused. A target that is not after the present time fires late. -/
def State.kickArm (s : State) (i : Nat) (val : Word) : State :=
  let ns := s.fld (Reg.TIM_KO_NS i) 29 0
  if 10 ^ 9 ≤ ns then s.setBit Reg.TIM_STATUS 7 true
  else
    let t := s.reg64 (Reg.TIM_KO_SEC_LO i) * 10 ^ 9 + ns
    let s1 := (s.setReg (Reg.TIM_KO_CFG i) (val &&& kickMask)).setFld (Reg.TIM_KO_STAT i) 31 8 0
    s1.setKick i { armed := true, target := t, lateNext := decide (t ≤ s.time.abs) }

/-- KICKOFF_ARM. -/
def execKickoffArm (n : Fin 32) (val : Word) (s : State) : Host.Outcome State Fault Refusal :=
  s.hWrite Reg.TIM_KO_EVT fun s => if val.getLsbD 0 then s.kickArm n val else s

def State.trigger (s : State) (o : Nat) : Trigger := s.time.trg.look {} o

def State.setTrigger (s : State) (o : Nat) (x : Trigger) : State := s.tb fun t => { t with trg := t.trg.put {} o x }

/-- The action of a fire on its trigger output: set, clear, or a pulse, which extends one in progress to the later end. -/
def State.kickOutput (s : State) (i : Nat) : State :=
  let r := Reg.TIM_KO_CFG i
  let o := s.fld r 7 4
  let stop := s.time.abs + max 1 (s.fld r 31 24) * 1000
  match s.fld r 2 1 with
  | 1 => s.setTrigger o { level := true }
  | 2 => s.setTrigger o {}
  | 3 => s.setTrigger o { level := true, pulseEnd := some (match (s.trigger o).pulseEnd with | some e => max e stop | none => stop) }
  | _ => s

/-- The next target after a fire at target `t` (R323), and the periods skipped. -/
def nextTarget (t period now : Nat) : Nat × Nat :=
  let k := if t ≤ now then (now - t) / period + 1 else 1
  (t + k * period, k - 1)

/-- A slot fires: its actions, its record, and its next target. -/
def State.kickFire (s : State) (i : Nat) : State :=
  let k := s.kick i
  let r := Reg.TIM_KO_CFG i
  let s1 := s.kickOutput i
  let s2 := if s.bit r 8 then s1.addCtr (s.fld r 21 10) 1 (0x5000 + i) else s1
  let s3 := if s.bit r 9 then s2.setBit Reg.TIM_KO_EVT i true else s2
  let st := Reg.TIM_KO_STAT i
  let s4 := ((s3.setBit st 0 true).setReg64 (Reg.TIM_KO_FIRE_LO i) s.now).setFld st 31 16 (s3.fld st 31 16 + 1)
  let s5 := if k.lateNext then s4.setBit st 1 true else s4
  let p := (s.reg (Reg.TIM_KO_PER i)).toNat
  if p = 0 then (s5.setKick i {}).setBit r 0 false
  else
    let n := nextTarget k.target p s.time.abs
    (s5.setKick i { armed := true, target := n.1 }).incFld st 15 8 n.2

/-- A slot is armed and the time has reached its target, or it is late. -/
def State.kickDue (s : State) (i : Nat) : Bool :=
  let k := s.kick i
  k.armed && (k.lateNext || decide (k.target ≤ s.time.abs))

/-- The slots up to `i` that are due fire, in ascending order (R324). -/
def State.fireUpTo (s : State) (i : Nat) : State :=
  (List.range (i + 1)).foldl (fun s j => if s.kickDue j then s.kickFire j else s) s

/-- A write to TIM_KOs_CFG with arm = 0. A fire that falls in this cycle is made first (R324). -/
def State.kickDisarm (s : State) (i : Nat) (val : Word) : State :=
  let t := if s.kickDue i then s.fireUpTo i else s
  (t.setReg (Reg.TIM_KO_CFG i) (val &&& kickMask)).setKick i {}

/-- KICKOFF_DISARM. -/
def execKickoffDisarm (n : Fin 32) (val : Word) (s : State) : Host.Outcome State Fault Refusal :=
  s.hWrite Reg.TIM_KO_EVT fun s => if val.getLsbD 0 then s else s.kickDisarm n val

/-- KICKOFF_FIRE (R322): slots that are due act in ascending order (R324). -/
def execKickoffFire (n : Fin 32) (s : State) : Host.Outcome State Fault Refusal :=
  done (if s.mainUp && s.kickDue n && !(List.range n).any s.kickDue then s.kickFire n else s)

/-- The TRGO ball of a trigger output (R332, R430). -/
def State.trgo (s : State) (o : Nat) : Option Bool := s.hBall (s.trigger o).level

/-- TRIGGER_PULSE_END: the time has reached a pulse's end. -/
def execTriggerPulseEnd (o : Fin 16) (s : State) : Host.Outcome State Fault Refusal :=
  match s.mainUp, (s.trigger o).pulseEnd with
  | true, some e => if e ≤ s.time.abs then done (s.setTrigger o {}) else done s
  | _, _ => done s

/-! ### Registers (R329, R330) -/

/-- rem in ns, rounded toward zero. -/
def State.remNs (s : State) : Int := Int.tdiv s.time.rem (2 ^ 32)

/-- TIM_STATUS: stepped, step_ref, diverged and cfg_err are held, the rest is computed. -/
def State.timStatus (s : State) : Nat :=
  let r := s.time.rem
  let live := decide (((s.reg Reg.TIM_DIV_LIM).toNat * 2 ^ 32 : Nat) < r.natAbs)
  let held := (s.reg Reg.TIM_STATUS).toNat
  held / 2 % 8 * 2 + nfld held 7 7 * 128 + b2n s.tbPll + b2n live * 16 + b2n (r != 0) * 32
    + b2n (s.tbPll && r != 0 && s.slewNow == 0) * 64

end Sys2Proof.Machine
end

