-- ==== Sys2Proof/Machine/Tile.lean ====
section
/-! DEFINITION. The Bruore tile: its time, the blank window, the threshold switches and the configuration image (R333 to
R335, R355, R358 to R360, R554). -/

namespace Sys2Proof.Machine

/-! ### Tile time -/

/-- The tile's logic runs: it is out of power-on reset and the package is not in DORMANT (R424). -/
def State.tileRuns (s : State) : Bool := s.power.tileUp && s.power.state != .dormant

/-- Ticks of the sampling clock in a millisecond. -/
def tickMs : Nat := 16384

/-- Change the front end, and its metrology part. -/
def State.ms (s : State) (f : Measure → Measure) : State := { s with meas := f s.meas }
def State.mt (s : State) (f : Metrology → Metrology) : State := s.ms fun m => { m with met := f m.met }

/-- MSR_STATUS.cfg_err. -/
def State.msrErr (s : State) : State := s.setBit Reg.MSR_STATUS 2 true

/-! ### The blank window (R355) -/

/-- The window is open. -/
def State.blankOpen (s : State) : Bool := s.meas.blankActive || s.meas.blankHold

/-- This sampling cycle counts as inside the window: it is open, or it closed in this cycle. -/
def State.blankInside (s : State) : Bool := s.blankOpen || s.meas.blankShut == some s.power.up

/-- A sample written in the cycle in which the window opens carries blank. -/
def VibChan.blankLast (x : VibChan) (now : Nat) : VibChan :=
  if x.tick = some now then
    let k := (x.run - 1) % 4096
    { x with ring := x.ring.put 0#32 k (x.ring.look 0#32 k ||| 0x10000000#32) }
  else x

/-- A conversion is running. -/
def Prec.converting (p : Prec) : Bool := p.phase == .convert || p.phase == .lead

/-- Publish the window in MSR_STATUS.blank; a conversion that an open window overlaps is marked. -/
def State.blankShow (s : State) : State :=
  let o := s.blankOpen
  (s.ms fun m => { m with prec := { m.prec with blanked := m.prec.blanked || (o && m.prec.converting) } }).setBit Reg.MSR_STATUS 3 o

/-- The ball at its active level while enabled, or force. -/
def State.blankWanted (s : State) : Bool :=
  (s.bit Reg.MSR_BLANK_CFG 0 && (s.meas.blankBall == s.bit Reg.MSR_BLANK_CFG 1)) || s.bit Reg.MSR_BLANK_CFG 2

/-- Take account of a new ball level or configuration: the window opens, its holdoff starts, or, with no holdoff, it
closes. -/
def State.blankEval (s : State) : State :=
  let w := s.blankWanted
  let hold := !w && (if s.meas.blankActive then s.fld Reg.MSR_BLANK_CFG 15 8 != 0 else s.meas.blankHold)
  (s.ms fun m => { m with
    blankActive := w, blankHold := hold
    blankAt := if m.blankActive && !w then s.power.up else m.blankAt
    blankShut := if s.blankOpen && !w && !hold then some s.power.up else m.blankShut
    vib := if w && !s.blankOpen then (List.range 4).foldl (fun c v => c.put {} v ((c.look {} v).blankLast s.power.up)) m.vib else m.vib }).blankShow

/-- BLANK_EDGE: the ball's level has held for 1 ms. -/
def execBlankEdge (level : Bool) (s : State) : Host.Outcome State Fault Refusal :=
  done (if s.tileRuns then (s.ms fun m => { m with blankBall := level }).blankEval else s)

/-- The holdoff, holdoff × 10 ms from the last cycle at the active level, has passed. -/
def State.holdoffOver (s : State) : Bool := decide (s.fld Reg.MSR_BLANK_CFG 15 8 * 10 * tickMs ≤ s.power.up - s.meas.blankAt)

/-- BLANK_HOLDOFF_END: once the holdoff has passed, the window closes. -/
def execBlankHoldoffEnd (s : State) : Host.Outcome State Fault Refusal :=
  done (if s.tileRuns && s.meas.blankHold && s.holdoffOver then
    (s.ms fun m => { m with blankHold := false, blankShut := some s.power.up }).blankShow else s)

/-! ### Threshold switches (R358 to R360, R375, R554) -/

def State.sw (s : State) (k : Nat) : Switch := s.meas.switches.look {} k

def State.setSw (s : State) (k : Nat) (x : Switch) : State := s.ms fun m => { m with switches := m.switches.put {} k x }

/-- Source, index and boolean sources. -/
def Switch.src (x : Switch) : Nat := wfld x.cfg 3 1
def Switch.idx (x : Switch) : Nat := wfld x.cfg 7 4
def Switch.boolSrc (x : Switch) : Bool := x.src == 3 || x.src == 4

/-- SET and RST as signed levels. -/
def Switch.setLevel (x : Switch) : Int := sgn 32 x.set.toNat
def Switch.rstLevel (x : Switch) : Int := sgn 32 x.rst.toNat

/-- The committed values break a rule: a reserved source, or levels in the wrong order. -/
def Switch.bad (x : Switch) : Bool :=
  decide (5 ≤ x.src) || (!x.boolSrc &&
    (if x.cfg.getLsbD 8 then decide (x.rstLevel ≤ x.setLevel) else decide (x.setLevel ≤ x.rstLevel)))

/-- The switch is evaluated: enabled, its values in order. -/
def Switch.live (x : Switch) : Bool := x.cfg.getLsbD 0 && !x.bad

/-- The state a value asks for: ALARM (true), NORMAL (false), or none. -/
def Switch.want (x : Switch) (v : Int) : Option Bool :=
  let low := x.cfg.getLsbD 8
  let qs := if x.boolSrc then decide (v = 1) else if low then decide (v ≤ x.setLevel) else decide (x.setLevel ≤ v)
  let qr := if x.boolSrc then decide (v = 0) else if low then decide (x.rstLevel ≤ v) else decide (v ≤ x.rstLevel)
  if !x.alarm && qs then some true else if x.alarm && qr && !x.latched then some false else none

/-- A new value with its flags, at tile time `now`. -/
def Switch.value (x : Switch) (now : Nat) (v : Int) (blank bad : Bool) : Switch :=
  if blank then x
  else if bad then (if x.cfg.getLsbD 11 then { x with alarm := true, run := none } else x)
  else
    let w := x.want v
    if w = x.run.map Prod.fst then x else { x with run := w.map fun t => (t, now) }

/-- The dwell check of every 1 ms and every value. -/
def Switch.tick (x : Switch) (now : Nat) : Switch :=
  match x.run with
  | none => x
  | some (t, start) =>
    if x.dwell.toNat % 65536 * tickMs ≤ now - start then
      let l := t && x.cfg.getLsbD 9
      { x with alarm := t, run := none, latched := x.latched || l, latchAt := if l then some now else x.latchAt }
    else x

/-- MSR_CTRL.sw_en, with the tile running. -/
def State.swOn (s : State) : Bool := s.tileRuns && s.bit Reg.MSR_CTRL 1

/-- A new value of source `src`, number `idx`, reaches every switch that watches it. -/
def State.swValue (s : State) (src idx : Nat) (v : Int) (blank bad : Bool) : State :=
  if s.swOn then
    (List.range 8).foldl (fun s k =>
      let x := s.sw k
      if x.live && x.src == src && (src == 3 || x.idx == idx) then s.setSw k ((x.value s.power.up v blank bad).tick s.power.up) else s) s
  else s

/-- SWITCH_DWELL_TICK. -/
def execSwitchDwellTick (s : State) : Host.Outcome State Fault Refusal :=
  done (if s.swOn then
    (List.range 8).foldl (fun s k => let x := s.sw k; if x.live then s.setSw k (x.tick s.power.up) else s) s else s)

/-- A write to MSR_SWk_CFG: the four registers are committed, the state kept unless the switch is now disabled or holds
NORMAL on an error, and the dwell run discarded. -/
def State.swCommit (s : State) (k : Nat) (val : Word) : State :=
  let c := val &&& 0x00000FFF#32
  let s1 := s.setReg (Reg.MSR_SW_CFG k) c
  let y : Switch := { s1.sw k with cfg := c, set := s1.reg (Reg.MSR_SW_SET k), rst := s1.reg (Reg.MSR_SW_RST k), dwell := s1.reg (Reg.MSR_SW_DWELL k), run := none, committed := true }
  s1.setSw k { y with alarm := y.alarm && y.live }

/-- SWITCH_COMMIT. -/
def execSwitchCommit (k : Fin 8) (val : Word) (s : State) : Host.Outcome State Fault Refusal :=
  done (if s.power.tileUp then s.swCommit k val else s)

/-- A write to MSR_SW_ACK clears the latches it names, but for one that sets in the same cycle. -/
def State.swAck (s : State) (mask : Nat) : State :=
  (List.range 8).foldl (fun s k =>
    if mask.testBit k && (s.sw k).latchAt != some s.power.up then s.setSw k { s.sw k with latched := false } else s) s

/-- SWITCH_ACK. -/
def execSwitchAck (mask : BitVec 8) (s : State) : Host.Outcome State Fault Refusal :=
  done (if s.power.tileUp then s.swAck mask.toNat else s)

/-- SWO_OVERCURRENT: a conducting output releases. -/
def execSwoOvercurrent (k : Fin 8) (s : State) : Host.Outcome State Fault Refusal :=
  done (if s.tileRuns then s.setSw k { s.sw k with released := true } else s)

/-- SWO_RETRY: a released output conducts again if its state says so. -/
def execSwoRetry (k : Fin 8) (s : State) : Host.Outcome State Fault Refusal :=
  done (if s.tileRuns then s.setSw k { s.sw k with released := false } else s)

/-- The output conducts (R359). -/
def State.swConducts (s : State) (k : Nat) : Bool :=
  let x := s.sw k
  s.tileRuns && !x.released && (if x.cfg.getLsbD 10 then !x.alarm else x.alarm)

/-- MSR_SW_STATE. -/
def State.swState (s : State) : Nat :=
  let ks := List.range 8
  flagsNat (ks.map fun k => (s.sw k).alarm) + flagsNat (ks.map s.swConducts) * 2 ^ 8
    + flagsNat (ks.map fun k => (s.sw k).latched) * 2 ^ 16 + flagsNat (ks.map fun k => (s.sw k).bad && (s.sw k).committed) * 2 ^ 24

/-! ### The configuration image (R335) -/

/-- Every RW MSR_ register's word address. -/
def msrRw : List Nat :=
  [Reg.MSR_CTRL, Reg.MSR_VIB_MODE, Reg.MSR_VIB_RDSEL, Reg.MSR_SCAN_CTRL, Reg.MSR_BLANK_CFG, Reg.MSR_LOG_SEL]
    ++ (List.range 4).map Reg.MSR_VIB_CFG ++ (List.range 16).map Reg.MSR_PCH_CFG0 ++ (List.range 16).map Reg.MSR_PCH_CFG1
    ++ (List.range 4).map Reg.MSR_PLS_CFG ++ (List.range 8).map Reg.MSR_SW_CFG ++ (List.range 8).map Reg.MSR_SW_SET
    ++ (List.range 8).map Reg.MSR_SW_RST ++ (List.range 8).map Reg.MSR_SW_DWELL ++ (List.range 256).map Reg.MSR_UTAB

/-- Image 1 is the newer one. -/
def Metrology.newer1 (m : Metrology) : Bool :=
  match m.img0, m.img1 with
  | some a, some b => decide (a.1 < b.1)
  | none, some _ => true
  | _, _ => false

/-- The valid image of higher sequence number. -/
def Metrology.image (m : Metrology) : Option (Nat × List (Nat × Word)) := if m.newer1 then m.img1 else m.img0

/-- A write of 1 to save_cfg: a save starts into the other image, or the request is ignored. -/
def State.cfgSave (s : State) : State :=
  if s.bit Reg.MSR_STATUS 1 then s.msrErr
  else
    let regs := msrRw.map fun a => (a, s.reg a)
    (s.mt fun m => { m with saving := some regs }).setBit Reg.MSR_STATUS 1 true

/-- CFG_SAVE. -/
def execCfgSave (s : State) : Host.Outcome State Fault Refusal := done (if s.power.tileUp then s.cfgSave else s)

/-- The image written alternately: the older or invalid one takes the next sequence number. -/
def Metrology.saved (m : Metrology) (regs : List (Nat × Word)) : Metrology :=
  let n := match m.image with
    | some x => x.1 + 1
    | none => 0
  if m.newer1 || m.img0.isNone then { m with img0 := some (n, regs), saving := none } else { m with img1 := some (n, regs), saving := none }

/-- CFG_SAVE_DONE. -/
def execCfgSaveDone (s : State) : Host.Outcome State Fault Refusal :=
  match s.power.tileUp, s.meas.met.saving with
  | true, some regs => done ((s.mt fun m => m.saved regs).setBit Reg.MSR_STATUS 1 false)
  | _, _ => done s

end Sys2Proof.Machine
end

