-- ==== Sys2Proof/Machine/Measure.lean ====
section
/-! DEFINITION. The vibration channels, the precision multiplexer, linearisation and autorange (R337 to R354, R365, R371
to R374). -/

namespace Sys2Proof.Machine

/-! ### Calibration in force (R364, R365) -/

/-- The Reset column of R364: gains of 1, a PERIODIC interval of 60 minutes, a rate timeout of 1 s. -/
def calDefault : Nat :=
  (List.range 12).foldl (fun n i => n + 0x40000000 * 2 ^ (160 + 64 * i)) (0x3C * 2 ^ 1160 + 0x0A * 2 ^ 1176)

/-- The calibration image that the tile measures with. -/
def State.calImg (s : State) : Nat :=
  match s.meas.met.cal with
  | some c => c.1
  | none => calDefault

/-- cal() of R365 with the entry at bit `at`: the corrected code, and whether it was clamped. -/
def calCode (img at' : Nat) (c : Int) : Int × Bool :=
  let off := sgn 32 (nfld img (at' + 31) at')
  let gc := nfld img (at' + 63) (at' + 32)
  let y := rna ⟨(c - off) * gc, 2 ^ 30⟩
  (clampI (-8388607) 8388607 y, decide (y < -8388607 ∨ 8388607 < y))

/-- A code of at least 90 % of full scale; one below 40 %. -/
def code90 (c : Int) : Bool := decide (9 * 2 ^ 23 ≤ 10 * c.natAbs)
def code40 (c : Int) : Bool := decide (10 * c.natAbs < 4 * 2 ^ 23)

/-! ### Vibration (R337 to R343, R354) -/

def State.vib (s : State) (v : Nat) : VibChan := s.meas.vib.look {} v

def State.setVib (s : State) (v : Nat) (x : VibChan) : State := s.ms fun m => { m with vib := m.vib.put {} v x }

/-- Excitation without a high-pass is refused (R338). -/
def vibRefused (cfg : Word) : Bool := wfld cfg 2 1 != 0 && wfld cfg 4 3 == 0

/-- The channel is enabled and not refused. -/
def State.vibLive (s : State) (v : Nat) : Bool :=
  let c := s.reg (Reg.MSR_VIB_CFG v)
  c.getLsbD 0 && !vibRefused c

/-- MSR_VIB_MODE.mode as it acts: 0x3 acts as 0x0. -/
def State.vibMode (s : State) : Nat := let m := s.fld Reg.MSR_VIB_MODE 5 4; if m = 3 then 0 else m

/-- Sampling runs without pause (R341). -/
def State.vibContinuous (s : State) : Bool := s.vibMode == 2 && s.runOrHold

/-- Samples are written now: continuously, or during a burst. -/
def State.vibSampling (s : State) : Bool :=
  s.tileRuns && s.vibMode != 0 && (s.vibContinuous || s.learn.burst.phase == .sampling)

/-- A reserved rate or mode in force is reported (R337, R341). -/
def State.vibModeCheck (s : State) : State :=
  if decide (0xB ≤ s.fld Reg.MSR_VIB_MODE 3 0) || s.fld Reg.MSR_VIB_MODE 5 4 == 3 then s.msrErr else s

/-- The mode changes from `old`: a burst's excitation goes off, and due times before now are none of a sentinel that could
not run until now (R377). -/
def State.modeChanged (s : State) (old : Nat) : State :=
  let s1 := s.ms fun m => { m with excited := false }
  if old = 0 ∧ s.vibMode ≠ 0 then { s1 with learn := { s1.learn with since := s.rtcTicks } } else s1

/-- A write to MSR_VIB_MODE: reserved codes are reported; a change of rate or mode restarts acquisition, and a change of
mode turns a burst's excitation off. A burst under way counts its samples from the new sample 0. -/
def State.vibModeWrite (s : State) (val : Word) : State :=
  let old := s.reg Reg.MSR_VIB_MODE
  let s1 := (s.setReg Reg.MSR_VIB_MODE (val &&& 0x0000FF3F#32)).vibModeCheck
  let s2 := if wfld old 5 4 = wfld val 5 4 then s1 else s1.modeChanged s.vibMode
  if wfld old 5 0 = wfld val 5 0 then s2
  else
    let s3 := (List.range 4).foldl (fun s v =>
      (s.setVib v { s.vib v with run := 0, xrLeft := 0 }).setNat (Reg.MSR_VIB_WIDX v) 0) (s2.ms fun m => { m with vibFresh := true })
    { s3 with learn := { s3.learn with burst := { s3.learn.burst with first := [0, 0, 0, 0] } } }

/-- VIB_MODE_WRITE. -/
def execVibModeWrite (val : Word) (s : State) : Host.Outcome State Fault Refusal :=
  done (if s.power.tileUp then s.vibModeWrite val else s)

/-- A refused configuration of a channel is reported. -/
def State.vibCfgCheck (s : State) (v : Nat) : State :=
  if vibRefused (s.reg (Reg.MSR_VIB_CFG v)) then s.setBit (Reg.MSR_VIB_STAT v) 18 true else s

/-- A write to MSR_VIBv_CFG (R338). -/
def State.vibCfgWrite (s : State) (v : Nat) (val : Word) : State :=
  (s.setReg (Reg.MSR_VIB_CFG v) (val &&& 0x000000FF#32)).vibCfgCheck v

/-- The code of a sample in a ring word. -/
def vibCode (w : Word) : Int := sgn 24 w.toNat

/-- The last 1,024 samples exist and every |code| is below 40 % of full scale. -/
def State.vibQuiet (s : State) (v : Nat) : Bool :=
  let x := s.vib v
  let n := (s.reg (Reg.MSR_VIB_WIDX v)).toNat
  decide (1024 ≤ x.run) && (List.range 1024).all fun i => code40 (vibCode (x.ring.look 0#32 ((n + 2 ^ 32 - 1 - i) % 4096)))

/-- The gain of the sample at this boundary (R354, R371): without auto the configured one; with auto one step down after
a sample of 90 % or with ovr, one step up when the peak is low, within the ceiling. -/
def State.vibGain (s : State) (v : Nat) : Nat :=
  let x := s.vib v
  let c := s.reg (Reg.MSR_VIB_CFG v)
  let top := wfld c 6 5
  if c.getLsbD 7 then
    let n := (s.reg (Reg.MSR_VIB_WIDX v)).toNat
    let w := x.ring.look 0#32 ((n + 2 ^ 32 - 1) % 4096)
    let g := if x.run = 0 then x.gain
      else if code90 (vibCode w) || w.getLsbD 29 then x.gain - 1
      else if s.vibQuiet v then x.gain + 1 else x.gain
    min g top
  else top

/-- The word of a sample (R340). -/
def vibWord (code : Int) (gain : Nat) (settle xr blank ovr fault : Bool) : Word :=
  BitVec.ofNat 32 (uns 24 code + gain % 4 * 2 ^ 24 + b2n settle * 2 ^ 26 + b2n xr * 2 ^ 27 + b2n blank * 2 ^ 28
    + b2n ovr * 2 ^ 29 + b2n fault * 2 ^ 30)

/-- A sample from the converter: its code before calibration, and whether the modulator or filter reached full scale. -/
def State.vibSample (s : State) (v : Nat) (raw : Int) (full : Bool) : State :=
  let x := s.vib v
  let g := s.vibGain v
  let moved := g != x.gain && x.run != 0
  let c := calCode s.calImg (640 + 64 * v) raw
  let ovr := full || c.2
  let code := if ovr then (if raw < 0 then -8388607 else 8388607) else c.1
  let w := vibWord code g moved (moved || x.xrLeft != 0) s.blankInside ovr (x.openNow || x.shortNow)
  let n := (s.reg (Reg.MSR_VIB_WIDX v)).toNat
  let s1 := if s.meas.vibFresh then
      ((s.ms fun m => { m with vibFresh := false }).setNat Reg.MSR_VIB_TSTART_LO s.rtc).setNat Reg.MSR_VIB_TSTART_HI (s.rtc / 2 ^ 32)
    else s
  let s2 := s1.setVib v { x with
    ring := x.ring.put 0#32 (n % 4096) w, gain := g, run := x.run + 1, xrLeft := if moved then 39 else x.xrLeft - 1
    tick := some s.power.up }
  let s3 := s2.setNat (Reg.MSR_VIB_WIDX v) (n + 1)
  if ovr then s3.setBit (Reg.MSR_VIB_STAT v) 19 true else s3

/-- VIB_SAMPLE. -/
def execVibSample (v : Fin 4) (raw : BitVec 24) (full : Bool) (s : State) : Host.Outcome State Fault Refusal :=
  done (if s.vibSampling && s.vibLive v then s.vibSample v (sgn 24 raw.toNat) full else s)

/-- The channel's excitation is on (R341). -/
def State.vibExcited (s : State) (v : Nat) : Bool :=
  s.tileRuns && s.vibLive v && s.fld (Reg.MSR_VIB_CFG v) 2 1 != 0 && s.vibMode != 0 && (s.vibContinuous || s.meas.excited)

/-- BIAS_CHECK (R339). -/
def execBiasCheck (v : Fin 4) (mv : BitVec 16) (s : State) : Host.Outcome State Fault Refusal :=
  done (if s.vibExcited v then
      let o := decide (20000 ≤ mv.toNat)
      let c := decide (mv.toNat ≤ 1000)
      let st := Reg.MSR_VIB_STAT v
      let s1 := (s.setVib v { s.vib v with openNow := o, shortNow := c }).setFld st 15 0 mv.toNat
      let s2 := if o then s1.setBit st 16 true else s1
      if c then s2.setBit st 17 true else s2
    else s)

/-- The window of R343. -/
def State.vibWin (s : State) (j : Nat) : Word :=
  let r := s.reg Reg.MSR_VIB_RDSEL
  (s.vib (wfld r 1 0)).ring.look 0#32 ((wfld r 15 4 + j) % 4096)

/-! ### Linearisation (R347, R350 to R352) -/

/-- Points of a user table. -/
def State.utab (s : State) (u i : Nat) : Int × Int :=
  (sgn 32 (s.reg (Reg.MSR_UTAB (64 * u + 2 * i))).toNat, sgn 32 (s.reg (Reg.MSR_UTAB (64 * u + 2 * i + 1))).toNat)

/-- The table's x values are strictly increasing. -/
def State.utabOk (s : State) (u : Nat) : Bool := (List.range 31).all fun i => decide ((s.utab u i).1 < (s.utab u (i + 1)).1)

/-- The straight line through two points. -/
def lineAt (p r : Int × Int) (q : Q) : Int :=
  rna ((Q.ofInt p.2).add ((q.sub (Q.ofInt p.1)).mul ((Q.ofInt (r.2 - p.2)).div (Q.ofInt (r.1 - p.1)))))

/-- Piecewise linear through the 32 points, clamped beyond the end points. -/
def State.utabValue (s : State) (u : Nat) (q : Q) : Int × Bool :=
  if q.lt (Q.ofInt (s.utab u 0).1) then ((s.utab u 0).2, true)
  else if (Q.ofInt (s.utab u 31).1).lt q then ((s.utab u 31).2, true)
  else
    let i := ((List.range 31).filter fun i => (Q.ofInt (s.utab u i).1).le q).length - 1
    (lineAt (s.utab u i) (s.utab u (i + 1)) q, false)

/-- R(t) ÷ R0 of IEC 60751 at `h` half-thousandths of a degree, in units of 1.6 × 10^-28 (A, B and C of R350). -/
def rtdRatio (h : Int) : Int :=
  let c := if h < 0 then 4183 * (h - 200000) * h * h * h else 0
  16 * 10 ^ 27 + 39083 * h * (8 * 10 ^ 17) - 5775 * h * h * (4 * 10 ^ 11) - c

/-- The inverse of an RTD curve (R350). -/
def rtdValue (curve : Nat) (q : Q) : Int × Bool :=
  let r0 : Nat := if curve = 0x0A then 100000 else 1000000
  curveInverse curve (fun h => ⟨rtdRatio h * r0, 16 * 10 ^ 27⟩) (-200000) 850000 q

/-- What a slot's precision conversion yields: its value, and the flags range and cjc. -/
structure PrecOut where
  value : Int
  range : Bool := false
  cjc : Bool := false
  deriving DecidableEq, Repr

/-- A thermocouple slot (R350, R351): `q` in units of 10 nV. -/
def State.tcValue (s : State) (cfg1 : Word) (q : Q) : PrecOut :=
  let c := wfld cfg1 4 0
  let j := wfld cfg1 11 8
  let cj := cfg1.getLsbD 7
  let raw := s.reg (Reg.MSR_PCH_RAW j)
  let bad := cj && (raw.getLsbD 27 || raw.getLsbD 31 || !s.bit (Reg.MSR_PCH_SEQ j) 25)
  let r := tcInverse c (if cj then q.add (tcVolts c (sgn 32 (s.reg (Reg.MSR_PCH_VAL j)).toNat)) else q)
  { value := r.1, range := r.2, cjc := bad }

/-- R_REF of the calibration in force, in mΩ. -/
def State.rRef (s : State) : Nat := nfld s.calImg 927 896

/-- q of R347: in units of 10 nV for the internal reference, in mΩ for a ratiometric slot. -/
def State.precQ (s : State) (cfg0 cfg1 : Word) (g : Nat) (cm cl : Int) : Q :=
  let fs := 2 ^ g * 2 ^ 23
  if cfg0.getLsbD 29 then
    let r : Int := s.rRef
    match wfld cfg0 27 26 with
    | 0 => ⟨cm * r - ((wfld cfg1 31 25 * 100 * fs : Nat) : Int), fs⟩
    | 1 => ⟨(cm - cl) * r, fs⟩
    | _ => ⟨cm * r, fs⟩
  else ⟨cm * 250000000, fs⟩

/-- curve() and the final rounding of R347. A value that its curve's reference does not fit is free. -/
def State.precCurve (s : State) (cfg0 cfg1 : Word) (g : Nat) (cm cl : Int) : PrecOut :=
  let q := s.precQ cfg0 cfg1 g cm cl
  let c := wfld cfg1 4 0
  let ratio := cfg0.getLsbD 29
  let u := wfld cfg1 6 5
  let odd : PrecOut := { value := let n := q.norm; Config.curveMismatch c ratio n.num n.den }
  let plain := fun (r : Int × Bool) => ({ value := r.1, range := r.2 } : PrecOut)
  match c, ratio with
  | 0, false => plain (clampR (-250000000) 250000000 (rna q))
  | 1, true => plain (clampR 0 s.rRef (rna q))
  | 0x0A, true => plain (rtdValue 0x0A q)
  | 0x0B, true => plain (rtdValue 0x0B q)
  | 0x0C, true => { value := rna ⟨cm * 10 ^ 9, 2 ^ g * 2 ^ 23⟩ }
  | 0x0D, _ => if s.utabOk u then plain (clampR (-2147483648) 2147483647 (lineAt (s.utab u 0) (s.utab u 1) q)) else { value := 0, range := true }
  | 0x0E, _ => if s.utabOk u then plain (s.utabValue u q) else { value := 0, range := true }
  | n, r => if decide (2 ≤ n ∧ n ≤ 9) && !r then s.tcValue cfg1 q else odd

/-- The slot's result, with range also set where the curve needs an R_REF that no valid calibration gives (R374). -/
def State.precValue (s : State) (cfg0 cfg1 : Word) (g : Nat) (cm cl : Int) : PrecOut :=
  let o := s.precCurve cfg0 cfg1 g cm cl
  { o with range := o.range || (cfg0.getLsbD 29 && wfld cfg1 4 0 != 0x0C && s.meas.met.cal.isNone) }

/-! ### The scan (R344, R345, R353, R371, R373) -/

/-- Change the precision channel. -/
def State.pc (s : State) (f : Prec → Prec) : State := s.ms fun m => { m with prec := f m.prec }

/-- The slot acts as disabled: one pin twice, or a reserved curve. -/
def State.slotBad (s : State) (c : Nat) : Bool :=
  let a := s.reg (Reg.MSR_PCH_CFG0 c)
  wfld a 3 0 == wfld a 7 4 || decide (0x0F ≤ s.fld (Reg.MSR_PCH_CFG1 c) 4 0)

/-- Slots enabled in the mask, and those of them that convert. -/
def State.slotsOn (s : State) : List Nat := bitsOf 16 (s.fld Reg.MSR_SCAN_CTRL 15 0)
def State.slotsLive (s : State) : List Nat := s.slotsOn.filter fun c => !s.slotBad c

/-- MSR_STATUS.cfg_err where an enabled slot acts as disabled. -/
def State.slotErr (s : State) : State := if s.slotsOn.any s.slotBad then s.msrErr else s

def State.precOn (s : State) : Bool := s.tileRuns && s.bit Reg.MSR_CTRL 0

/-- Step 1 of a slot: its configuration is taken, with the gain it starts from. -/
def State.slotBegin (s : State) (c : Nat) : State :=
  let a := s.reg (Reg.MSR_PCH_CFG0 c)
  let p := s.meas.prec.slots.look {} c
  let top := wfld a 21 19
  let g := if a.getLsbD 22 then min p.gain top else top
  (s.pc fun x => { x with
    phase := .discharge, slot := c, cfg0 := a, cfg1 := s.reg (Reg.MSR_PCH_CFG1 c), main := none, tripped := false, opened := false,
    blanked := false, slots := x.slots.put {} c { gain := g, fresh := p.fresh || g != p.gain } }).setFld Reg.MSR_SCAN_STAT 3 0 c

/-- A conversion begins: what holds at its start. -/
def State.convertBegin (s : State) : State :=
  let o := s.blankOpen
  s.pc fun x => { x with phase := .convert, main := none, opened := x.opened || x.tripped, blanked := o }

/-- The scan starts, if it may. -/
def State.scanStart (s : State) : State :=
  if s.precOn then
    match s.meas.prec.phase, s.slotsLive with
    | .idle, c :: _ => s.slotErr.slotBegin c
    | .idle, [] => s.slotErr
    | _, _ => s
  else s.pc fun x => { x with phase := .idle }

/-- After a slot's last conversion: the next slot, or the same again without a gap. -/
def State.scanNext (s : State) : State :=
  let cur := s.meas.prec.slot
  let s0 := s.slotErr
  let wrap := fun (s : State) => s.setFld Reg.MSR_SCAN_STAT 31 8 (s.fld Reg.MSR_SCAN_STAT 31 8 + 1)
  match s.slotsLive with
  | [] => s0.pc fun x => { x with phase := .idle }
  | c :: t =>
    if c = cur ∧ t = [] then (wrap (s0.pc fun x => { x with opened := false })).convertBegin
    else match (c :: t).find? (fun k => decide (cur < k)) with
      | some k => s0.slotBegin k
      | none => (wrap s0).slotBegin c

/-- PRECISION_DISCHARGE_END: steps 3 and 4 begin. -/
def execPrecisionDischargeEnd (s : State) : Host.Outcome State Fault Refusal :=
  done (if s.precOn && s.meas.prec.phase == .discharge then s.pc fun x => { x with phase := .settle } else s)

/-- PRECISION_SETTLE_END: step 5 begins. -/
def execPrecisionSettleEnd (s : State) : Host.Outcome State Fault Refusal :=
  done (if s.precOn && s.meas.prec.phase == .settle then s.convertBegin else s)

/-- BURNOUT_TRIP: the comparator's output changes while the burn-out currents are connected (R348). -/
def execBurnoutTrip (on : Bool) (s : State) : Host.Outcome State Fault Refusal :=
  let p := s.meas.prec
  done (if s.precOn && p.cfg0.getLsbD 28 && (p.phase == .settle || p.converting) then
    s.pc fun x => { x with tripped := on, opened := x.opened || on } else s)

/-- The slot makes two conversions (R347). -/
def threeWire (cfg0 : Word) : Bool := cfg0.getLsbD 29 && wfld cfg0 27 26 == 1

/-- The gain of the slot's next conversion (R353). -/
def nextGain (cfg0 : Word) (g : Nat) (code : Int) (ovr : Bool) : Nat :=
  if cfg0.getLsbD 22 then
    if ovr || code90 code then g - 1 else if code40 code then min (g + 1) (wfld cfg0 21 19) else g
  else g

/-- MSR_PCHc_RAW (R374). -/
def rawWord (code : Int) (gain : Nat) (opened ovr settle blank range : Bool) : Word :=
  BitVec.ofNat 32 (uns 24 code + gain % 8 * 2 ^ 24 + b2n opened * 2 ^ 27 + b2n ovr * 2 ^ 28 + b2n settle * 2 ^ 29
    + b2n blank * 2 ^ 30 + b2n range * 2 ^ 31)

/-- The slot's result is computed and published, and reaches the switches that watch it. -/
def State.precPublish (s : State) (cm cl : Int) (ovr : Bool) : State :=
  let p := s.meas.prec
  let c := p.slot
  let sl := p.slots.look {} c
  let o := s.precValue p.cfg0 p.cfg1 sl.gain cm cl
  let seq := s.reg (Reg.MSR_PCH_SEQ c)
  let ng := nextGain p.cfg0 sl.gain cm ovr
  let s1 := s.setReg (Reg.MSR_PCH_VAL c) (BitVec.ofNat 32 (uns 32 o.value))
  let s2 := s1.setReg (Reg.MSR_PCH_RAW c) (rawWord cm sl.gain p.opened ovr (sl.fresh && seq.getLsbD 25) p.blanked o.range)
  let s3 := s2.setNat (Reg.MSR_PCH_SEQ c) ((wfld seq 23 0 + 1) % 2 ^ 24 + b2n o.cjc * 2 ^ 24 + 2 ^ 25)
  let s4 := s3.pc fun x => { x with slots := x.slots.put {} c { gain := ng, fresh := ng != sl.gain } }
  s4.swValue 0 c o.value p.blanked p.opened

/-- PRECISION_CONVERSION_END: the main conversion of a 3-wire slot is kept for the lead conversion; any other ends the
slot. -/
def execPrecisionConversionEnd (raw : BitVec 24) (full : Bool) (s : State) : Host.Outcome State Fault Refusal :=
  let p := s.meas.prec
  let g := (p.slots.look {} p.slot).gain
  let c := calCode s.calImg (128 + 64 * g) (sgn 24 raw.toNat)
  let ovr := full || c.2
  done (if s.precOn then
      match p.phase with
      | .convert =>
        if threeWire p.cfg0 then s.pc fun x => { x with phase := .lead, main := some (c.1, ovr) }
        else (s.precPublish c.1 0 ovr).scanNext
      | .lead =>
        match p.main with
        | some m => (s.precPublish m.1 c.1 (m.2 || ovr)).scanNext
        | none => s
      | _ => s
    else s)

end Sys2Proof.Machine
end

