-- ==== Sys2Proof/Machine/Metrology.lean ====
section
/-! DEFINITION. Pulse inputs, metrology quantities, the seal and calibration session, the metrology log and the checkpoint
ring (R356, R357, R361 to R370). -/

namespace Sys2Proof.Machine

/-! ### Pulse inputs (R356, R357) -/

/-- Role and engine of an input, its calibration value, and a role input's rate timeout. -/
def State.role (s : State) (p : Nat) : Nat := nfld s.calImg (1058 + 4 * p) (1056 + 4 * p)
def State.roleEng (s : State) (p : Nat) : Nat := nfld s.calImg (1059 + 4 * p) (1059 + 4 * p)
def State.kf (s : State) (p : Nat) : Nat := nfld s.calImg (959 + 32 * p) (928 + 32 * p)
def State.runMrpm (s : State) (e : Nat) : Nat := nfld s.calImg (1119 + 32 * e) (1088 + 32 * e)
def State.runDwell (s : State) : Nat := nfld s.calImg 1159 1152

/-- The input is enabled and counts this edge. -/
def State.edgeCounts (s : State) (p : Nat) (rising : Bool) : Bool :=
  if s.role p = 0 then
    let c := s.reg (Reg.MSR_PLS_CFG p)
    c.getLsbD 31 && (rising != c.getLsbD 8)
  else rising

/-- The rate of R357 from a period in sampling-clock cycles; a value that does not fit its register is free. -/
def State.pulseRate (s : State) (p period : Nat) : Nat :=
  let v := match s.role p with
    | 0 => rnaNat (16384000 * 1000) period
    | 4 => rnaNat (16384000 * 60000) (period * s.kf p)
    | _ => rnaNat (16384000 * 3600000000) (period * s.kf p)
  if v < 2 ^ 32 then v else Config.overflow v % 2 ^ 32

def State.pulse (s : State) (p : Nat) : Pulse := s.meas.pulses.look {} p
def State.setPulse (s : State) (p : Nat) (x : Pulse) : State := s.ms fun m => { m with pulses := m.pulses.put {} p x }
def State.meter (s : State) (e : Nat) : Meter := s.meas.meters.look {} e
def State.setMeter (s : State) (e : Nat) (x : Meter) : State := s.ms fun m => { m with meters := m.meters.put {} e x }

/-- A shaft-speed value joins, starts or breaks the dwell run of its engine. -/
def Meter.value (x : Meter) (now level v : Nat) : Meter :=
  let q := if x.running then decide (v < level) else decide (level ≤ v)
  if q then (match x.run with | some _ => x | none => { x with run := some (!x.running, now) }) else { x with run := none }

/-- A new rate value: published, and given to the switches and, for a shaft input, to its engine. -/
def State.rateValue (s : State) (p v : Nat) : State :=
  let s1 := (s.setNat (Reg.MSR_PLS_RATE p) v).swValue 1 p v false false
  if s.role p = 4 then
    let e := s.roleEng p
    s1.setMeter e ((s1.meter e).value s.power.up (s.runMrpm e) v)
  else s1

/-- An edge that the input counts: the count, and from the second edge on the period and the rate. -/
def State.pulseEdge (s : State) (p : Nat) : State :=
  let x := s.pulse p
  let s1 := s.setReg64 (Reg.MSR_PLS_CNT_LO p) ((s.reg64 (Reg.MSR_PLS_CNT_LO p) + 1) % 2 ^ 64)
  let s2 := s1.setPulse p { x with last := some s.power.up, sinceCal := x.sinceCal + 1 }
  match x.last with
  | none => s2
  | some t =>
    let per := min (s.power.up - t) (2 ^ 32 - 1)
    (s2.setNat (Reg.MSR_PLS_PER p) per).rateValue p (s.pulseRate p per)

/-- PULSE_EDGE: an accepted edge. Two edges of one input lie at least a sampling cycle apart. -/
def execPulseEdge (p : Fin 4) (rising : Bool) (s : State) : Host.Outcome State Fault Refusal :=
  done (if s.tileRuns && s.edgeCounts p rising && (s.pulse p).last != some s.power.up then s.pulseEdge p else s)

/-- The rate timeout of an input, in ticks. -/
def State.rateTimeout (s : State) (p : Nat) : Nat :=
  (if s.role p = 0 then max 1 (s.fld (Reg.MSR_PLS_CFG p) 23 16) else nfld s.calImg 1183 1176) * 1638400

/-- PULSE_RATE_TIMEOUT. -/
def execPulseRateTimeout (p : Fin 4) (s : State) : Host.Outcome State Fault Refusal :=
  match s.tileRuns, (s.pulse p).last with
  | true, some t => done (if s.rateTimeout p ≤ s.power.up - t then s.rateValue p 0 else s)
  | _, _ => done s

/-! ### Metrology quantities (R357) -/

/-- Run time in ms. -/
def State.runMs (s : State) (e : Nat) : Nat :=
  let x := s.meter e
  x.runMs + (if x.running then (s.power.up - x.start) / tickMs else 0)

/-- Net fuel in mL. -/
def State.netFuel (s : State) (e : Nat) : Int :=
  (s.meter e).base + rna ((List.range 4).foldl (fun q p =>
    if s.roleEng p = e then
      match s.role p with
      | 1 => q.add ⟨(((s.pulse p).sinceCal * 10 ^ 6 : Nat) : Int), s.kf p⟩
      | 3 => q.add ⟨(((s.pulse p).sinceCal * 10 ^ 6 : Nat) : Int), s.kf p⟩
      | 2 => q.sub ⟨(((s.pulse p).sinceCal * 10 ^ 6 : Nat) : Int), s.kf p⟩
      | _ => q
    else q) (Q.ofInt 0))

/-- MSR_TOTe_RUN, and MSR_TOTe_FUEL_HI:LO. -/
def State.totRun (s : State) (e : Nat) : Nat := s.runMs e / 1000
def State.totFuel (s : State) (e : Nat) : Nat := uns 48 (s.netFuel e)

/-! ### Checkpoints (R369, R370) -/

/-- Bytes 0 to 59 of a record with their CRC-32. -/
def withCrc (n : Nat) : Nat := n % 2 ^ 480 + crc32 (toBytes 60 n) * 2 ^ 480

def crcOk (n : Nat) : Bool := nfld n 511 480 == crc32 (toBytes 60 n)

/-- The checkpoint record of R370. -/
def State.ckptRecord (s : State) : Nat :=
  let m := s.meas.met
  let counts := (List.range 4).foldl (fun n p => n + ((s.pulse p).sinceCal % 2 ^ 48) * 2 ^ (32 + 48 * p)) 0
  let engs := (List.range 2).foldl (fun n e =>
    n + uns 48 (s.meter e).base * 2 ^ (224 + 48 * e) + (s.runMs e % 2 ^ 40) * 2 ^ (320 + 40 * e)
      + b2n (s.meter e).running * 2 ^ (400 + e)) 0
  withCrc (m.cseq % 2 ^ 32 + counts + engs + (s.power.rtcSec % 2 ^ 40) * 2 ^ 402 + (m.wpos % 2 ^ 32) * 2 ^ 442)

/-- The state of the meters is written to the next slot. -/
def State.checkpoint (s : State) : State :=
  let r := s.ckptRecord
  s.mt fun m => { m with ckpt := m.ckpt.put 0 (m.cseq % 768) r, cseq := m.cseq + 1, lastCkpt := s.power.up }

/-- CHECKPOINT_TIMER. -/
def execCheckpointTimer (s : State) : Host.Outcome State Fault Refusal :=
  done (if s.tileRuns && decide (60 * tickHz ≤ s.power.up - s.meas.met.lastCkpt) then s.checkpoint else s)

/-- The valid slot of highest cseq. -/
def Metrology.newestCkpt (m : Metrology) : Option (Nat × Nat) :=
  m.ckpt.foldl (fun best e =>
    if crcOk e.2 then
      match best with
      | some b => if nfld b.2 31 0 < nfld e.2 31 0 then some e else best
      | none => some e
    else best) none

/-- A write of 1 to MSR_CKPT_SEL.cap. -/
def State.ckptSelect (s : State) : State := (s.mt fun m => { m with ckptSearch := true }).setBit Reg.MSR_CKPT_CAPST 1 true

/-- CHECKPOINT_SELECT. -/
def execCheckpointSelect (s : State) : Host.Outcome State Fault Refusal := done (if s.power.tileUp then s.ckptSelect else s)

/-- The 16 words of a record. -/
def recWords (n : Nat) : List Word := (List.range 16).map fun j => BitVec.ofNat 32 (n / 2 ^ (32 * j))

/-- CHECKPOINT_SEARCH_DONE. -/
def execCheckpointSearchDone (s : State) : Host.Outcome State Fault Refusal :=
  done (if s.tileRuns && s.meas.met.ckptSearch then
      let s1 := s.mt fun m => { m with ckptSearch := false }
      match s.meas.met.newestCkpt with
      | some e => (s1.setRegs (Reg.MSR_CKPT_DATA 0) (recWords e.2)).setNat Reg.MSR_CKPT_CAPST (1 + e.1 * 2 ^ 16)
      | none => s1.setFld Reg.MSR_CKPT_CAPST 1 0 0
    else s)

/-! ### The log (R366 to R368) -/

/-- A record joins those due: behind every earlier one, and among those due in the same cycle in the order of the type
codes. -/
def dueInsert (d : LogDue) : List LogDue → List LogDue
  | [] => [d]
  | x :: t => if x.time = d.time ∧ d.typ < x.typ then d :: x :: t else x :: dueInsert d t

/-- A record falls due. -/
def State.logDue (s : State) (d : LogDue) : State := s.mt fun m => { m with due := dueInsert { d with time := s.power.up } m.due }

/-- The seal counter and calibration checksum in force. -/
def Metrology.sealCtr (m : Metrology) : Nat := match m.cal with | some c => c.2 | none => 0
def Metrology.calCrc (m : Metrology) : Nat := match m.cal with | some c => nfld c.1 2047 2016 | none => 0

/-- The record of R366. -/
def State.logRecord (s : State) (d : LogDue) : Nat :=
  let m := s.meas.met
  withCrc (m.seq % 2 ^ 32 + d.typ % 16 * 2 ^ 32 + b2n m.fuse * 2 ^ 36 + b2n d.gap * 2 ^ 37 + b2n d.eng * 2 ^ 38
    + b2n (s.bit Reg.PWR_STATUS 10) * 2 ^ 39 + d.detail % 256 * 2 ^ 40 + m.sealCtr % 2 ^ 16 * 2 ^ 48 + m.calCrc * 2 ^ 64
    + (s.power.rtcSec % 2 ^ 40) * 2 ^ 96 + (s.totRun 0 % 2 ^ 32) * 2 ^ 144 + (s.totRun 1 % 2 ^ 32) * 2 ^ 176
    + s.totFuel 0 * 2 ^ 208 + s.totFuel 1 * 2 ^ 256 + (d.aux % 2 ^ 32) * 2 ^ 304)

/-- One write of a record at the write position, read back. A failed write leaves a slot without a valid record. -/
def State.logTry (s : State) (r tries : Nat) (ok : Bool) : State :=
  let s1 := s.mt fun m => { m with log := m.log.put 0 (m.wpos % 7168) (if ok then r else 0), wpos := m.wpos + 1 }
  if ok then (s1.mt fun m => { m with cur := none }).setNat Reg.MSR_LOG_HEAD (nfld r 31 0)
  else if tries + 1 < 8 then s1.mt fun m => { m with cur := some (r, tries + 1) }
  else (s1.mt fun m => { m with cur := none, kept := some r }).setBit Reg.MSR_STATUS 4 true

/-- LOG_RECORD_WRITE: the record being retried, or a kept record once a new one is due, or the first record due. -/
def execLogRecordWrite (ok : Bool) (s : State) : Host.Outcome State Fault Refusal :=
  let m := s.meas.met
  done (if s.tileRuns then
      match m.cur, m.kept, m.due with
      | some c, _, _ => s.logTry c.1 c.2 ok
      | none, _, [] => s
      | none, some k, _ :: _ => (s.mt fun m => { m with kept := none }).logTry k 0 ok
      | none, none, d :: t => ((s.mt fun m => { m with due := t, seq := m.seq + 1 })).logTry (s.logRecord d) 0 ok
    else s)

/-- LOG_PERIODIC. -/
def execLogPeriodic (s : State) : Host.Outcome State Fault Refusal :=
  done (if s.tileRuns && decide (nfld s.calImg 1175 1160 * 60 * tickHz ≤ s.power.up - s.meas.met.lastPeriodic) then
    (s.mt fun m => { m with lastPeriodic := s.power.up }).logDue { typ := 1 } else s)

/-- A write to MSR_LOG_SEL. -/
def State.logSelect (s : State) (seq : Word) : State :=
  ((s.mt fun m => { m with search := some seq.toNat }).setReg Reg.MSR_LOG_SEL seq).setBit Reg.MSR_LOG_CAPST 1 true

/-- LOG_SELECT. -/
def execLogSelect (seq : Word) (s : State) : Host.Outcome State Fault Refusal := done (if s.power.tileUp then s.logSelect seq else s)

/-- The valid record of a sequence number. -/
def Metrology.find (m : Metrology) (seq : Nat) : Option Nat :=
  (m.log.find? fun e => crcOk e.2 && nfld e.2 31 0 == seq).map Prod.snd

/-- LOG_SEARCH_DONE. -/
def execLogSearchDone (s : State) : Host.Outcome State Fault Refusal :=
  match s.tileRuns, s.meas.met.search with
  | true, some n =>
    let s1 := s.mt fun m => { m with search := none }
    match decide (n ≤ (s.reg Reg.MSR_LOG_HEAD).toNat), s.meas.met.find n with
    | true, some r => done ((s1.setRegs (Reg.MSR_LOG_DATA 0) (recWords r)).setFld Reg.MSR_LOG_CAPST 1 0 1)
    | _, _ => done (s1.setFld Reg.MSR_LOG_CAPST 1 0 0)
  | _, _ => done s

/-! ### Engines (R357, R367) -/

/-- A qualifying run of shaft speeds has lasted its dwell: the engine starts or stops, dated to the run's first value. -/
def State.dwellEnd (s : State) (e : Nat) (on : Bool) (start : Nat) : State :=
  let x := s.meter e
  let y := if on then { x with running := true, start := start, run := none }
    else { x with running := false, runMs := x.runMs + (start - x.start) / tickMs, run := none }
  (((s.setMeter e y).logDue { typ := if on then 2 else 3, eng := decide (e = 1) }).checkpoint).swValue 4 e (b2n on) false false

/-- RUN_DWELL_END. -/
def execRunDwellEnd (e : Fin 2) (s : State) : Host.Outcome State Fault Refusal :=
  match s.tileRuns, (s.meter e).run with
  | true, some (on, start) => done (if s.runDwell * tickHz ≤ s.power.up - start then s.dwellEnd e on start else s)
  | _, _ => done s

/-! ### The calibration session (R362 to R364) -/

/-- A value of the image lies outside its range, or a reserved bit is set. -/
def calBadValue (n : Nat) : Bool :=
  let roles := (List.range 4).map fun p => (nfld n (1058 + 4 * p) (1056 + 4 * p), nfld n (1059 + 4 * p) (1059 + 4 * p), nfld n (959 + 32 * p) (928 + 32 * p))
  ((List.range 12).any fun i =>
      let off := sgn 32 (nfld n (159 + 64 * i) (128 + 64 * i))
      let gc := nfld n (191 + 64 * i) (160 + 64 * i)
      decide (2 ^ 20 < off.natAbs) || decide (gc < 0x3999999A) || decide (0x46666666 < gc))
    || decide (nfld n 927 896 < 100000) || decide (100000000 < nfld n 927 896)
    || (roles.any fun r => decide (4 < r.1) || (r.1 != 0 && decide (r.2.2 = 0)) || (r.1 == 4 && decide (1024 < r.2.2)))
    || ((List.range 2).any fun e => roles.any (fun r => r.1 == 4 && r.2.1 == e) && nfld n (1119 + 32 * e) (1088 + 32 * e) == 0)
    || nfld n 1159 1152 == 0 || nfld n 1175 1160 == 0 || decide (1440 < nfld n 1175 1160) || nfld n 1183 1176 == 0
    || nfld n 63 49 != 0 || nfld n 2015 1184 != 0

/-- The result code of MSR_CAL_STATUS that the checks give; 0x01 when every check passes. -/
def Metrology.calCheck (m : Metrology) (ack : Bool) (n : Nat) : Nat :=
  if !ack then 2
  else if nfld n 31 0 != 0x4C414342 || nfld n 47 32 != 1 then 3
  else if nfld n 2047 2016 != crc32 (toBytes 252 n) then 4
  else if nfld n 127 64 != m.devid then 5
  else if calBadValue n then 6
  else if m.sealCtr == 0xFFFF then 7
  else if !n.testBit 48 && m.fuse then 8
  else 1

/-- The registers that show the sealed set. -/
def State.sealShow (s : State) : State :=
  let m := s.meas.met
  let img := match m.cal with | some c => c.1 | none => 0
  let s1 := s.setNat Reg.MSR_SEAL (b2n m.fuse + b2n m.session * 2 + b2n m.cal.isSome * 4 + b2n (m.cal.isSome && m.copyB) * 8 + m.sealCtr * 2 ^ 16)
  let s2 := (s1.setNat Reg.MSR_CAL_CRC m.calCrc).setReg64 Reg.MSR_DEVID_LO m.devid
  s2.setRegs (Reg.MSR_CAL_WIN 0) ((List.range 64).map fun j => BitVec.ofNat 32 (img / 2 ^ (32 * j)))

/-- CAL_SESSION_OPEN: CAL_EN, low since the last session, has held high for 100 ms. -/
def execCalSessionOpen (s : State) : Host.Outcome State Fault Refusal :=
  done (if s.tileRuns && !s.meas.met.session then (s.mt fun m => { m with session := true }).sealShow else s)

/-- The session ends with a result code. -/
def State.calEnd (s : State) (code : Nat) : State :=
  ((s.mt fun m => { m with session := false }).setNat Reg.MSR_CAL_STATUS (code + 256)).sealShow

/-- A new calibration comes into force: the totals become the bases, the counts begin anew, an engine without a shaft
input stops. -/
def State.recalibrate (s : State) (n ctr : Nat) : State :=
  let s1 := (List.range 2).foldl (fun t e =>
    t.setMeter e { s.meter e with base := s.netFuel e }) s
  let s2 := (List.range 4).foldl (fun t p => t.setPulse p { t.pulse p with sinceCal := 0 }) s1
  let s3 := s2.mt fun m => { m with calA := some (n, ctr), calB := some (n, ctr), cal := some (n, ctr), copyB := false, fuse := m.fuse || n.testBit 48 }
  (List.range 2).foldl (fun t e =>
    if (List.range 4).any fun p => t.role p == 4 && t.roleEng p == e then t
    else
      let u := t.setMeter e { t.meter e with running := false, runMs := t.runMs e, run := none }
      if (t.meter e).running then u.swValue 4 e 0 false false else u) s3

/-- The image has passed or failed its checks; `okA`, `okB`: the copies read back as written. -/
def State.calImage (s : State) (ack : Bool) (n : Nat) (okA okB : Bool) : State :=
  let m := s.meas.met
  let code := m.calCheck ack n
  if code ≠ 1 then (s.logDue { typ := 5, detail := code }).calEnd code
  else if okA && okB then
    (((s.recalibrate n (m.sealCtr + 1)).logDue { typ := 4, aux := m.calCrc }).checkpoint).calEnd 1
  else
    ((s.mt fun m => { m with calA := if okA then some (n, m.sealCtr + 1) else none, calB := if okA then none else m.calB }).logDue
      { typ := 5, detail := 9 }).calEnd 9

/-- CAL_IMAGE_READ. -/
def execCalImageRead (ack : Bool) (img : BitVec 2048) (okA okB : Bool) (s : State) : Host.Outcome State Fault Refusal :=
  done (if s.tileRuns && s.meas.met.session then s.calImage ack img.toNat okA okB else s)

/-! ### Tile power-on (R335, R363, R369) -/

/-- The copy of R363 in force. -/
def Metrology.select (m : Metrology) : Metrology :=
  match m.calA, m.calB with
  | some a, some b => if a.2 < b.2 then { m with cal := some b, copyB := true } else { m with cal := some a, copyB := false }
  | some a, none => { m with cal := some a, copyB := false }
  | none, some b => { m with cal := some b, copyB := true }
  | none, none => { m with cal := none, copyB := false }

/-- The next sequence number after the newest valid record. -/
def Metrology.nextSeq (m : Metrology) : Nat :=
  m.log.foldl (fun n e => if crcOk e.2 then max n (nfld e.2 31 0 + 1) else n) 0

/-- What of the metrology partition lives through a power loss, with the rest as at power-on. -/
def Metrology.powerOn (m : Metrology) : Metrology :=
  ({ calA := m.calA, calB := m.calB, fuse := m.fuse, devid := m.devid, log := m.log, wpos := m.wpos, seq := m.nextSeq
     ckpt := m.ckpt, cseq := (match m.newestCkpt with | some e => nfld e.2 31 0 + 1 | none => 0), img0 := m.img0, img1 := m.img1
     due := [{ typ := 6, gap := true, aux := 0xFFFFFFFF }] } : Metrology).select

/-- The meters and counts of a checkpoint. -/
def State.restoreCkpt (s : State) (r : Nat) : State :=
  let s1 := (List.range 4).foldl (fun s p =>
    let n := nfld r (79 + 48 * p) (32 + 48 * p)
    (s.setPulse p { sinceCal := n }).setReg64 (Reg.MSR_PLS_CNT_LO p) n) s
  (List.range 2).foldl (fun s e => s.setMeter e {
    base := sgn 48 (nfld r (271 + 48 * e) (224 + 48 * e)), runMs := nfld r (359 + 40 * e) (320 + 40 * e)
    running := r.testBit (400 + e), start := s.power.up }) s1

/-- The valid records of the log that are newer than the newest valid checkpoint, oldest first; all that the ring holds
where no checkpoint is valid. -/
def Metrology.recordsSince (m : Metrology) : List Nat :=
  let w := match m.newestCkpt with
    | some c => nfld c.2 473 442
    | none => 0
  let n := min 7168 ((m.wpos % 2 ^ 32 + 2 ^ 32 - w) % 2 ^ 32)
  ((List.range n).map fun i => m.log.look 0 ((m.wpos - n + i) % 7168)).filter crcOk

/-- A record of the log newer than the state resumed so far: a start or stop gives its engine's running state, a RECAL
begins the counts anew, and the run times and totals are the record's. A run time that the record gives in whole seconds
keeps the milliseconds already known of that second. -/
def State.restoreRecord (s : State) (r : Nat) : State :=
  let typ := nfld r 35 32
  let s1 := if typ = 4 then (List.range 4).foldl (fun s p => s.setPulse p { s.pulse p with sinceCal := 0 }) s else s
  (List.range 2).foldl (fun s e =>
    let x := s.meter e
    let on := if b2n (r.testBit 38) = e ∧ (typ = 2 ∨ typ = 3) then typ == 2 else x.running
    let fuel := sgn 48 (nfld r (255 + 48 * e) (208 + 48 * e))
    s.setMeter e { x with
      running := on, start := s.power.up, runMs := max x.runMs (1000 * nfld r (175 + 32 * e) (144 + 32 * e))
      base := x.base + (fuel - s.netFuel e) }) s1

/-- The newest valid state of the checkpoint ring and the log (R369). -/
def State.restoreMeters (s : State) : State :=
  let m := s.meas.met
  let s1 := match m.newestCkpt with
    | some e => s.restoreCkpt e.2
    | none => s
  m.recordsSince.foldl State.restoreRecord s1

/-- The configuration image is restored, or the Reset values stand: what a restored value breaks is reported as on a
write, and the switches are committed as restored. -/
def State.restoreCfg (s : State) : State :=
  match s.meas.met.image with
  | none => s
  | some x =>
    let s1 := (x.2.foldl (fun s e => s.setReg e.1 e.2) s).setBit Reg.MSR_STATUS 0 true
    let s2 := (List.range 4).foldl State.vibCfgCheck s1.vibModeCheck
    (List.range 8).foldl (fun s k => s.swCommit k (s.reg (Reg.MSR_SW_CFG k))) s2

/-- The front end at tile power-on reset, its registers at their Reset values. -/
def State.measPowerOn (s : State) : State :=
  let m := s.meas.met.powerOn
  let s1 := ((s.ms fun x => { met := m, blankBall := x.blankBall }).setNat Reg.MSR_LOG_HEAD (m.seq - 1)).sealShow
  s1.restoreMeters.restoreCfg.blankEval.scanStart

end Sys2Proof.Machine
end

