-- ==== Sys2Proof/Machine/EventCore.lean ====
section
/-! DEFINITION. The event core, the three-factor rule, epochs and the commit sweep (R383 to R396). -/

namespace Sys2Proof.Machine

/-- Change the sentinel and event core, and its burst. -/
def State.ln (s : State) (f : Learn → Learn) : State := { s with learn := f s.learn }
def State.bu (s : State) (f : Burst → Burst) : State := s.ln fun l => { l with burst := f l.burst }

/-- LRN_STATUS.cfg_err and cmd_ref. -/
def State.lrnErr (s : State) : State := s.setBit Reg.LRN_STATUS 2 true
def State.lrnRefused (s : State) : State := s.setBit Reg.LRN_STATUS 4 true

/-- A reserved length, window or encoding span acts as its Reset value and is reported (R419). -/
def State.sentCheck (s : State) (v : Word) : State := if wfld v 17 16 = 3 then s.lrnErr else s
def State.winCheck (s : State) (v : Word) : State :=
  let w := if wfld v 7 0 < 8 then 0x40 else wfld v 7 0
  if wfld v 7 0 < 8 ∨ wfld v 15 8 = 0 ∨ w < wfld v 15 8 then s.lrnErr else s

/-- The machine is confirmed (R391). -/
def State.confirmed (s : State) : Bool :=
  s.fld Reg.LRN_CONFIRM 10 0 != 0 || (s.bit Reg.LRN_CONFIRM 16 && s.learn.ballHigh)

/-- m_neg: positive values act as 0 (R420). -/
def mNeg (rule1 : Word) : Int := min 0 (sgn 8 (wfld rule1 15 8))

/-- The modulator of a step that starts now (R391). -/
def State.modulator (s : State) (rule1 : Word) : Int :=
  if !s.bit Reg.LRN_CTRL 1 || s.learn.noModel then 0
  else if s.confirmed then (wfld rule1 6 0 : Nat) else mNeg rule1

/-! ### Stochastic rounding (R388) -/

def lfsrNext (l : Nat) : Nat :=
  let fb := (nfld l 15 15 + nfld l 13 13 + nfld l 12 12 + nfld l 10 10) % 2
  (l * 2 + fb) % 65536

/-- sr: the rounded value and the group's LFSR after the draw. -/
def sr (x : Int) (n l : Nat) : Int × Nat :=
  if n = 0 then (x, l)
  else
    let u := lfsrNext l
    let q := x.natAbs / 2 ^ n
    let r := x.natAbs % 2 ^ n
    let m : Nat := if u < r * 2 ^ (16 - n) then q + 1 else q
    (if 0 ≤ x then (m : Int) else -(m : Int), u)

/-- The seed of group `g` for epoch `e` (R389). -/
def lfsrSeed (seed e g : Nat) : Nat :=
  let v := (seed + 0x9E37 * (16 * e + g)) % 65536
  if v = 0 then 1 else v

def sat8 (x : Int) : Int := clampI (-128) 127 x
def sat16 (x : Int) : Int := clampI (-32768) 32767 x

/-! ### The parameters in force (R416) -/

def State.paramsNow (s : State) : EpochParams where
  rule0 := s.reg Reg.LRN_RULE0
  rule1 := s.reg Reg.LRN_RULE1
  epochCfg := s.reg Reg.LRN_EPOCH_CFG
  grpCfg := (List.range 16).map fun g => s.reg (Reg.LRN_GRP_CFG g)
  grpTh := (List.range 16).map fun g => s.reg (Reg.LRN_GRP_TH g)
  src := s.learn.src

/-- The parameters of the epoch: those its first step took, or what that step would take now. -/
def State.params (s : State) : EpochParams := if s.reg Reg.LRN_STEP = 0#32 then s.paramsNow else s.learn.params

def EpochParams.cfg (p : EpochParams) (g : Nat) : Word := p.grpCfg.getD g 0#32
def EpochParams.th (p : EpochParams) (g : Nat) : Int := max 1 (sgn 16 (wfld (p.grpTh.getD g 0#32) 15 0))
def EpochParams.win (p : EpochParams) : Nat := let w := wfld p.rule0 19 16; if w = 0 then 16 else w

/-- Groups whose neurons are readout neurons. -/
def EpochParams.readouts (p : EpochParams) : List Nat := (List.range 16).filter fun g => (p.cfg g).getLsbD 10

/-- The source of synapse `i`: none where its slot's entry is not valid (R385). -/
def EpochParams.source (p : EpochParams) (i : Nat) : Option Nat :=
  let e := p.src.look 0 (64 * (i / 16384) + i % 64)
  if e.testBit 15 then some (e % 8192) else none

/-! ### The sweep (R394, R395) -/

/-- One synapse's shadows applied. -/
def Synapse.commit (x : Synapse) : Synapse :=
  let w := clampI (-128) 127 (x.w + x.sw)
  let d := (clampI 0 63 ((x.d : Int) + x.sd)).toNat
  { x with w := w, d := d, chg := x.chg || w != x.w || d != x.d, sw := 0, sd := 0 }

/-- Every row commits. No access sees a row that has not committed, so the rows commit together. -/
def State.sweep (s : State) : State :=
  if s.learn.sweepDue then s.ln fun l => { l with syn := l.syn.map fun e => (e.1, e.2.commit), sweepDue := false } else s

/-- The commit of an epoch, or a model commit, is under way or waits for a header being written. -/
def Learn.commitRuns (l : Learn) : Bool :=
  l.waiting.isSome || (match l.save with | some v => v.kind != .header | none => false)

/-- No commit, save or model commit is running or asked for. -/
def Learn.idle (l : Learn) : Bool := l.save.isNone && l.waiting.isNone && !l.cfgReq

/-- A commit or save begins, behind a header being written. -/
def Learn.begin (l : Learn) (v : Save) : Learn := if l.save.isSome then { l with waiting := some v } else { l with save := some v }

/-- Epoch E ends: its commit is to begin, and epoch E + 1 is the present one (R393). -/
def State.endEpoch (s : State) : State :=
  let e := (s.reg Reg.LRN_EPOCH).toNat
  let n := (s.reg Reg.LRN_STEP).toNat
  let s1 := s.ln fun l => { l.begin { kind := .journal, epoch := e, steps := n, start := s.power.up } with
    sweepDue := true, commitStart := s.power.up }
  (s1.setNat Reg.LRN_EPOCH (e + 1)).setNat Reg.LRN_STEP 0

/-- The epoch has run its steps, and the seconds since the last commit began have passed. -/
def State.epochFull (s : State) : Bool := decide (max 1 (wfld s.params.epochCfg 15 0) ≤ (s.reg Reg.LRN_STEP).toNat)
def State.epochAged (s : State) : Bool := decide (wfld s.params.epochCfg 31 16 * tickHz ≤ s.power.up - s.learn.commitStart)

/-! ### A window step (R386) -/

/-- The source spiked at step `t`. -/
def spiked (spikes : List (Nat × Nat)) (src t : Nat) : Bool := spikes.any fun e => e.1 == src && e.2 == t

/-- A spike of the source arrives over a delay of `d` at step `t`. -/
def arrives (spikes : List (Nat × Nat)) (src : Option Nat) (d t : Nat) : Bool :=
  match src with
  | some i => decide (d + 1 ≤ t) && spiked spikes i (t - d - 1)
  | none => false

/-- The arrivals of step `t` charge the neurons. -/
def arriveAll (p : EpochParams) (spikes : List (Nat × Nat)) (t : Nat) (syn : SMap Synapse) (v : SMap Neuron) : SMap Neuron :=
  syn.foldl (fun v e =>
    if e.2.en && arrives spikes (p.source e.1) e.2.d t then
      let j := e.1 / 64
      let x := v.look {} j
      v.put {} j { x with v := sat16 (x.v + e.2.w) }
    else v) v

/-- One neuron of group `g`: leak, refractory count, threshold. -/
def Neuron.fire (p : EpochParams) (g : Nat) (x : Neuron) : Neuron × Bool :=
  let c := p.cfg g
  let leak := wfld c 3 0
  let v := if leak = 0 then x.v else x.v - rna ⟨x.v, 2 ^ leak⟩
  if x.ref ≠ 0 then ({ v := v, ref := x.ref - 1 }, false)
  else if p.th g ≤ v then ({ v := 0, ref := wfld c 9 4 }, true)
  else ({ v := v, ref := 0 }, false)

/-- The neurons in ascending order; those that spike, and all of them after the step. -/
def fireAll (p : EpochParams) : SMap Neuron → List Nat × SMap Neuron
  | [] => ([], [])
  | (j, x) :: t =>
    let r := fireAll p t
    let f := x.fire p (j / 256)
    (if f.2 then j :: r.1 else r.1, if f.1 = {} then r.2 else (j, f.1) :: r.2)

/-! ### Learning (R390) -/

/-- The least k in [from, from + n) that a condition holds for. -/
def leastK (from' n : Nat) (f : Nat → Bool) : Option Nat := ((List.range n).map (· + from')).find? f

/-- What a pass carries: the group's LFSR and shadow saturations. -/
structure Draws where
  l : Nat
  sats : Nat := 0
  deriving DecidableEq, Repr

/-- Run a pass over the synapses of a group in ascending index; the others stand. -/
def passOver (g : Nat) (f : Nat → Synapse → Draws → Synapse × Draws) : SMap Synapse → Draws → SMap Synapse × Draws
  | [], d => ([], d)
  | (i, x) :: t, d =>
    if i / 16384 = g then
      let y := f i x d
      let r := passOver g f t y.2
      ((i, y.1) :: r.1, r.2)
    else
      let r := passOver g f t d
      ((i, x) :: r.1, r.2)

/-- The delay draw of passes A and B. -/
def delayDraw (pd : Nat) (x : Synapse) (dir : Int) (d : Draws) : Synapse × Draws :=
  let u := lfsrNext d.l
  (if u < 256 * pd then { x with sd := dir } else x, { d with l := u })

/-- Pass A: post before pre. -/
def passA (p : EpochParams) (sp : List (Nat × Nat)) (t : Nat) (m : Int) (i : Nat) (x : Synapse) (d : Draws) : Synapse × Draws :=
  if x.en && arrives sp (p.source i) x.d t then
    match leastK 1 p.win (fun k => decide (k ≤ t) && spiked sp (i / 64) (t - k)) with
    | none => (x, d)
    | some k =>
      let r := sr (wfld p.rule0 14 8 : Nat) (k - 1) d.l
      let y := { x with e := sat8 (x.e - r.1) }
      let pd := wfld p.rule1 23 16
      if 0 < m ∧ pd ≠ 0 then delayDraw pd y (-1) { d with l := r.2 } else (y, { d with l := r.2 })
  else (x, d)

/-- Pass B: pre before post. -/
def passB (p : EpochParams) (sp : List (Nat × Nat)) (t : Nat) (m : Int) (i : Nat) (x : Synapse) (d : Draws) : Synapse × Draws :=
  if x.en && spiked sp (i / 64) t then
    match leastK 0 p.win (fun k => decide (k ≤ t) && arrives sp (p.source i) x.d (t - k)) with
    | none => (x, d)
    | some k =>
      let r := sr (wfld p.rule0 6 0 : Nat) k d.l
      let y := { x with e := sat8 (x.e + r.1) }
      let pd := wfld p.rule1 23 16
      if k ≠ 0 ∧ 0 < m ∧ pd ≠ 0 then delayDraw pd y 1 { d with l := r.2 } else (y, { d with l := r.2 })
  else (x, d)

/-- Pass C: the trace decays (a tau_e of 0 is no decay, R420) and, multiplied by M, joins the shadow. -/
def passC (p : EpochParams) (m : Int) (_ : Nat) (x : Synapse) (d : Draws) : Synapse × Draws :=
  if x.en && x.e != 0 then
    let tau := wfld p.rule0 23 20
    let r := sr x.e tau d.l
    let e := if tau = 0 then x.e else x.e - r.1
    if m ≠ 0 ∧ e ≠ 0 then
      let q := sr (m * e) (wfld p.rule0 27 24) r.2
      let t := x.sw + q.1
      let w := clampI (-128) 127 t
      ({ x with e := e, sw := w }, { l := q.2, sats := if w = t then d.sats else d.sats + 1 })
    else ({ x with e := e }, { d with l := r.2 })
  else (x, d)

/-- The three passes of group `g`. -/
def learnGroup (p : EpochParams) (sp : List (Nat × Nat)) (t : Nat) (m : Int) (g : Nat) (syn : SMap Synapse) (l : Nat) : SMap Synapse × Draws :=
  let a := passOver g (passA p sp t m) syn { l := l }
  let b := passOver g (passB p sp t m) a.1 a.2
  passOver g (passC p m) b.1 b.2

/-- Every group in order: synapses, LFSRs, saturations. -/
def learnAll (p : EpochParams) (sp : List (Nat × Nat)) (t : Nat) (m : Int) (syn : SMap Synapse) (ls : List Nat) : SMap Synapse × List Nat × Nat :=
  (List.range 16).foldl (fun acc g =>
    let r := learnGroup p sp t m g acc.1 (ls.getD g 1)
    (r.1, acc.2.1 ++ [r.2.l], acc.2.2 + r.2.sats)) (syn, [], 0)

/-! ### The step -/

/-- W of the burst's window (R419). -/
def Burst.w (b : Burst) : Nat := let w := wfld b.win 7 0; if w < 8 then 0x40 else w

/-- The first step of an epoch takes the staged parameters and seeds the LFSRs (R389, R416). -/
def State.epochBegin (s : State) : State :=
  if s.reg Reg.LRN_STEP = 0#32 then
    let e := (s.reg Reg.LRN_EPOCH).toNat
    let sd := s.fld Reg.LRN_SEED 15 0
    s.ln fun l => { l with params := s.paramsNow, lfsr := (List.range 16).map (lfsrSeed sd e) }
  else s

/-- Step `t` of the window and its learning. -/
def State.coreStep (s : State) : State :=
  let l := s.learn
  let b := l.burst
  let t := b.step
  let p := l.params
  let m := s.modulator p.rule1
  let f := fireAll p (arriveAll p l.spikes t l.syn l.neurons)
  let lines := (b.events.filter fun e => e.2 == t).map fun e => (4096 + e.1, t)
  let sp := (f.1.map fun j => (j, t)) ++ lines ++ l.spikes
  let r := learnAll p sp t m l.syn l.lfsr
  let n := (f.1.filter fun j => p.readouts.contains (j / 256)).length
  let b' := { b with
    step := t + 1, nsp := b.nsp + n, epoch := (s.reg Reg.LRN_EPOCH).toNat, 
    confirmed := if t = 0 then decide (m = (wfld p.rule1 6 0 : Nat)) else b.confirmed }
  ((s.ln fun l => { l with syn := r.1, lfsr := r.2.1, neurons := f.2, spikes := sp, burst := b' }).incSat Reg.LRN_SATCNT r.2.2).incSat Reg.LRN_STEP 1

/-- The epoch ends after a step at which R393's three conditions hold. -/
def State.epochCheck (s : State) : State :=
  if s.epochFull && s.epochAged && !s.learn.commitRuns then s.endEpoch else s

/-- EVENT_CORE_STEP; `over`: its work outlasts its length (R387). -/
def execEventCoreStep (ovf : Bool) (s : State) : Host.Outcome State Fault Refusal :=
  let b := s.learn.burst
  done (if s.tileRuns && b.phase == .window && decide (b.step < b.w) then
      let s1 := s.sweep.epochBegin.coreStep.epochCheck
      if ovf then s1.incFld Reg.LRN_EVCNT 15 0 1 else s1
    else s)

/-! ### Confirmation (R391, R421) -/

/-- A write to LRN_CONFIRM. -/
def State.confirmWrite (s : State) (val : Word) : State :=
  (s.setNat Reg.LRN_CONFIRM (min 1440 (wfld val 10 0) + wfld val 16 16 * 2 ^ 16))

/-- CONFIRM_WRITE. -/
def execConfirmWrite (val : Word) (s : State) : Host.Outcome State Fault Refusal :=
  done (if s.tileRuns then s.confirmWrite val else s)

/-- CONFIRM_MINUTE. -/
def execConfirmMinute (s : State) : Host.Outcome State Fault Refusal :=
  done (if s.tileRuns then s.setFld Reg.LRN_CONFIRM 10 0 (s.fld Reg.LRN_CONFIRM 10 0 - 1) else s)

/-- CONFIRM_BALL: the ball has been high for 100 ms, or has gone low. -/
def execConfirmBall (high : Bool) (s : State) : Host.Outcome State Fault Refusal :=
  done (if s.tileRuns then s.ln fun l => { l with ballHigh := high } else s)

end Sys2Proof.Machine
end

