-- ==== Sys2Proof/Machine/Store.lean ====
section
/-! DEFINITION. The learning store: its layout, commits and saves, recovery, and the host's access to the model (R393 to
R396, R402 to R415). -/

namespace Sys2Proof.Machine

/-! ### Layout (R402 to R405) -/

/-- 64-byte units of the store: header copy `c`, image slot `x` of bank `b`, journal position `p`. -/
def hdrUnit (c : Nat) : Nat := 64 * c
def imgUnit (b x : Nat) : Nat := 128 + 576 * (2 * b + x)
def jrnUnit (p : Nat) : Nat := 18560 + p

/-- Journal positions, and the records it may hold. -/
def jrnSize : Nat := 38784
def jrnMax : Nat := 29088

/-- A synapse as an image holds it. -/
def Synapse.image (x : Synapse) : Nat := uns 8 x.w + x.d % 64 * 2 ^ 8 + b2n x.en * 2 ^ 14

/-- Row `r` of the image of bank `b` with generation `gen`, its CRC left out. -/
def imageRowBare (syn : SMap Synapse) (b gen r : Nat) : Nat :=
  if r < 512 then (List.range 32).foldl (fun n i => n + (syn.look {} (16384 * b + 32 * r + i)).image * 2 ^ (16 * i)) 0
  else if r = 512 then 0x424E4B49 + b * 2 ^ 32 + gen % 2 ^ 32 * 2 ^ 64
  else 0

/-- The CRC of an image given by its rows, the last row counted without its own CRC. -/
def imageCrc (row : Nat → Nat) : Nat := crc32 (((List.range 576).flatMap fun r => toBytes 64 (row r)).take 36860)

/-- Row `r` of an image as written. -/
def imageRow (syn : SMap Synapse) (b gen r : Nat) : Nat :=
  if r = 575 then imageCrc (imageRowBare syn b gen) * 2 ^ 480 else imageRowBare syn b gen r

/-- The configuration word of a word address (R404). -/
def State.cfgWord (s : State) (a : Nat) : Nat :=
  if a = Reg.LRN_CONFIRM then 0
  else match regRow? a with
    | some r => ((s.reg a).toNat &&& r.rw)
    | none => 0

/-- A header copy (R404). -/
def State.header (s : State) (hgen ec tailPos tailJseq wear compacts : Nat) : Nat :=
  let base := 0x4844524C + 2 ^ 32 + hgen % 2 ^ 32 * 2 ^ 64 + ec % 2 ^ 32 * 2 ^ 96 + tailPos % 2 ^ 16 * 2 ^ 128
    + tailJseq % 2 ^ 32 * 2 ^ 144 + wear % 2 ^ 64 * 2 ^ 176 + compacts % 2 ^ 32 * 2 ^ 240
  let grp := (List.range 16).foldl (fun n g =>
    n + (s.fld (Reg.LRN_GRP_TH g) 15 0 + s.fld (Reg.LRN_GRP_CFG g) 10 0 * 2 ^ 16) * 2 ^ (512 + 32 * g)) 0
  let src := s.learn.src.foldl (fun n e => n + e.2 * 2 ^ (1024 + 16 * e.1)) 0
  let cfg := (List.range 64).foldl (fun n i => n + s.cfgWord (0x3400 + i) * 2 ^ (17408 + 32 * i)) 0
  let n := base + grp + src + cfg
  n + crc32 (toBytes 4092 n) * 2 ^ 32736

/-- A change record of up to 12 entries. -/
def changeRecord (syn : SMap Synapse) (epoch part jseq : Nat) (ids : List Nat) : Nat :=
  let ents := (ids.zip (List.range 12)).foldl (fun n e =>
    let x := syn.look {} e.1
    n + (e.1 + x.d % 64 * 2 ^ 18 + uns 8 x.w * 2 ^ 24) * 2 ^ (96 + 32 * e.2)) 0
  withCrc (epoch % 2 ^ 32 + 2 ^ 32 + ids.length * 2 ^ 36 + part % 2 ^ 16 * 2 ^ 40 + jseq % 2 ^ 32 * 2 ^ 64 + ents)

/-- An end record. -/
def endRecord (epoch parts jseq steps : Nat) : Nat :=
  withCrc (epoch % 2 ^ 32 + 2 * 2 ^ 32 + parts % 2 ^ 16 * 2 ^ 40 + jseq % 2 ^ 32 * 2 ^ 64 + steps % 2 ^ 32 * 2 ^ 96)

/-! ### Commits and saves (R406, R407, R414) -/

/-- Synapses changed and not yet journalled, ascending. -/
def Learn.changed (l : Learn) : List Nat := (l.syn.filter fun e => e.2.chg).map Prod.fst

/-- Records from the tail to the head. -/
def Learn.held (l : Learn) : Nat := (l.jseq + 2 ^ 32 - l.tailJseq) % 2 ^ 32

/-- NVS_JFILL follows the journal. -/
def State.jrnShow (s : State) : State :=
  let n := s.learn.held
  s.setNat Reg.NVS_JFILL (n + max n (s.fld Reg.NVS_JFILL 31 16) * 2 ^ 16)

/-- A commit that rewrites every bank begins: it answers for the banks that a relearn has started anew until now (R411). -/
def Learn.rewrites (l : Learn) (v : Save) : Learn :=
  { l with save := some { v with relearned := l.relearned }, relearned := 0, forceCompact := false }

/-- The sweep of a commit ends and its path is chosen. -/
def State.commitBegin (s : State) (v : Save) : State :=
  let s1 := s.sweep
  let l := s1.learn
  let ids := l.changed
  let k := if l.forceCompact || decide (jrnMax < l.held + (cdiv ids.length 12 + 1)) then SaveKind.compaction else SaveKind.journal
  match k with
  | .journal => s1.ln fun l => { l with save := some { v with kind := k, begun := true, todo := ids } }
  | _ => s1.ln fun l => l.rewrites { v with kind := k, begun := true }

/-- EPOCH_COMMIT. -/
def execEpochCommit (s : State) : Host.Outcome State Fault Refusal :=
  match s.tileRuns, s.learn.save with
  | true, some v => done (if v.begun then s else s.commitBegin v)
  | _, _ => done s

/-- What is written next: a commit that waits, or else the header of a save_cfg that waits. -/
def Learn.nextSave (l : Learn) : Learn :=
  match l.waiting, l.cfgReq with
  | some v, _ => { l with save := some v, waiting := none }
  | none, true => { l with save := some { kind := .header, epoch := l.ec, begun := true }, cfgReq := false }
  | none, false => { l with save := none }

/-- A commit or save ends. An epoch that a request for DORMANT has ended, and that had to wait, is committed next (R432). -/
def State.saveEnds (s : State) : State :=
  let s1 := s.ln Learn.nextSave
  if s1.power.state = .toDormant ∧ !s1.learn.commitRuns ∧ s1.reg Reg.LRN_STEP ≠ 0#32 then s1.endEpoch else s1

/-- A write has failed on every try: the next commit rewrites every bank (R407). -/
def State.saveFails (s : State) (v : Save) : State :=
  let s1 := s.setBit Reg.NVS_STATUS 4 true
  (if v.kind = .header then s1
    else s1.ln fun l => { l with forceCompact := true, relearned := l.relearned ||| v.relearned }).saveEnds

/-- One try of a journal write: the record goes to the head; what is read back decides. -/
def State.jrnTry (s : State) (v : Save) (ok : Bool) : State :=
  let l := s.learn
  let ids := v.todo.take 12
  let last := v.todo.isEmpty
  let r := if last then endRecord v.epoch v.part l.jseq v.steps else changeRecord l.syn v.epoch v.part l.jseq ids
  let s1 := s.ln fun l => { l with nvs := l.nvs.put 0 (jrnUnit l.head) (if ok then r else 0), head := (l.head + 1) % jrnSize }
  if ok then
    let s2 := (s1.ln fun l => { l with
      jseq := (l.jseq + 1) % 2 ^ 32
      syn := ids.foldl (fun m i => m.put {} i { m.look {} i with chg := false }) l.syn
      save := some { v with part := v.part + 1, todo := v.todo.drop 12, tries := 0 } }).setReg64 Reg.NVS_WEAR_LO (s.reg64 Reg.NVS_WEAR_LO + 1)
    if last then (s2.setNat Reg.NVS_COMMITTED v.epoch).jrnShow.saveEnds else s2.jrnShow
  else if v.tries < 2 then s1.ln fun l => { l with save := some { v with tries := v.tries + 1 } }
  else s1.saveFails v

/-- The header copy that the next header is written to. -/
def Learn.nextCopy (l : Learn) : Nat := if l.noModel then 0 else if l.copy1 then 0 else 1

/-- The header that a save writes. Its wear counts the records before its tail, to which recovery adds those that it finds
behind it: a header of save_cfg keeps the tail, and a record counts once (log entry 80). -/
def State.nextHeader (s : State) (k : SaveKind) (epoch : Nat) : Nat :=
  let l := s.learn
  let wear := s.reg64 Reg.NVS_WEAR_LO
  let cmp := (s.reg Reg.NVS_COMPACTS).toNat
  match k with
  | .header => s.header (l.hgen + 1) l.ec l.tailPos l.tailJseq (wear - l.held) cmp
  | .compaction => s.header (l.hgen + 1) epoch l.head l.jseq wear (cmp + 1)
  | _ => s.header (l.hgen + 1) epoch l.head l.jseq wear cmp

/-- The rows that a save of images or of a header writes before its header. -/
def SaveKind.images : SaveKind → Nat
  | .header => 0
  | _ => 9216

/-- The header is written: it is in force, and what it commits is committed. -/
def State.headerDone (s : State) (v : Save) : State :=
  let l := s.learn
  let s1 := s.ln fun l => { l with hgen := (l.hgen + 1) % 2 ^ 32, copy1 := l.nextCopy == 1 }
  match v.kind with
  | .header => s1.saveEnds
  | k =>
    let s2 := (s1.ln fun l => { l with
      ec := v.epoch, tailPos := l.head, tailJseq := l.jseq, slots := 0xFFFF - l.slots % 65536
      syn := l.syn.map fun e => (e.1, { e.2 with chg := false }) }).setNat Reg.NVS_COMMITTED v.epoch
    if k = .model then
      let s3 := ((s2.ln fun l => { l with noModel := false, commitStart := v.start }).setNat Reg.NVS_BANK_FAIL 0).jrnShow
      ((s3.setNat Reg.LRN_EPOCH (v.epoch + 1)).setNat Reg.LRN_STEP 0).saveEnds
    else
      let s3 := s2.incSat Reg.NVS_COMPACTS 1
      let fail := (s3.reg Reg.NVS_BANK_FAIL).toNat
      let mended := v.relearned - (v.relearned &&& l.relearned)
      ((s3.setNat Reg.NVS_BANK_FAIL (fail - (fail &&& mended))).jrnShow).saveEnds

/-- One try of a row of an image or of the header, in place. -/
def State.rowTry (s : State) (v : Save) (ok : Bool) : State :=
  let l := s.learn
  let imgs := v.kind.images
  let hdr := if v.part = imgs ∧ v.tries = 0 then s.nextHeader v.kind v.epoch else v.hdr
  let b := v.part / 576
  let unit := if v.part < imgs then imgUnit b (1 - nfld l.slots b b) + v.part % 576 else hdrUnit l.nextCopy + (v.part - imgs)
  let row := if v.part < imgs then imageRow l.syn b v.epoch (v.part % 576) else hdr / 2 ^ (512 * (v.part - imgs)) % 2 ^ 512
  let s1 := s.ln fun l => { l with nvs := l.nvs.put 0 unit (if ok then row else 0) }
  if ok then
    if v.part + 1 = imgs + 64 then s1.headerDone v
    else s1.ln fun l => { l with save := some { v with part := v.part + 1, hdr := hdr, tries := 0 } }
  else if v.tries < 2 then s1.ln fun l => { l with save := some { v with hdr := hdr, tries := v.tries + 1 } }
  else s1.saveFails v

/-- NVS_WRITE_DONE: a 64-byte write has been made and read back. -/
def execNvsWriteDone (ok : Bool) (s : State) : Host.Outcome State Fault Refusal :=
  match s.tileRuns, s.learn.save with
  | true, some v => done (if !v.begun then s else if v.kind = .journal then s.jrnTry v ok else s.rowTry v ok)
  | _, _ => done s

/-! ### Commands of LRN_CMD (R411, R414, R418) -/

/-- commit_model. -/
def State.commitModel (s : State) : State :=
  if s.bit Reg.LRN_CTRL 0 || !s.learn.idle || s.learn.recovering then s.lrnRefused
  else s.sweep.ln fun l => l.rewrites { kind := .model, epoch := (s.reg Reg.LRN_EPOCH).toNat, begun := true, start := s.power.up }

/-- end_epoch: refused while the previous commit runs. -/
def State.endEpochCmd (s : State) : State :=
  if s.learn.commitRuns then s.lrnRefused else if s.reg Reg.LRN_STEP = 0#32 then s else s.endEpoch

/-- relearn: the failed banks of the mask start anew. -/
def State.relearn (s : State) : State :=
  let m := (s.reg Reg.LRN_RELEARN).toNat &&& (s.reg Reg.NVS_BANK_FAIL).toNat % 65536
  if m = 0 then s
  else s.ln fun l => { l with
    forceCompact := true, relearned := l.relearned ||| m
    syn := (bitsOf 16 m).foldl (fun syn b => (List.range 16384).foldl (fun syn i => syn.put {} (16384 * b + i) { en := true }) syn) l.syn }

/-- save_cfg: the header is written now, or after what is being written or recovered. Without a model nothing is written
(R412), and the command is refused. -/
def State.saveCfg (s : State) : State :=
  if s.learn.noModel then s.lrnRefused
  else s.ln fun l => if l.save.isSome || l.recovering then { l with cfgReq := true } else { l with cfgReq := true }.nextSave

/-- clr. -/
def State.lrnClr (s : State) : State := (s.setNat Reg.LRN_EVCNT 0).setNat Reg.LRN_SATCNT 0

/-- COMMIT_MODEL. -/
def execCommitModel (s : State) : Host.Outcome State Fault Refusal := done (if s.tileRuns then s.commitModel else s)

/-- END_EPOCH. -/
def execEndEpoch (s : State) : Host.Outcome State Fault Refusal := done (if s.tileRuns then s.endEpochCmd else s)

/-- RELEARN. -/
def execRelearn (s : State) : Host.Outcome State Fault Refusal := done (if s.tileRuns then s.relearn else s)

/-- LRN_SAVE_CFG. -/
def execLrnSaveCfg (s : State) : Host.Outcome State Fault Refusal := done (if s.tileRuns then s.saveCfg else s)

/-- LRN_CLR. -/
def execLrnClr (s : State) : Host.Outcome State Fault Refusal := done (if s.tileRuns then s.lrnClr else s)

/-! ### Host access (R414, R415, R422) -/

/-- LRN_SYN_DATA as a capture shows it. -/
def Synapse.shown (x : Synapse) : Nat := x.image + uns 8 x.e * 2 ^ 15 + uns 8 x.sw * 2 ^ 23

/-- A write to LRN_SYN_SEL. -/
def State.synSelect (s : State) (i : Nat) : State :=
  let s1 := s.sweep
  (s1.setNat Reg.LRN_SYN_SEL i).setNat Reg.LRN_SYN_DATA (s1.learn.syn.look {} i).shown

/-- SYN_SELECT. -/
def execSynSelect (i : BitVec 18) (s : State) : Host.Outcome State Fault Refusal :=
  done (if s.tileRuns then s.synSelect i.toNat else s)

/-- A write to LRN_SYN_DATA: ignored while run = 1. Its e and sw still show the capture. -/
def State.synData (s : State) (val : Word) : State :=
  if s.bit Reg.LRN_CTRL 0 then s.lrnErr
  else
    let s1 := s.sweep
    let i := s.fld Reg.LRN_SYN_SEL 17 0
    let x := s1.learn.syn.look {} i
    let y := { x with w := sgn 8 (wfld val 7 0), d := wfld val 13 8, en := val.getLsbD 14, e := 0, sw := 0, sd := 0 }
    (s1.ln fun l => { l with syn := l.syn.put {} i y }).setReg Reg.LRN_SYN_DATA
      ((s.reg Reg.LRN_SYN_DATA &&& 0x7FFF8000#32) ||| (val &&& 0x00007FFF#32))

/-- SYN_DATA_WRITE. -/
def execSynDataWrite (val : Word) (s : State) : Host.Outcome State Fault Refusal := done (if s.tileRuns then s.synData val else s)

/-- The source entry that LRN_SRC_SEL names. -/
def State.srcSel (s : State) : Nat := 64 * s.fld Reg.LRN_SRC_SEL 3 0 + s.fld Reg.LRN_SRC_SEL 9 4

/-- A write to LRN_SRC_DATA: ignored while run = 1, or with a source that does not exist. -/
def State.srcData (s : State) (val : Word) : State :=
  if s.bit Reg.LRN_CTRL 0 || decide (4353 < wfld val 12 0) then s.lrnErr
  else s.ln fun l => { l with src := l.src.put 0 s.srcSel (val.toNat &&& 0x9FFF) }

/-- SRC_DATA_WRITE. -/
def execSrcDataWrite (val : Word) (s : State) : Host.Outcome State Fault Refusal := done (if s.tileRuns then s.srcData val else s)

/-! ### Recovery (R409 to R412) -/

/-- A header copy as it stands in the cells. -/
def Learn.hdrCopy (l : Learn) (c : Nat) : Nat :=
  (List.range 64).foldl (fun n i => n + l.nvs.look 0 (hdrUnit c + i) * 2 ^ (512 * i)) 0

def hdrValid (h : Nat) : Bool :=
  nfld h 31 0 == 0x4844524C && nfld h 47 32 == 1 && nfld h 32767 32736 == crc32 (toBytes 4092 h)

/-- The valid copy of higher hgen, and whether it is copy 1. -/
def Learn.pickHeader (l : Learn) : Option (Nat × Bool) :=
  let a := l.hdrCopy 0
  let b := l.hdrCopy 1
  if hdrValid a then (if hdrValid b && decide (nfld a 95 64 < nfld b 95 64) then some (b, true) else some (a, false))
  else if hdrValid b then some (b, true) else none

/-- What pass 1 carries: the last committed epoch, and the position and jseq after its end record. -/
structure Pass1 where
  c : Nat
  head : Nat
  jhead : Nat
  deriving DecidableEq, Repr

/-- Pass 1 from position `pos`, expecting `j`, with `parts` records of the epoch and `bad` failing positions in a row. -/
def Learn.pass1 (l : Learn) : Nat → Nat → Nat → Nat → Nat → Pass1 → Pass1
  | 0, _, _, _, _, p => p
  | fuel + 1, pos, j, parts, bad, p =>
    if 3 ≤ bad then p
    else
      let r := l.nvs.look 0 (jrnUnit pos)
      let pos' := (pos + 1) % jrnSize
      let typ := nfld r 35 32
      if !crcOk r || !(typ == 1 || typ == 2) then l.pass1 fuel pos' j parts (bad + 1) p
      else if nfld r 95 64 ≠ j then p
      else
        let j' := (j + 1) % 2 ^ 32
        let mine := nfld r 31 0 == (p.c + 1) % 2 ^ 32 && nfld r 55 40 == parts % 2 ^ 16
        if typ = 1 ∧ mine then l.pass1 fuel pos' j' (parts + 1) 0 p
        else if typ = 2 ∧ mine then l.pass1 fuel pos' j' 0 0 { c := p.c + 1, head := pos', jhead := j' }
        else p

/-- The generation of an image slot that is valid for bank `b`. -/
def Learn.slotGen (l : Learn) (b x : Nat) : Option Nat :=
  let row := fun r => l.nvs.look 0 (imgUnit b x + r)
  if nfld (row 512) 31 0 == 0x424E4B49 && nfld (row 512) 35 32 == b && nfld (row 575) 511 480 == imageCrc row then
    some (nfld (row 512) 95 64) else none

/-- The slot of bank `b` with ec ≤ gen ≤ C of higher generation: which one, and its generation. -/
def Learn.pickSlot (l : Learn) (ec c b : Nat) : Option (Nat × Nat) :=
  let ok := fun x => match l.slotGen b x with
    | some g => if ec ≤ g ∧ g ≤ c then some g else none
    | none => none
  match ok 0, ok 1 with
  | some g, some h => if g < h then some (1, h) else some (0, g)
  | some g, none => some (0, g)
  | none, some h => some (1, h)
  | none, none => none

/-- Slots whose generation lies above C, to be invalidated. -/
def Learn.staleSlots (l : Learn) (c : Nat) : List Nat :=
  (List.range 32).filter fun k => match l.slotGen (k / 2) (k % 2) with
    | some g => decide (c < g)
    | none => false

/-- A bank's synapses from its image slot. -/
def Learn.loadBank (l : Learn) (b x : Nat) : SMap Synapse :=
  (List.range 16384).filterMap fun i =>
    let v := nfld (l.nvs.look 0 (imgUnit b x + i / 32)) (16 * (i % 32) + 15) (16 * (i % 32))
    let y : Synapse := { w := sgn 8 (nfld v 7 0), d := nfld v 13 8, en := v.testBit 14 }
    if y = {} then none else some (16384 * b + i, y)

/-- A change record's entries in order: an entry sets w and d where its bank's image is older than the record. -/
def replayRecord (gens : List (Option Nat)) (r : Nat) (syn : SMap Synapse) : SMap Synapse :=
  (List.range (min 12 (nfld r 39 36))).foldl (fun syn i =>
    let e := nfld r (127 + 32 * i) (96 + 32 * i)
    let k := nfld e 17 0
    match gens.getD (k / 16384) none with
    | some g => if g < nfld r 31 0 then syn.put {} k { syn.look {} k with w := sgn 8 (nfld e 31 24), d := nfld e 23 18 } else syn
    | none => syn) syn

/-- Pass 2: the change records of the positions from `pos`, `n` of them. -/
def Learn.pass2 (l : Learn) (gens : List (Option Nat)) : Nat → Nat → SMap Synapse → SMap Synapse
  | 0, _, syn => syn
  | n + 1, pos, syn =>
    let r := l.nvs.look 0 (jrnUnit pos)
    l.pass2 gens n ((pos + 1) % jrnSize) (if crcOk r && nfld r 35 32 == 1 then replayRecord gens r syn else syn)

/-- Every LRN_ and NVS_ register at its Reset value, but the highest fill of the journal since tile power-on. -/
def State.lrnResets (s : State) : State :=
  let mine := fun (e : Nat × Word) => decide (0x3400 ≤ e.1) && decide (e.1 < 0x3600) && e.1 != Reg.NVS_JFILL
  { s with regs := (tileResets.filter mine).foldl (fun m e => m.put 0#32 e.1 e.2) (s.regs.filter fun e => !mine e) }

/-- Groups, sources and LRN_ configuration from the header; a restored field that holds a reserved value is reported
(R419). -/
def State.loadHeader (s : State) (h : Nat) : State :=
  let s1 := (List.range 16).foldl (fun s g =>
    let w := nfld h (543 + 32 * g) (512 + 32 * g)
    (s.setNat (Reg.LRN_GRP_TH g) (nfld w 15 0)).setNat (Reg.LRN_GRP_CFG g) (nfld w 26 16)) s
  let s2 := (List.range 64).foldl (fun s i =>
    let a := 0x3400 + i
    match regRow? a with
    | some r => if r.rw = 0 then s else s.setNat a (nfld h (17439 + 32 * i) (17408 + 32 * i) &&& r.rw)
    | none => s) s1
  let s3 := (s2.sentCheck (s2.reg Reg.LRN_SENT_CFG)).winCheck (s2.reg Reg.LRN_WIN)
  s3.ln fun l => { l with src := (List.range 1024).filterMap fun k =>
    let e := nfld h (1039 + 16 * k) (1024 + 16 * k)
    if e = 0 then none else some (k, e) }

/-- The event core as recovery starts: nothing but the cells, the ball's level and a save_cfg asked for meanwhile. -/
def Learn.fresh (l : Learn) : Learn := { nvs := l.nvs, ballHigh := l.ballHigh, cfgReq := l.cfgReq }

/-- Recovery from a valid header. -/
def State.recoverFrom (s : State) (h : Nat) (copy1 : Bool) : State :=
  let l := s.learn
  let ec := nfld h 127 96
  let tp := nfld h 143 128
  let tj := nfld h 175 144
  let p := l.pass1 (jrnSize + 3) tp tj 0 0 { c := ec, head := tp, jhead := tj }
  let picks := (List.range 16).map fun b => l.pickSlot ec p.c b
  let gens := picks.map fun x => x.map Prod.snd
  let syn0 := (List.range 16).flatMap fun b => match picks.getD b none with
    | some x => l.loadBank b x.1
    | none => []
  let syn := l.pass2 gens ((p.head + jrnSize - tp) % jrnSize) tp syn0
  let stale := l.staleSlots p.c
  let nvs := stale.foldl (fun m k => (m.put 0 (imgUnit (k / 2) (k % 2) + 512) 0).put 0 (imgUnit (k / 2) (k % 2) + 575) 0) l.nvs
  let fails := flagsNat (picks.map Option.isNone)
  let slots := flagsNat (picks.map fun x => match x with | some y => y.1 == 1 | none => false)
  let held := (p.jhead + 2 ^ 32 - tj) % 2 ^ 32
  let s1 := (s.ln fun l => { l with
    nvs := nvs, syn := syn, head := p.head, jseq := p.jhead, tailPos := tp, tailJseq := tj, hgen := nfld h 95 64, ec := ec,
    copy1 := copy1, slots := slots }).loadHeader h
  let s2 := (((s1.setNat Reg.NVS_BANK_FAIL fails).setNat Reg.NVS_COMMITTED p.c).setNat Reg.LRN_EPOCH (p.c + 1)).setReg64
    Reg.NVS_WEAR_LO (nfld h 239 176 + held)
  let s3 := (s2.setNat Reg.NVS_COMPACTS (nfld h 271 240)).jrnShow
  if stale.isEmpty then s3
  else
    let n := s3.nextHeader .header ec
    let c := s3.learn.nextCopy
    s3.ln fun l => { l with
      nvs := (List.range 64).foldl (fun m i => m.put 0 (hdrUnit c + i) (n / 2 ^ (512 * i) % 2 ^ 512)) l.nvs
      hgen := (l.hgen + 1) % 2 ^ 32, copy1 := c == 1 }

/-- The end of recovery. -/
def State.recovered (s : State) : State :=
  let s0 := (s.ln Learn.fresh).lrnResets
  let s1 := match s0.learn.pickHeader with
    | some h => s0.recoverFrom h.1 h.2
    | none => s0.ln fun l => { l with noModel := true }
  let s1b := if !s1.learn.cfgReq then s1 else if s1.learn.noModel then (s1.ln fun l => { l with cfgReq := false }).lrnRefused else s1.ln Learn.nextSave
  let s2 := s1b.ln fun l => { l with recovering := false, t0 := s.rtcTicks, commitStart := s.power.up }
  if s.bit Reg.PWR_WAKE_INFO 18 then
    s2.setNat Reg.PWR_WAKE_INFO ((s2.reg Reg.NVS_BANK_FAIL).toNat % 65536 + b2n s2.learn.noModel * 2 ^ 16 + 2 ^ 17)
  else s2

/-- MODEL_RECOVERY_DONE. -/
def execModelRecoveryDone (s : State) : Host.Outcome State Fault Refusal :=
  done (if s.tileRuns && s.learn.recovering then s.recovered else s)

/-! ### LRN_STATUS and NVS_STATUS (R418, R423) -/

def State.lrnStatus (s : State) : Nat :=
  let l := s.learn
  let h := (s.reg Reg.LRN_STATUS).toNat
  nfld h 0 0 + b2n l.anomaly * 2 + nfld h 2 2 * 4 + b2n (!l.idle) * 8 + nfld h 4 4 * 16
    + b2n (s.epochFull && s.reg Reg.LRN_STEP != 0#32) * 32 + b2n l.noModel * 64 + b2n (s.fld Reg.NVS_BANK_FAIL 15 0 != 0) * 128
    + b2n s.confirmed * 256

def State.nvsStatus (s : State) : Nat :=
  let l := s.learn
  let k := match l.save with
    | some v => if v.begun then some v.kind else none
    | none => none
  b2n l.recovering + b2n l.noModel * 2 + b2n (k == some .journal) * 4 + b2n (k == some .compaction || k == some .model) * 8
    + s.fld Reg.NVS_STATUS 4 4 * 16 + b2n l.copy1 * 32

end Sys2Proof.Machine
end

