-- ==== Sys2Proof/Machine/Power.lean ====
section
/-! DEFINITION. The power controller, PLLs and clock sources, automatic resume, the real-time clock and its alarm, tile
power-on and rail loss (R424 to R461, R540 to R544). -/

namespace Sys2Proof.Machine

/-- Change the power controller. -/
def State.pw (s : State) (f : Power → Power) : State := { s with power := f s.power }

/-! ### What PWR_STATE shows (R452) -/

def PwrState.code : PwrState → Nat
  | .run => 0 | .hold => 1 | .dugout => 2 | .dormant => 3 | .toHold => 4 | .fromHold => 5 | .toDugout => 6 | .toRun => 7
  | .toDormant => 8 | .dormantToDugout => 9

def State.pwrState (s : State) : Nat :=
  s.power.state.code + (match s.power.pending with | some r => r.target | none => 0) * 16 + b2n s.power.resumed * 64
    + b2n s.power.pgMain * 128

/-- PWR_STATUS.cfg_err. -/
def State.pwrErr (s : State) : State := s.setBit Reg.PWR_STATUS 3 true

/-! ### PLLs and clock sources (R443, R444) -/

/-- The domains of a PLL that software may switch, as a mask of CLK_SRC. -/
def pllDomains : Nat → Nat
  | 0 => 0x0000FF
  | 1 => 0x000300
  | 2 => 0x000400
  | 3 => 0x007800
  | 4 => 0x018000
  | 5 => 0x020000
  | _ => 0x400000

/-- The PLL of a domain. -/
def domPll (d : Nat) : Nat :=
  if d < 8 then 0 else if d < 10 then 1 else if d = 10 then 2 else if d < 15 then 3 else if d < 17 then 4 else if d = 17 then 5 else 6

/-- Bits of CLK_SRC that a write can set: domains 0 to 9, 11 to 17 and 22. -/
def srcMask : Nat := 0x43FBFF

def State.clkSrc (s : State) : Nat := (s.reg Reg.CLK_SRC).toNat

/-- A PLL drives a domain. -/
def State.pllSelected (s : State) (n : Nat) : Bool := s.clkSrc &&& pllDomains n != 0

/-- A PLL is not locked any more; while it is selected this is a dangerous fault, and no domain is switched back. -/
def State.pllLost (s : State) (n : Nat) : State :=
  let s1 := s.setBit Reg.CLK_PLL_STATUS n false
  if s.pllSelected n then (s1.setBit Reg.CLK_PLL_STATUS (8 + n) true).raise { src := 0x04 } else s1

/-- A write to CLK_PLL_CTRL: bits 2 and 6 are the device's; a PLL that is disabled loses lock. -/
def State.pllCtrl (s : State) (val : Word) : State :=
  let s1 := (List.range 7).foldl (fun s n => if n = 2 ∨ n = 6 then s else s.setBit Reg.CLK_PLL_CTRL n (val.getLsbD n)) s
  (List.range 7).foldl (fun s n => if !s.bit Reg.CLK_PLL_CTRL n && s.bit Reg.CLK_PLL_STATUS n then s.pllLost n else s) s1

/-- PLL_ENABLE. -/
def execPllEnable (val : Word) (s : State) : Host.Outcome State Fault Refusal := s.hAccess fun s => s.pllCtrl val

/-- CLK_SRC bits are set: each domain switches to its PLL, or sets cfg_err (R444). -/
def State.clkSrcSet (s : State) (val : Nat) : State :=
  (bitsOf 23 (val &&& srcMask)).foldl (fun s d =>
    if s.bit Reg.CLK_SRC d then s
    else if s.bit Reg.CLK_PLL_STATUS (domPll d) then s.setBit Reg.CLK_SRC d true
    else s.setBit Reg.CLK_PLL_STATUS 15 true) s

/-- A write to CLK_SRC: a bit written 0 puts its domain on the oscillator (R460), a bit written 1 on its PLL. -/
def State.clkSrcWrite (s : State) (val : Nat) : State :=
  ((bitsOf 23 (srcMask ^^^ (val &&& srcMask))).foldl (fun s d => s.setBit Reg.CLK_SRC d false) s).clkSrcSet val

/-- CLK_SRC_SWITCH. -/
def execClkSrcSwitch (val : Word) (s : State) : Host.Outcome State Fault Refusal :=
  s.hAccess fun s => s.clkSrcWrite val.toNat

/-- PLL_LOSS_OF_LOCK. -/
def execPllLossOfLock (n : Fin 7) (s : State) : Host.Outcome State Fault Refusal :=
  done (if s.mainUp && s.bit Reg.CLK_PLL_STATUS n then s.pllLost n else s)

/-! ### Automatic resume (R445) -/

/-- Resume has failed: resumed stays 0. -/
def State.resumeErr (s : State) : State := (s.pw fun p => { p with resuming := false }).setBit Reg.PWR_STATUS 1 true

def State.resumeEnds (s : State) : State := s.pw fun p => { p with resuming := false, resumed := true }

/-- Entering RUN: resumed is set unless PWR_RESUME names a step; auto_pll enables the PLLs. -/
def State.resumeStart (s : State) : State :=
  if s.power.bootExit || !s.bit Reg.PWR_RESUME 0 then s.pw fun p => { p with bootExit := false, resumed := true }
  else (s.pllCtrl (s.reg Reg.CLK_PLL_CTRL ||| 0x3B#32)).pw fun p => { p with resuming := true }

/-- Every PLL has locked: the domains are switched, and LPDDR5X is trained if PWR_RESUME asks for it. -/
def State.resumeSwitch (s : State) : State :=
  let s1 := s.clkSrcSet srcMask
  let r := s.reg Reg.PWR_RESUME
  if s1.clkSrc &&& srcMask ≠ srcMask then s1.resumeErr
  else if r.getLsbD 1 && wfld r 4 2 != 0 then
    let s2 := (s1.setNat Reg.MEM_LPDDR_CFG (wfld r 4 2 + wfld r 6 5 * 16 + wfld r 7 7 * 256 + wfld r 8 8 * 512)).train
    if s2.bit Reg.MEM_LPDDR_STATUS 1 then s2 else s2.resumeErr
  else s1.resumeEnds

/-- A PLL that is enabled locks, or fails to. PLL 2 takes domain 10 with it (R443). -/
def State.pllLock (s : State) (n : Nat) (ok : Bool) : State :=
  if ok then
    let s1 := s.setBit Reg.CLK_PLL_STATUS n true
    let s2 := if n = 2 then s1.setBit Reg.CLK_SRC 10 true else s1
    if s2.power.resuming && (s2.reg Reg.CLK_PLL_STATUS).toNat &&& 0x3B == 0x3B && s2.clkSrc &&& srcMask != srcMask then s2.resumeSwitch
    else s2
  else if s.power.resuming && n != 2 && n != 6 then s.resumeErr else s

/-- PLL_LOCK. -/
def execPllLock (n : Fin 7) (ok : Bool) (s : State) : Host.Outcome State Fault Refusal :=
  done (if s.mainUp && s.bit Reg.CLK_PLL_CTRL n && !s.bit Reg.CLK_PLL_STATUS n then s.pllLock n ok else s)

/-- LPDDR_TRAIN_DONE (R205): a set bit of `fail` is a channel that failed. -/
def execLpddrTrainDone (fail : BitVec 4) (s : State) : Host.Outcome State Fault Refusal :=
  done (if s.mainUp && s.bit Reg.MEM_LPDDR_STATUS 1 then
      let s1 := s.setBit Reg.MEM_LPDDR_STATUS 1 false
      let s2 := if fail = 0#4 then s1.setBit Reg.MEM_LPDDR_STATUS 0 true else s1.setFld Reg.MEM_LPDDR_STATUS 5 2 fail.toNat
      if s2.power.resuming then (if fail = 0#4 then s2.resumeEnds else s2.resumeErr) else s2
    else s)

/-! ### Idleness (R426) -/

/-- A scoreboard entry of the package context `c` is valid on some core of its queue's group. -/
def State.ctxBusy (s : State) (c : Nat) : Bool :=
  s.sched.sb.any fun e => e.2.valid && e.2.queue == (s.ctx c).queue

/-- A context does not keep the H-die busy. -/
def State.ctxIdle (s : State) (c : Nat) (x : Ctx) : Bool :=
  match x.mode with
  | .idle => true
  | .halted => true
  | .faulted => true
  | .waiting => !s.ctxBusy c
  | .following =>
    (s.sched.ctxs.any fun e => e.2.lead && e.2.queue == x.queue && e.2.mode == .waiting)
      && !(s.sched.sb.any fun e => e.1 / 64 == c / 4 && e.2.valid && e.2.queue == x.queue)
  | _ => false

/-- A transmit ring holds an unsent descriptor. -/
def State.txPendingRing (s : State) (t : Nat) : Bool :=
  s.bit (Reg.ING_TX_CFG t) 31 && ((s.txRing t).sending.isSome || decide ((s.txRing t).next < (s.ctr (s.txSubmit t)).v))

/-- The H-die is idle, the access times of its last point left to the timer's event. -/
def State.hIdle (s : State) : Bool :=
  (s.sched.ctxs.all fun e => s.ctxIdle e.1 e.2)
    && (s.ingest.streams.all fun e => e.2.mode != .running && e.2.mode != .stopping)
    && !((List.range 4).any s.txPendingRing)
    && !s.roots.sdt.loading && !s.roots.qdt.loading && !s.roots.sot.loading && !s.roots.tdt.loading
    && !s.bit Reg.MEM_LPDDR_STATUS 1 && s.sync.dump.isNone
    && !s.bit (Reg.LNK_STATUS 3) 3 && !s.bit (Reg.LNK_STATUS 3) 0

/-- The domains that HOLD gates (R427): 11 to 14 and 19 to 22 always, the CSI-2 receivers, an Ethernet MAC or CAN
controller that is off, PCIe while the host has enabled ASPM L1: in HOLD, which no transaction leaves unended, the link is
then in L1 (log entry 37). -/
def State.gates (s : State) (d : Nat) : Bool :=
  decide (d < 8) || decide (d = 8 ∨ d = 9) && !s.srcOn 1 (d - 8) || decide (d = 10) && s.host.up && s.host.aspm
    || decide (11 ≤ d ∧ d ≤ 14) || decide (d = 15 ∨ d = 16) && !s.srcOn 2 (d - 15) || decide (19 ≤ d ∧ d ≤ 22)

/-- Every crossing of a domain that HOLD gates is empty (R53). -/
def State.gateable (s : State) : Bool := (List.range 23).all fun d => !s.gates d || s.crossEmpty d

/-! ### Transitions (R425 to R447) -/

/-- The main dies lose power or are about to: nothing on them is saved, the enables are released, min_off begins. -/
def State.mainOff (s : State) : State :=
  { (s.mainReset 3).pw fun p => { p with
      enables := false, minOff := false, bootExit := false, resuming := false, resumed := false, hiZ := true } with
    tap := s.tap.off }

/-- The wake record (R440, R455, R456) as an exit starts. -/
def State.wakeRecord (s : State) (r : PwrReq) (from' : Nat) : State :=
  let n := s.fld Reg.PWR_WAKE_CAUSE 31 20
  let src := if r.src = 8 then 1 else r.wake
  let s1 := s.setNat Reg.PWR_WAKE_CAUSE (src + b2n r.cmd * 16 + b2n r.during * 32 + s.power.seen % 64 * 256 + from' * 2 ^ 16 + (n + 1) % 4096 * 2 ^ 20)
  let s2 := s1.setReg64 Reg.PWR_WAKE_TIME_LO r.time
  s2.setNat Reg.PWR_WAKE_INFO (if s.learn.recovering then 2 ^ 18 else s.fld Reg.NVS_BANK_FAIL 15 0 + b2n s.learn.noModel * 2 ^ 16)

/-- The tile restarts after DORMANT (R446): the front end is powered, DORMANT_EXIT falls due, recovery runs. -/
def State.tileRestart (s : State) : State :=
  ((s.logDue { typ := 9 }).ln fun l => { l.fresh with recovering := true }).scanStart

/-- The exit of R441 starts. -/
def State.startExit (s : State) (r : PwrReq) : State :=
  let old := s.power.state
  let s0 := s.pw fun p => { p with state := .toRun, enables := true, resumed := false, pending := none }
  let s1 := if old = .dormant then s0.tileRestart else s0
  (s1.wakeRecord r (if old = .dormant then 3 else 2)).setNat Reg.PWR_RST_CAUSE (if s.power.bootExit then 1 else 3)

/-- From DORMANT to DUGOUT (R425 step 10, R446): the tile restarts, the main dies stay off. -/
def State.dormantToDugout (s : State) (r : PwrReq) : State :=
  ((s.pw fun p => { p with state := .dormantToDugout, pending := none }).tileRestart).wakeRecord r 3

/-- The sentinel stops, its window is abandoned without a record, its epoch ends (R432 step 1). -/
def State.sentinelStops (s : State) : State :=
  let s1 := s.ln fun l => { l with burst := {} }
  if !s1.learn.commitRuns ∧ s1.reg Reg.LRN_STEP ≠ 0#32 then s1.endEpoch else s1

/-- A transition begins from a state that is not itself one. -/
def State.begin (s : State) (r : PwrReq) : State :=
  let s0 := s.pw fun p => { p with pending := none, seen := 0 }
  match s.power.state, r.target with
  | .run, 2 => s0.mainOff.pw fun p => { p with state := .toDugout }
  | .run, 3 => (s0.mainOff.sentinelStops).pw fun p => { p with state := .toDormant }
  | .hold, 1 => s.pw fun p => { p with state := .fromHold, pending := none }
  | .hold, 2 => s0.mainOff.pw fun p => { p with state := .toDugout }
  | .hold, 3 => (s0.mainOff.sentinelStops).pw fun p => { p with state := .toDormant }
  | .dugout, 1 => s.startExit r
  | .dugout, 3 => (s0.sentinelStops).pw fun p => { p with state := .toDormant }
  | .dormant, 1 => s.startExit r
  | .dormant, 2 => s.dormantToDugout r
  | _, _ => s.pw fun p => { p with pending := none }

/-- No transition is running. -/
def PwrState.stable : PwrState → Bool
  | .run => true | .hold => true | .dugout => true | .dormant => true | _ => false

/-- A request (R434, R435): it starts its transition, or is latched while one runs. -/
def State.request (s : State) (r : PwrReq) : State :=
  if s.power.state.stable then s.begin r else s.latchReq r

/-- A transition ends in its state, and the pending request starts at once, or is discarded where it names that state. -/
def State.pwrArrive (s : State) (x : PwrState) : State :=
  let s1 := s.pw fun p => { p with state := x, slotTick := none }
  match s.power.pending with
  | none => s1
  | some r => s1.begin r

/-- The transitions between RUN and HOLD and from DORMANT to DUGOUT end (R425 steps 1, 2 and 10): LPDDR5X is in self
refresh in HOLD (R427). An exit of HOLD that a reset has overtaken ends with the alignment (R52). -/
def State.transitEnd (s : State) : State :=
  match s.power.state with
  | .toHold => { s with links := { s.links with selfRefresh := s.bit Reg.MEM_LPDDR_STATUS 0 } }.pwrArrive .hold
  | .fromHold => if s.hAnswers then { s with links := { s.links with selfRefresh := false } }.pwrArrive .run else s
  | .dormantToDugout => s.pwrArrive .dugout
  | _ => s

/-- An entry to DUGOUT or DORMANT is under way. -/
def State.entering (s : State) : Bool := s.power.state == .toDugout || s.power.state == .toDormant

/-- A wake source fires (R438, R455): outside RUN and HOLD it raises its request. -/
def State.wakeSeen (s : State) (code : Nat) : State :=
  let s1 := s.pw fun p => { p with seen := p.seen ||| 2 ^ (code - 1) }
  if s.power.state = .toRun then s1.setBit Reg.PWR_WAKE_CAUSE (7 + code) true else s1

def State.raiseWake (s : State) (code target : Nat) : State :=
  if s.runOrHold then s
  else (s.wakeSeen code).request { target := target, src := code, wake := code, time := s.rtc, during := s.entering }

/-! ### Commands of the controller -/

/-- The HOLD timer's request: from RUN with the H-die idle HOLD is entered; in HOLD it is ignored; from any other state no
path of R425 serves it (R434). -/
def State.holdRequest (s : State) : State :=
  match s.power.state with
  | .run => if s.hAnswers && s.hIdle && s.gateable then s.pw fun p => { p with state := .toHold } else s
  | .hold => s
  | _ => s.pwrErr

/-- HOLD_TIMER: a timer set to 0 never expires. -/
def execHoldTimer (s : State) : Host.Outcome State Fault Refusal :=
  done (if s.power.tileUp && s.fld Reg.PWR_CFG 15 0 != 0 then s.holdRequest else s)

/-- DUGOUT_TIMER. -/
def execDugoutTimer (s : State) : Host.Outcome State Fault Refusal :=
  done (if s.power.state == .hold && s.fld Reg.PWR_CFG 31 16 != 0 && s.sched.ctxs.all (fun e => e.2.mode == .idle) then
    s.request { target := 2, src := 9, time := s.rtc } else s)

/-- HOLD_EXIT_ACTIVITY: an activity that no other command stands for. -/
def execHoldExitActivity (s : State) : Host.Outcome State Fault Refusal := done s.activity

/-- A write to PWR_REQ. -/
def State.pwrReq (s : State) (target : Nat) : State :=
  if target = 0 then s
  else if target = 1 then
    (if s.runOrHold then s else s.wakeSeen 1).request { target := 1, src := 8, wake := 1, cmd := true, time := s.rtc, during := s.entering }
  else s.request { target := target, src := 8, cmd := true, time := s.rtc, during := s.entering }

/-- PWR_REQ_RUN. -/
def execPwrReqRun (s : State) : Host.Outcome State Fault Refusal := done (if s.power.tileUp then s.pwrReq 1 else s)

/-- PWR_REQ_DUGOUT. -/
def execPwrReqDugout (s : State) : Host.Outcome State Fault Refusal := done (if s.power.tileUp then s.pwrReq 2 else s)

/-- PWR_REQ_DORMANT. -/
def execPwrReqDormant (s : State) : Host.Outcome State Fault Refusal := done (if s.power.tileUp then s.pwrReq 3 else s)

/-- DUGOUT is reached once the enables are released, PG_MAIN is low and min_off has passed (R429 step 4). -/
def State.offCheck (s : State) : State :=
  if !s.power.enables && !s.power.pgMain && s.power.minOff && (s.power.state == .toDugout || s.power.state == .toRun) then s.pwrArrive .dugout
  else s

/-- PG_MAIN falls: the main dies are lost, at once where no entry had released them (R542). -/
def State.pgLow (s : State) : State :=
  let s1 := s.pw fun p => { p with pgMain := false }
  if s.runOrHold then ((s1.pw fun p => { p with seen := 0 }).mainOff.pw fun p => { p with state := .toDugout }).offCheck
  else if s.power.state = .toRun ∧ s.power.enables then s1.mainOff.offCheck
  else s1.offCheck

/-- PG_MAIN_LOW. -/
def execPgMainLow (s : State) : Host.Outcome State Fault Refusal :=
  done (if s.power.tileUp && s.power.pgMain then s.pgLow else s.pw fun p => { p with pgMain := false })

/-- MIN_OFF_EXPIRY. -/
def execMinOffExpiry (s : State) : Host.Outcome State Fault Refusal :=
  done (if s.power.tileUp && !s.power.enables then (s.pw fun p => { p with minOff := true }).offCheck else s)

/-- PG_MAIN_HIGH: during an exit, isolation and H-die reset are released, PERST# permitting (R441 step 3, R543). -/
def execPgMainHigh (s : State) : Host.Outcome State Fault Refusal :=
  let s1 := s.pw fun p => { p with pgMain := true }
  done (if s.power.state == .toRun && s.power.enables then { s1 with align := { s1.align with inReset := true, line := !s.power.perst } }
    else s1)

/-- PG_TIMEOUT (R442). -/
def execPgTimeout (s : State) : Host.Outcome State Fault Refusal :=
  done (if s.power.state == .toRun && s.power.enables && !s.power.pgMain then (s.mainOff.setBit Reg.PWR_STATUS 0 true).offCheck else s)

/-- ALIGNMENT_COMPLETE (R52 step 6, R54): every crossing has ended; an exit enters RUN, a reset in HOLD ends it (R518). -/
def State.alignDone (s : State) : State :=
  let ok := s.align.held.isEmpty
  let s1 := (s.setBit Reg.CLK_ALIGN_STATUS 0 true).setBit Reg.CLK_ALIGN_STATUS 1 ok
  let s2 := (List.range 3).foldl (fun s i => if s.domHeld (19 + i) then s else s.setBit (Reg.LNK_STATUS i) 0 true) s1
  match s2.power.state with
  | .toRun => s2.resumeStart.pwrArrive .run
  | .hold | .toHold | .fromHold => s2.pwrArrive .run
  | _ => s2

/-- ALIGNMENT_COMPLETE. -/
def execAlignmentComplete (s : State) : Host.Outcome State Fault Refusal :=
  done (if s.mainUp && !s.bit Reg.CLK_ALIGN_STATUS 0 && s.align.waiting.isEmpty then s.alignDone else s)

/-- A record is written at once, a record kept from before it first. -/
def State.logNow (s : State) (d : LogDue) : State :=
  let s1 := match s.meas.met.kept with
    | some k => (s.mt fun m => { m with kept := none }).logTry k 0 true
    | none => s
  (s1.mt fun m => { m with seq := m.seq + 1 }).logTry (s1.logRecord d) 0 true

/-- DORMANT_ENTRY_COMPLETE (R432): the main dies are off, no commit is running and no record is due; the checkpoint and
the DORMANT_ENTRY record are written and the tile stops. -/
def execDormantEntryComplete (s : State) : Host.Outcome State Fault Refusal :=
  let m := s.meas.met
  done (if s.power.state == .toDormant && !s.power.pgMain && s.power.minOff && s.learn.idle && m.due.isEmpty && m.cur.isNone then
      let s1 := (s.checkpoint.logNow { typ := 8 }).ms fun x => { x with excited := false, prec := { x.prec with phase := .idle } }
      s1.pwrArrive .dormant
    else s)

/-! ### Wake sources (R438, R454) -/

/-- The edge that a polarity bit selects: 0 rising, 1 falling. -/
def edgeWakes (s : State) (en pol : Nat) (rising : Bool) : Bool :=
  s.power.tileUp && s.bit Reg.PWR_WAKE_EN en && (rising != s.bit Reg.PWR_WAKE_EN pol)

/-- WAKE_EDGE. -/
def execWakeEdge (rising : Bool) (s : State) : Host.Outcome State Fault Refusal :=
  done (if edgeWakes s 2 8 rising then s.raiseWake 3 1 else s)

/-- WAKE_CAN. -/
def execWakeCan (rising : Bool) (s : State) : Host.Outcome State Fault Refusal :=
  done (if edgeWakes s 4 9 rising then s.raiseWake 5 1 else s)

/-- HWAKE. -/
def execHwake (rising : Bool) (s : State) : Host.Outcome State Fault Refusal :=
  done (if edgeWakes s 5 10 rising then s.raiseWake 6 1 else s)

/-! ### RTC and alarm (R448, R449, R459) -/

/-- A 64-bit RTC value as a count of ticks. -/
def rtcCount (v : Nat) : Nat := v / 2 ^ 24 * tickHz + v % 2 ^ 24

/-- An RTC value from a count of ticks, in the 64 bits of its register. -/
def rtcOf (n : Int) : Nat :=
  let k := (n % ((2 ^ 40 * tickHz : Nat) : Int)).toNat
  k / tickHz * 2 ^ 24 + k % tickHz

/-- The alarm's target. -/
def State.alarmTarget (s : State) : Nat := s.reg64 Reg.PWR_ALARM_LO

/-- One tick of the crystal: the RTC advances, and the tile's time too while its sampling domain runs (R424). -/
def State.crystal (s : State) : State :=
  s.pw fun p =>
    let q := { p with up := p.up + b2n s.tileRuns }
    if p.rtcTick + 1 < tickHz then { q with rtcTick := p.rtcTick + 1 }
    else { q with rtcTick := 0, rtcSec := (p.rtcSec + 1) % 2 ^ 40 }

/-- What happens while no command waits: the crystal ticks, a transition that waits for nothing else ends, and so does the
stop of queues with which a recovery begins; the port of R558 takes a waiting sample (log entries 2 and 81). -/
def State.tick (s : State) : State := ((if s.power.tileUp then s.crystal.transitEnd else s).queuesStopped).tapTick

/-- RTC_ALARM: an armed alarm whose target the RTC has reached fires. -/
def execRtcAlarm (s : State) : Host.Outcome State Fault Refusal :=
  let a := Reg.PWR_ALARM_CFG
  done (if s.power.tileUp && s.bit a 0 && decide (rtcCount s.alarmTarget ≤ s.rtcTicks) then
      let s1 := (s.setBit a 0 false).setBit a 2 true
      let s2 := if s.power.alarmLate then s1.setBit a 3 true else s1
      (s2.pw fun p => { p with alarmLate := false }).raiseWake 4 (if s.bit a 1 && s.power.state == .dormant then 2 else 1)
    else s)

/-- A write to PWR_ALARM_CFG: fired and late clear where written 1; an arming with a bad tick field is refused. -/
def State.alarmCfg (s : State) (val : Word) : State :=
  let a := Reg.PWR_ALARM_CFG
  let s1 := if val.getLsbD 2 then s.setBit a 2 false else s
  let s2 := (if val.getLsbD 3 then s1.setBit a 3 false else s1).setBit a 1 (val.getLsbD 1)
  if val.getLsbD 0 then
    if tickHz ≤ s.alarmTarget % 2 ^ 24 then s2.pwrErr
    else (s2.setBit a 0 true).pw fun p => { p with alarmLate := decide (rtcCount s.alarmTarget ≤ s.rtcTicks) }
  else s2.setBit a 0 false

/-- ALARM_ARM. -/
def execAlarmArm (val : Word) (s : State) : Host.Outcome State Fault Refusal := done (if s.power.tileUp then s.alarmCfg val else s)

/-- A write to PWR_RTC_SET_HI (R449). -/
def State.rtcSet (s : State) (p : Path) (val : Word) : State :=
  let ws := s.commitWords Reg.PWR_RTC_SET_LO 2 p val
  let v := (ws.getD 0 0).toNat + (ws.getD 1 0).toNat * 2 ^ 32
  if tickHz ≤ v % 2 ^ 24 then (s.committed Reg.PWR_RTC_SET_LO 2 p).pwrErr
  else
    let s0 := (s.setRegs Reg.PWR_RTC_SET_LO ws).committed Reg.PWR_RTC_SET_LO 2 p
    let d : Int := (rtcCount v : Int) - s.rtcTicks
    let dsec : Int := ((v / 2 ^ 24 : Nat) : Int) - s.power.rtcSec
    let t := rtcCount s.alarmTarget
    let s1 := s0.pw fun q => { q with
      rtcSec := v / 2 ^ 24, rtcTick := v % 2 ^ 24
      alarmLate := q.alarmLate || (s.bit Reg.PWR_ALARM_CFG 0 && decide (s.rtcTicks < t ∧ t < rtcCount v)) }
    let s2 := (s1.setBit Reg.PWR_STATUS 10 true).logDue { typ := 7, aux := uns 32 dsec }
    let s3 := s2.ln fun l => { l with t0 := l.t0 + d, lastDue := l.lastDue.map (· + d), since := l.since + d }
    s3.setReg64 Reg.MSR_VIB_TSTART_LO (rtcOf ((rtcCount (s.reg64 Reg.MSR_VIB_TSTART_LO) : Int) + d))

/-- RTC_SET. -/
def execRtcSet (path : Path) (val : Word) (s : State) : Host.Outcome State Fault Refusal :=
  done (if s.power.tileUp then s.rtcSet path val else s)

/-- A write to CLK_PAIR_CTRL with cap = 1 (R450). -/
def State.pairCapture (s : State) : State := (s.setReg64 Reg.CLK_PAIR_RTC_LO s.rtc).setReg64 Reg.CLK_PAIR_TB_LO s.now

/-- PAIR_CAPTURE. -/
def execPairCapture (s : State) : Host.Outcome State Fault Refusal := s.hAccess fun s => s.pairCapture

/-! ### Tile power-on and rail loss (R540 to R544) -/

/-- A save of the configuration that a power loss cuts short leaves its image invalid. -/
def Metrology.cut (m : Metrology) : Metrology :=
  match m.saving with
  | none => m
  | some _ => if m.newer1 || m.img0.isNone then { m with img0 := none, saving := none } else { m with img1 := none, saving := none }

/-- A tile rail is lost: the tile is reset and the main dies lose power with no entry step. The non-volatile cells and
the fuses stand. -/
def State.railLoss (s : State) : State :=
  let s1 := s.mainReset 1
  { s1 with
    regs := mainResets ++ tileResets
    wide := []
    align := {}
    safety := {}
    subCopy := {}
    host := { s1.host with m := {} }
    power := { tileUp := false, pgMain := s.power.pgMain, perst := s.power.perst }
    meas := { met := s.meas.met.cut, blankBall := s.meas.blankBall }
    learn := { s.learn.fresh with recovering := false, cfgReq := false }
    tap := s.tap.off }

/-- TILE_RAIL_LOSS. -/
def execTileRailLoss (s : State) : Host.Outcome State Fault Refusal := done s.railLoss

/-- CTL_RI_ADDR from the straps (R506, R532). -/
def riAddr (h m : Nat) : Nat :=
  let bad := fun a => decide (a = 0 ∨ a = 0x7F)
  h + m * 2 ^ 8 + b2n (bad h || h == m) * 2 ^ 16 + b2n (bad m) * 2 ^ 17

/-- Tile power-on reset is released: the straps are sampled, calibration is selected, configuration and metrology are
restored, model recovery begins; with BOOT_RUN high the exit starts (R447). -/
def State.tilePowerOn (s : State) (addrH addrM : Nat) (boot : Bool) : State :=
  let s1 := s.railLoss
  let s2 := (s1.pw fun p => { p with tileUp := true }).ln fun l => { l with recovering := true }
  let s3 := ((s2.setNat Reg.CTL_RI_ADDR (riAddr addrH addrM)).setBit Reg.PWR_CFG1 16 boot).measPowerOn
  if boot then (s3.pw fun p => { p with bootExit := true }).startExit { target := 1, src := 0, time := s3.rtc } else s3

/-- TILE_POWER_ON_RESET. -/
def execTilePowerOnReset (addrH addrM : BitVec 7) (boot : Bool) (s : State) : Host.Outcome State Fault Refusal :=
  done (s.tilePowerOn addrH.toNat addrM.toNat boot)

end Sys2Proof.Machine
end

