-- ==== Sys2Proof/Machine/Spectrum.lean ====
section
/-! DEFINITION. The windowed discrete Fourier transform of R381, with ω = e^(−2πi ÷ n) and n even: a bin is first an exact
integer polynomial in ω, reduced by ω^(n ÷ 2) = −1, so that a bin that is 0 is seen to be 0, and then a power in fixed
point. -/

namespace Sys2Proof.Machine

/-- 1 in fixed point. -/
def twiddleOne : Nat := 10 ^ 60

/-- π in fixed point. -/
def twiddlePi : Nat := 3141592653589793238462643383279502884197169399375105820974944

/-- Terms of a series from `t`, the `k`-th made from the one before by −x² ÷ (k (k + 1)), in fixed point. -/
def trigTerms (x2 : Int) : Nat → Nat → Int → Int
  | 0, _, t => t
  | fuel + 1, k, t => t + trigTerms x2 fuel (k + 2) (-(t * x2) / ((twiddleOne * (k * (k + 1)) : Nat) : Int))

/-- cos (2πj ÷ n) and sin (2πj ÷ n) for j below n ÷ 2. -/
def twiddle (n j : Nat) : Int × Int :=
  let x : Int := (2 * twiddlePi * j / n : Nat)
  let x2 := x * x / (twiddleOne : Int)
  (trigTerms x2 40 1 twiddleOne, trigTerms x2 40 2 x)

/-- Add `c` at place `i`. -/
def addAt (c : Int) : Nat → List Int → List Int
  | _, [] => []
  | 0, a :: t => (a + c) :: t
  | i + 1, a :: t => a :: addAt c i t

/-- c × ω^e joins a polynomial of n ÷ 2 coefficients. -/
def turn (n : Nat) (acc : List Int) (e : Nat) (c : Int) : List Int :=
  let r := e % n
  if r < n / 2 then addAt c r acc else addAt (-c) (r - n / 2) acc

/-- Four times the transform of zᵢ hᵢ at bin `k`: the window 0.5 − 0.5 cos (2πi ÷ n) takes half the bin and a quarter of
each neighbour. -/
def hannTurns (n : Nat) (z : List Int) (k : Nat) : List Int :=
  (z.zip (List.range n)).foldl (fun acc e =>
    turn n (turn n (turn n acc (e.2 * k) (2 * e.1)) (e.2 * (k + 1)) (-e.1)) (e.2 * (k + n - 1)) (-e.1)) (List.replicate (n / 2) 0)

/-- |·|² of a polynomial in ω, in units of 1 ÷ (10^60)². -/
def turnsPower (n : Nat) (a : List Int) : Nat :=
  let w := (a.zip (List.range (n / 2))).foldl (fun (p : Int × Int) e =>
    let t := twiddle n e.2
    (p.1 + e.1 * t.1, p.2 + e.1 * t.2)) (0, 0)
  w.1.natAbs ^ 2 + w.2.natAbs ^ 2

end Sys2Proof.Machine
end

