-- ==== Sys2Proof/Machine/Sentinel.lean ====
section
/-! DEFINITION. The sentinel: the burst schedule, features, events, the anomaly score and the result records (R341, R377 to
R382, R397 to R401). -/

namespace Sys2Proof.Machine

/-! ### The schedule (R377, R379) -/

/-- A write to LRN_CTRL: run going to 1 starts the schedule at T0. -/
def State.lrnCtrl (s : State) (val : Word) : State :=
  let s1 := s.setReg Reg.LRN_CTRL (val &&& 0x00000007#32)
  if val.getLsbD 0 && !s.bit Reg.LRN_CTRL 0 then s1.ln fun l => { l with t0 := s.rtcTicks, lastDue := none } else s1

/-- SENTINEL_RUN. -/
def execSentinelRun (val : Word) (s : State) : Host.Outcome State Fault Refusal := done (if s.tileRuns then s.lrnCtrl val else s)

/-- The burst period, in ticks: the one that took effect at the last burst, and before the first the one written. -/
def State.burstPeriod (s : State) : Nat :=
  max 1 (if s.learn.lastDue.isNone then s.fld Reg.LRN_SENT_CFG 15 0 else s.learn.period) * 1638400

/-- The next due time: the first T0 + n × period after the last due time, and not before the sentinel could run. -/
def State.nextDue (s : State) : Int :=
  let p : Int := s.burstPeriod
  let n : Int := match s.learn.lastDue with
    | none => 0
    | some d => (d - s.learn.t0) / p + 1
  s.learn.t0 + max n (-((s.learn.t0 - s.learn.since) / p)) * p

/-- The sentinel runs. -/
def State.sentinelOn (s : State) : Bool :=
  s.tileRuns && s.bit Reg.LRN_CTRL 0 && (s.vibMode == 1 || s.vibMode == 2) && !s.learn.recovering && s.power.state != .toDormant

/-- L, and the channels of chan (R419). -/
def Burst.l (b : Burst) : Nat := match wfld b.sent 17 16 with | 0 => 1024 | 1 => 2048 | _ => 4096
def Burst.chan (b : Burst) : List Nat := bitsOf 4 (wfld b.sent 23 20)

/-- The shaft speed of engine `e` in rpm; none without a shaft-speed input (R382). -/
def State.shaftRpm (s : State) (e : Nat) : Option Int :=
  ((List.range 4).find? fun p => s.role p == 4 && s.roleEng p == e).map fun p => rna ⟨(s.reg (Reg.MSR_PLS_RATE p)).toNat, 1000⟩

/-- A due burst is taken: its settings are those of now (R416), a reserved one reported. -/
def State.burstTake (s0 : State) : State :=
  let s := (s0.sentCheck (s0.reg Reg.LRN_SENT_CFG)).winCheck (s0.reg Reg.LRN_WIN)
  let rpm := (List.range 2).filterMap fun e => (s.shaftRpm e).map fun v => (256 + e, v)
  s.ln fun l => { l with burst := {
    phase := .sampling, t := s.rtc, sent := s.reg Reg.LRN_SENT_CFG, win := s.reg Reg.LRN_WIN
    enc := (List.range 5).map fun k => s.reg (Reg.LRN_ENC k), band := (List.range 32).map fun b => s.reg (Reg.LRN_BAND b)
    first := (List.range 4).map fun v => (s.reg (Reg.MSR_VIB_WIDX v)).toNat, lines := rpm, rms := [0, 0, 0, 0] } }

/-- BURST_DUE: taken, or skipped while the previous burst's record is not published. A new period takes effect with it. -/
def execBurstDue (s : State) : Host.Outcome State Fault Refusal :=
  done (if s.sentinelOn && decide (s.nextDue ≤ (s.rtcTicks : Int)) then
      let s1 := s.ln fun l => { l with lastDue := some s.nextDue, period := s.fld Reg.LRN_SENT_CFG 15 0 }
      if s.learn.burst.phase = .none then s1.burstTake else s1.incFld Reg.LRN_EVCNT 31 16 1
    else s)

/-- Bursts carry their own excitation: mode 0x1, or mode 0x2 in DUGOUT (R341). -/
def State.burstMode (s : State) : Bool := s.vibMode == 1 || (s.vibMode == 2 && !s.runOrHold)

/-- EXCITATION_ON. -/
def execExcitationOn (s : State) : Host.Outcome State Fault Refusal :=
  done (if s.sentinelOn && s.burstMode
      && decide (s.nextDue ≤ (s.rtcTicks : Int) + ((s.fld Reg.MSR_VIB_MODE 15 8 * 163840 : Nat) : Int)) then
    s.ms fun m => { m with excited := true } else s)

/-! ### Judging (R380) -/

/-- The channels of the burst that take samples. -/
def State.burstLive (s : State) : List Nat := s.learn.burst.chan.filter s.vibLive

/-- Channel `v` has written the burst's samples. -/
def State.burstHas (s : State) (v : Nat) : Bool :=
  decide (s.learn.burst.l ≤ ((s.reg (Reg.MSR_VIB_WIDX v)).toNat + 2 ^ 32 - s.learn.burst.first.getD v 0) % 2 ^ 32)

/-- The burst's samples of channel `v`, as the ring holds them. -/
def State.burstSamples (s : State) (v : Nat) : List Word :=
  (List.range s.learn.burst.l).map fun i => (s.vib v).ring.look 0#32 ((s.learn.burst.first.getD v 0 + i) % 4096)

/-- The last sample is written: the burst is judged by its samples' flags, and its excitation goes off. -/
def State.burstJudge (s : State) : State :=
  let b := s.learn.burst
  let xs := s.burstLive.map fun v => (v, s.burstSamples v)
  let missing := b.chan.isEmpty || decide (xs.length < b.chan.length)
  let blanked := xs.any fun x => x.2.any fun w => w.getLsbD 28
  let bad := xs.any fun x => x.2.any fun w => w.getLsbD 29 || w.getLsbD 30
  let s1 := s.bu fun b => { b with phase := .judged, samples := xs, blanked := blanked, fault := !blanked && (missing || bad) }
  let s2 := if s.burstMode then s1.ms fun m => { m with excited := false } else s1
  if missing && !blanked then s2.lrnErr else s2

/-- BURST_COMPLETE. -/
def execBurstComplete (s : State) : Host.Outcome State Fault Refusal :=
  done (if s.tileRuns && s.learn.burst.phase == .sampling && s.burstLive.all s.burstHas then s.burstJudge else s)

/-! ### Features (R381) -/

/-- Integer square root by bisection of its bits. -/
def rootBits (n : Nat) : Nat → Nat → Nat
  | 0, r => r
  | k + 1, r => let t := r + 2 ^ k; rootBits n k (if t * t ≤ n then t else r)

def rootFloor (n : Nat) : Nat := rootBits n (n.log2 / 2 + 1) 0

/-- rna of the square root of n ÷ d. -/
def rnaSqrt (n d : Nat) : Nat := (rootFloor (4 * n / d) + 1) / 2

/-- 10^(k ÷ 200) is at most n ÷ d. -/
def powBelow (n d : Nat) (k : Int) : Bool :=
  if 0 ≤ k then decide (10 ^ k.toNat * d ^ 200 ≤ n ^ 200) else decide (d ^ 200 ≤ n ^ 200 * 10 ^ (-k).toNat)

/-- The greatest m in [lo, hi] whose lower rounding boundary lies at most at n ÷ d, by bisection. -/
def log100Search (n d : Nat) : Nat → Int → Int → Int
  | 0, lo, _ => lo
  | f + 1, lo, hi =>
    if lo = hi then lo
    else
      let m := (lo + hi + 1) / 2
      if powBelow n d (2 * m - 1) then log100Search n d f m hi else log100Search n d f lo (m - 1)

/-- 100 log10 (n ÷ d), rounded, in a signed 16-bit value; −32,768 for 0. -/
def log100 (n d : Nat) : Int := if n = 0 then -32768 else log100Search n d 17 (-32768) 32767

def clamp16 (v : Int) : Int := clampI (-32768) 32767 v

/-- A sample in units of 10^7 ÷ 2^26 µV. -/
def sampleUnits (w : Word) : Int := vibCode w * ((2 ^ (3 - wfld w 25 24) : Nat) : Int)

/-- What a burst's codes give: n, the deviations times n, and the sums of their squares and fourth powers. -/
structure Moments where
  n : Nat
  z : List Int
  s2 : Nat
  s4 : Nat
  peak : Nat
  deriving DecidableEq, Repr

def momentsOf (xs : List Int) : Moments :=
  let sum := xs.foldl (· + ·) 0
  let z := xs.map fun x => (xs.length : Int) * x - sum
  { n := xs.length, z := z, s2 := z.foldl (fun a x => a + x.natAbs ^ 2) 0, s4 := z.foldl (fun a x => a + x.natAbs ^ 4) 0
    peak := z.foldl (fun a x => max a x.natAbs) 0 }

/-- RMS² and peak² in µV² as fractions. -/
def Moments.rms2 (m : Moments) : Nat × Nat := (m.s2 * 10 ^ 14, m.n ^ 3 * 2 ^ 52)
def Moments.peak2 (m : Moments) : Nat × Nat := (m.peak ^ 2 * 10 ^ 14, m.n ^ 2 * 2 ^ 52)

/-- The DSP's result: within one unit of the exact one (log entry 22). -/
def dspNear (kind : Nat) (xs : List Int) (v : Int) : Int := v + clampI (-1) 1 (Config.dspErr kind xs)

/-- RMS in µV. -/
def featRms (m : Moments) (xs : List Int) : Nat :=
  (clampI 0 4294967295 (dspNear 0 xs (rnaSqrt m.rms2.1 m.rms2.2 : Nat))).toNat

/-- The dB, crest and kurtosis features of a channel by their line offsets. -/
def featMoments (m : Moments) (xs : List Int) : List (Nat × Int) :=
  let log := fun (kind : Nat) (q : Nat × Nat) => if q.1 = 0 then (-32768 : Int) else clamp16 (dspNear kind xs (log100 q.1 q.2))
  let crest : Int := if m.s2 = 0 then 0 else clamp16 (dspNear 3 xs (rnaSqrt (m.peak ^ 2 * m.n * 10 ^ 4) m.s2 : Nat))
  let kurt : Int := if m.s2 = 0 then 0 else clamp16 (dspNear 4 xs (rnaNat (100 * m.n * m.s4) (m.s2 ^ 2) : Nat))
  [(32, log 1 m.rms2), (33, log 2 m.peak2), (34, crest), (35, kurt)]

/-- A band that produces a feature. -/
def bandOk (l : Nat) (w : Word) : Bool :=
  w.getLsbD 31 && decide (wfld w 11 0 ≤ wfld w 23 12) && decide (wfld w 23 12 ≤ l / 2)

/-- A band's feature: 100 log10 of its power, within one unit; −32,768 where the power is 0. -/
def bandFeat (n first last : Nat) (z xs : List Int) : Int :=
  let ws := (List.range (last + 1 - first)).map fun i => (hannTurns n z (first + i), if first + i = 0 ∨ 2 * (first + i) = n then 1 else 2)
  if ws.all fun w => w.1.all (· == 0) then -32768
  else
    let p := ws.foldl (fun a w => a + w.2 * turnsPower n w.1) 0
    clamp16 (dspNear (5 + first + 4096 * last) xs (log100 (p * 10 ^ 14) (3 * 2 ^ 53 * n ^ 4 * twiddleOne ^ 2)))

/-- The band features of a channel by their line offsets. -/
def featBands (b : Burst) (m : Moments) (xs : List Int) : List (Nat × Int) :=
  (List.range 32).filterMap fun i =>
    let w := b.band.getD i 0#32
    if bandOk b.l w then some (i, bandFeat m.n (wfld w 11 0) (wfld w 23 12) m.z xs) else none

/-- The features of one channel. -/
def featLines (b : Burst) (v : Nat) (xs : List Int) : List (Nat × Int) :=
  let m := momentsOf xs
  (featBands b m xs ++ featMoments m xs).map fun e => (64 * v + e.1, e.2)

/-- The features are ready: the lines' values, each channel's RMS, and the switches that watch an RMS. -/
def State.features (s : State) : State :=
  let b := s.learn.burst
  let chans := b.samples.map fun x => (x.1, x.2.map sampleUnits)
  let lines := chans.flatMap fun x => featLines b x.1 x.2
  let rms := (List.range 4).map fun v => match chans.find? (fun x => x.1 == v) with
    | some x => featRms (momentsOf x.2) x.2
    | none => 0
  let s1 := s.bu fun b => { b with phase := .features, lines := lines ++ b.lines, rms := rms }
  let s2 := if b.band.any fun w => decide (b.l / 2 < wfld w 23 12) then s1.lrnErr else s1
  chans.foldl (fun s x => s.swValue 2 x.1 (rms.getD x.1 0 : Nat) false b.fault) s2

/-- FEATURES_READY. -/
def execFeaturesReady (s : State) : Host.Outcome State Fault Refusal :=
  let b := s.learn.burst
  done (if s.tileRuns && b.phase == .judged && !b.blanked && !b.samples.isEmpty then s.features else s)

/-! ### Events (R382) -/

/-- Encoder class of an input line. -/
def lineClass (l : Nat) : Nat :=
  if 256 ≤ l then 4 else match l % 64 with | 32 => 1 | 33 => 1 | 34 => 2 | 35 => 3 | _ => 0

/-- enc_span (R419). -/
def Burst.span (b : Burst) : Nat := let n := wfld b.win 15 8; if n = 0 ∨ b.w < n then 0x20 else n

/-- The step at which a line with value `v` spikes. -/
def Burst.encode (b : Burst) (line : Nat) (v : Int) : Option Nat :=
  let e := b.enc.getD (lineClass line) 0#32
  let lo := sgn 16 (wfld e 15 0)
  let hi := sgn 16 (wfld e 31 16)
  if hi ≤ lo ∨ v < lo then none
  else if hi ≤ v then some 0
  else some (rna ⟨(hi - v) * ((b.span : Int) - 1), (hi - lo).toNat⟩).toNat

/-- Readout neurons exist and a model is in force; else the burst is scored as faulted (R397). -/
def State.scorable (s : State) : Bool := !s.learn.noModel && !s.params.readouts.isEmpty

/-- The events of a valid burst: its window begins with every V and ref at 0 and no history (R386). -/
def State.present (s : State) : State :=
  s.ln fun l => { l with
    neurons := [], spikes := []
    burst := { l.burst with phase := .window, step := 0, nsp := 0, events := l.burst.lines.filterMap fun e => (l.burst.encode e.1 e.2).map fun t => (e.1, t) } }

/-- EVENTS_READY. -/
def execEventsReady (s : State) : Host.Outcome State Fault Refusal :=
  let b := s.learn.burst
  done (if s.tileRuns && b.phase == .features && !b.fault then
      (if s.scorable then s.present else s.bu fun b => { b with fault := true })
    else s)

/-! ### Score and comparison (R397 to R399) -/

/-- S of R397. -/
def State.score (s : State) : Nat := min 65535 (rnaNat (1024 * s.learn.burst.nsp) (256 * s.learn.params.readouts.length))

/-- The comparison of a valid burst with score `x`: the new state and run. -/
def compareScore (cfg cfg1 : Word) (anom : Bool) (run x : Nat) : Bool × Nat :=
  let up := wfld cfg 15 0
  let down := wfld cfg 31 16
  if up ≤ down then (false, 0)
  else if anom then
    let r := if x ≤ down then run + 1 else 0
    if max 1 (wfld cfg1 7 4) ≤ r then (false, 0) else (true, r)
  else
    let r := if up ≤ x then run + 1 else 0
    if max 1 (wfld cfg1 3 0) ≤ r then (true, 0) else (false, r)

/-- The comparison of a valid burst, its switch value, and what a change to ANOMALY raises. -/
def State.compareValid (s : State) : State :=
  let l := s.learn
  let cfg := s.reg Reg.LRN_SCORE_CFG
  let x := s.score
  let c := compareScore cfg (s.reg Reg.LRN_SCORE_CFG1) l.anomaly l.run x
  let rose := c.1 && !l.anomaly
  let wakes := rose && s.bit Reg.LRN_CTRL 2
  let s1 := s.ln fun l => { l with
    anomaly := c.1, run := c.2, burst := { l.burst with phase := .compared, score := x, changed := c.1 != l.anomaly, wake := wakes } }
  let s2 := if wfld cfg 15 0 ≤ wfld cfg 31 16 then s1.lrnErr else s1
  let s3 := (if rose then s2.setBit Reg.LRN_STATUS 0 true else s2).swValue 3 0 (b2n c.1) false false
  if wakes then s3.raiseWake 2 1 else s3

/-- The burst has no window and needs none. -/
def Burst.unpresented (b : Burst) : Bool :=
  (b.phase == .judged && (b.blanked || b.samples.isEmpty)) || (b.phase == .features && b.fault)

/-- SCORE_COMPARE: at the window's end; a blanked burst leaves the comparison, a faulted one gives the switches a faulted
value. -/
def execScoreCompare (s : State) : Host.Outcome State Fault Refusal :=
  let b := s.learn.burst
  done (if !s.tileRuns then s
    else if b.phase = .window ∧ b.w ≤ b.step then s.compareValid
    else if b.unpresented then
      let s1 := s.bu fun b => { b with phase := .compared }
      if b.blanked then s1 else s1.swValue 3 0 0 false true
    else s)

/-! ### Result records (R400, R401) -/

/-- The record of the burst. -/
def State.resultRecord (s : State) (seq : Nat) : Nat :=
  let b := s.learn.burst
  let bf := s.fld Reg.NVS_BANK_FAIL 15 0
  let valid := !b.blanked && !b.fault
  let rms := (List.range 4).foldl (fun n v => n + (b.rms.getD v 0) * 2 ^ (192 + 32 * v)) 0
  seq % 2 ^ 32 + b.t % 2 ^ 64 * 2 ^ 32 + b.score % 2 ^ 16 * 2 ^ 96 + b2n s.learn.anomaly * 2 ^ 112 + b2n b.changed * 2 ^ 113
    + b2n valid * 2 ^ 114 + b2n b.blanked * 2 ^ 115 + b2n b.fault * 2 ^ 116 + b2n (bf != 0) * 2 ^ 117 + b2n s.learn.noModel * 2 ^ 118
    + b2n b.confirmed * 2 ^ 119 + b2n b.wake * 2 ^ 120
    + (if valid then b.epoch else (s.reg Reg.LRN_EPOCH).toNat) * 2 ^ 128 + min b.nsp 65535 * 2 ^ 160 + bf * 2 ^ 176 + rms

/-- The record is written to its slot and LRN_RES_HEAD takes its seq. -/
def State.publish (s : State) : State :=
  let n := (s.reg Reg.LRN_RES_HEAD).toNat + 1
  (s.ln fun l => { l with results := l.results.put 0 (n % 64) (s.resultRecord n), burst := {} }).setNat Reg.LRN_RES_HEAD n

/-- RESULT_PUBLISH. -/
def execResultPublish (s : State) : Host.Outcome State Fault Refusal :=
  done (if s.tileRuns && s.learn.burst.phase == .compared then s.publish else s)

/-- A write to LRN_RES_SEL. -/
def State.resultSelect (s : State) (n : Nat) : State :=
  let head := (s.reg Reg.LRN_RES_HEAD).toNat
  let s1 := s.setNat Reg.LRN_RES_SEL n
  if n = 0 ∨ head < n ∨ n + 63 < head then s1.setNat Reg.LRN_RES_CAPST 0
  else (s1.setRegs (Reg.LRN_RES_DATA 0) (recWords (s.learn.results.look 0 (n % 64)))).setNat Reg.LRN_RES_CAPST 1

/-- RESULT_SELECT. -/
def execResultSelect (seq : Word) (s : State) : Host.Outcome State Fault Refusal :=
  done (if s.tileRuns then s.resultSelect seq.toNat else s)

end Sys2Proof.Machine
end

