-- ==== Sys2Proof/Machine/Registers.lean ====
section
/-! DEFINITION. Reads and writes of registers: which addresses answer (R7, R8, R54, R433), the values computed on read, the
latch and the staging of wide values (R14), the access codes (R9), and what a write to each register with an action of its
own does. -/

namespace Sys2Proof.Machine

/-! ### Which addresses answer -/

/-- A register is implemented for this access: at the listener addressed (R8, R524), over BAR0 for a tile register only in
RUN or HOLD (R7), and in DORMANT no LRN_ or NVS_ register (R433). -/
def State.regThere (s : State) (tile : Bool) (p : Path) (a : Nat) : Bool :=
  (regRow? a).isSome &&
    (if isTileReg a then
      (tile || (p == .bar0 && s.runOrHold)) && !(s.power.state == .dormant && decide (0x3400 ≤ a) && decide (a < 0x3600))
    else !tile)

/-- A register's block is held in reset as this path sees it: over BAR0 the tile lies behind the tile link (R24, R54). -/
def State.regFrozen (s : State) (p : Path) (a : Nat) : Bool :=
  if isTileReg a then p == .bar0 && s.domHeld 24 else s.regHeld a

/-- A register's Reset value. -/
def resetValue (a : Nat) : Word := SMap.look 0#32 (mainResets ++ tileResets) a

/-! ### Values computed on read -/

/-- A run of registers at equal distances whose value is computed when it is read. -/
structure LiveReg where
  base : Nat
  stride : Nat := 1
  count : Nat := 1
  val : State → Nat → Nat

/-- The number of an address within a run. -/
def indexIn (base stride count a : Nat) : Option Nat :=
  if base ≤ a ∧ (a - base) % stride = 0 ∧ (a - base) / stride < count then some ((a - base) / stride) else none

/-- CTL_PCIE_STAT (R529). -/
def State.pcieStat (s : State) : Nat :=
  let h := s.host
  b2n h.up + h.speed % 8 * 2 + h.width % 16 * 16 + b2n (s.bit Reg.CTL_PCIE_STAT 8) * 256 + b2n h.d3 * 512 + h.lost * 65536

/-- The registers computed on read. -/
def liveRegs : List LiveReg := [
  { base := Reg.CTL_PCIE_STAT, val := fun s _ => s.pcieStat },
  { base := Reg.CTL_EVT_STATUS, val := fun s _ => s.evtStatus },
  { base := Reg.SCH_CTX_STATE 0, count := 256, val := fun s k => s.ctxState k },
  { base := Reg.SCH_CTX_POS 0, count := 256, val := fun s k => (s.ctx k).pos % 2 ^ 24 },
  { base := Reg.SCH_OCC 0, count := 64, val := fun s n => s.occReg n },
  { base := Reg.MEM_SPILL_RATIO, val := fun s _ => s.spillRatio },
  { base := Reg.ING_STATE 0, stride := 4, count := 64, val := fun s n => s.strmState n },
  { base := Reg.TIM_SEC_LO, count := 2, val := fun s i => s.time.sec / 2 ^ (32 * i) },
  { base := Reg.TIM_NOW0, count := 4, val := fun s i => (s.time.frac + s.time.ns * 2 ^ 32 + s.time.sec * 2 ^ 64) / 2 ^ (32 * i) },
  { base := Reg.TIM_REM_LO, count := 2, val := fun s i => uns 64 s.remNs / 2 ^ (32 * i) },
  { base := Reg.TIM_STATUS, val := fun s _ => s.timStatus },
  { base := Reg.SAF_STATUS, val := fun s _ => s.safStatus },
  { base := Reg.SAF_DBL_STATUS, val := fun s _ => s.dblStatus },
  { base := Reg.SAF_COV_LO, count := 2, val := fun s i => s.coverage / 2 ^ (32 * i) },
  { base := Reg.TST_STATUS, val := fun s _ => s.tstStatus },
  { base := Reg.MSR_VIB_WIN 0, count := 256, val := fun s j => (s.vibWin j).toNat },
  { base := Reg.MSR_SW_STATE, val := fun s _ => s.swState },
  { base := Reg.MSR_TOT_RUN 0, stride := 4, count := 2, val := fun s e => s.totRun e },
  { base := Reg.MSR_TOT_FUEL_LO 0, stride := 4, count := 2, val := fun s e => s.totFuel e },
  { base := Reg.MSR_TOT_FUEL_HI 0, stride := 4, count := 2, val := fun s e => s.totFuel e / 2 ^ 32 },
  { base := Reg.LRN_STATUS, val := fun s _ => s.lrnStatus },
  { base := Reg.LRN_CONFIRM, val := fun s _ => wfld (s.reg Reg.LRN_CONFIRM) 16 0 + b2n s.confirmed * 2 ^ 17 },
  { base := Reg.LRN_SRC_DATA, val := fun s _ => s.learn.src.look 0 s.srcSel },
  { base := Reg.NVS_STATUS, val := fun s _ => s.nvsStatus },
  { base := Reg.PWR_STATE, val := fun s _ => s.pwrState },
  { base := Reg.PWR_WAKE_EN, val := fun s _ => (s.reg Reg.PWR_WAKE_EN).toNat + b2n (s.bit Reg.LRN_CTRL 2) * 2 },
  { base := Reg.PWR_RTC_LO, count := 2, val := fun s i => s.rtc / 2 ^ (32 * i) }]

/-- A computed register at an address, with its number in the run. -/
def liveReg? (a : Nat) : List LiveReg → Option (LiveReg × Nat)
  | [] => none
  | r :: t => match indexIn r.base r.stride r.count a with
    | some i => some (r, i)
    | none => liveReg? a t

/-- The value of an implemented register. -/
def State.live (s : State) (a : Nat) : Word :=
  match liveReg? a liveRegs with
  | some (r, i) => BitVec.ofNat 32 (r.val s i)
  | none => s.reg a

/-- The value of an implemented register as an access on a path finds it (R54). -/
def State.seen (s : State) (p : Path) (a : Nat) : Word := if s.regFrozen p a then resetValue a else s.live a

/-! ### Wide reads (R14) -/

/-- Wide values that are only read: lowest address, number of words, and the run they repeat in. -/
def wideRead : List (Nat × Nat × Nat × Nat) := [
  (Reg.QNT_ERR_LO 0, 2, 8, 32), (Reg.QNT_SNAP_ERR_LO, 2, 2, 1), (Reg.ENG_BUSY_LO, 2, 2, 1), (Reg.MEM_ADDR_FAULT_LO, 2, 2, 1),
  (Reg.MEM_WLD_ONCHIP_LO, 2, 2, 1), (Reg.MEM_WLD_SPILL_LO, 2, 2, 1), (Reg.TIM_SEC_LO, 2, 2, 1), (Reg.TIM_NOW0, 4, 4, 1),
  (Reg.TIM_REM_LO, 2, 2, 1), (Reg.TIM_TSI_LO, 2, 2, 1), (Reg.TIM_KO_FIRE_LO 0, 2, 8, 32), (Reg.MSR_VIB_TSTART_LO, 2, 2, 1),
  (Reg.MSR_PCH_VAL 0, 3, 4, 16), (Reg.MSR_PLS_CNT_LO 0, 2, 4, 4), (Reg.MSR_DEVID_LO, 2, 2, 1), (Reg.MSR_TOT_RUN 0, 3, 4, 2),
  (Reg.NVS_WEAR_LO, 2, 2, 1), (Reg.PWR_WAKE_TIME_LO, 2, 2, 1), (Reg.PWR_RTC_LO, 2, 2, 1), (Reg.CLK_PAIR_RTC_LO, 2, 2, 1),
  (Reg.CLK_PAIR_TB_LO, 2, 2, 1), (Reg.SAF_FAULT_TIME_LO, 2, 2, 1), (Reg.SAF_DBL_KEY_LO, 2, 2, 1), (Reg.SAF_COV_LO, 2, 2, 1),
  (Reg.SYN_CTR_VAL_LO, 2, 2, 1), (Reg.SYN_CTR_TS_LO, 2, 2, 1), (Reg.SYN_WTR_LO 0, 2, 2, 16)]

/-- The group among the read-only wide values: lowest address, number of words, which word. -/
def wideReadGroup (a : Nat) : List (Nat × Nat × Nat × Nat) → Option (Nat × Nat × Nat)
  | [] => none
  | (base, n, stride, count) :: t =>
    let i := (a - base) / stride
    if base ≤ a ∧ i < count ∧ a - base - i * stride < n then some (base + i * stride, n, a - base - i * stride)
    else wideReadGroup a t

/-- The wide value that an address is a word of. -/
def wideOf (a : Nat) : Option (Nat × Nat × Nat) :=
  match wideGroup a with
  | some g => some g
  | none => wideReadGroup a wideRead

/-- One read of an implemented register: the lowest word of a wide value latches the higher words on its path; a higher
word comes from the latch, or live where the path has latched none. -/
def State.readReg (s : State) (p : Path) (a : Nat) : Word × State :=
  match wideOf a with
  | none => (s.seen p a, s)
  | some (base, n, 0) =>
    let hi := (List.range (n - 1)).map fun i => s.seen p (base + 1 + i)
    (s.seen p a, s.setSide base p { s.side base p with latched := some hi })
  | some (base, _, i + 1) =>
    match (s.side base p).latched with
    | some l => (l.getD i 0#32, s)
    | none => (s.seen p a, s)

/-- A read by a path, at the tile's listener or the H-die's: none where the access is refused under R8. -/
def State.read (s : State) (tile : Bool) (p : Path) (a : Nat) : Option Word × State :=
  if s.regThere tile p a then (some (s.readReg p a).1, (s.readReg p a).2)
  else (none, s.accErr tile 0 false (pathCode p) a)

/-! ### Writes (R9, R10) -/

/-- Apply an action where a bit of the word written is 1. -/
def State.onBit (s : State) (v : Word) (n : Nat) (f : State → State) : State := if v.getLsbD n then f s else s

/-- A run of registers at equal distances whose write has an action. -/
structure WriteReg where
  base : Nat
  stride : Nat := 1
  count : Nat := 1
  act : State → Path → Nat → Word → State

/-- A write to PWR_AVS_LIMIT (R60). -/
def State.avsLimitWrite (s : State) (v : Word) : State :=
  let lo := wfld v 9 0
  let hi := wfld v 25 16
  let bad := decide (lo < 720 ∨ 900 < lo ∨ hi < 720 ∨ 900 < hi ∨ hi < lo)
  let s1 := s.plain Reg.PWR_AVS_LIMIT v
  if bad then s1.setBit Reg.PWR_AVS_STATUS 5 true else s1

/-- A write to PWR_AVS_THROTTLE (R60). -/
def State.avsThrottleWrite (s : State) (v : Word) : State :=
  let s1 := s.plain Reg.PWR_AVS_THROTTLE v
  if wfld v 25 16 < 720 then s1.setBit Reg.PWR_AVS_STATUS 5 true else s1

/-- A write to PWR_AVS_CTRL: loop_en written 1 lets the loop write the regulator again (R66). -/
def State.avsCtrlWrite (s : State) (v : Word) : State :=
  let s1 := s.plain Reg.PWR_AVS_CTRL v
  if v.getLsbD 0 then { s1 with avs := { s1.avs with blocked := false } } else s1

/-- A write to MEM_LPDDR_CFG (R206). -/
def State.lpddrCfgWrite (s : State) (p : Path) (v : Word) : State :=
  if s.bit Reg.MEM_LPDDR_STATUS 0 || s.bit Reg.MEM_LPDDR_STATUS 1 then s.badWrite p Reg.MEM_LPDDR_CFG
  else s.plain Reg.MEM_LPDDR_CFG v

/-- A write to a bit-timing register of a CAN controller: taken only while its mode is off. -/
def State.canTimingWrite (s : State) (p : Path) (c a : Nat) (v : Word) : State :=
  let m := s.fld (Reg.ING_CAN_CTRL c) 1 0
  if m = 1 ∨ m = 2 then s.badWrite p a else s.plain a v

/-- A write to TIM_RATE or TIM_SERVO beyond the limit acts at the limit and sets cfg_err (R315). -/
def State.rateCheck (s : State) : State :=
  if rateLimit < (sgn 32 (s.reg Reg.TIM_RATE).toNat).natAbs then s.setBit Reg.TIM_STATUS 7 true else s

def State.servoCheck (s : State) : State :=
  if rateLimit < (s.fld Reg.TIM_SERVO 22 0 : Int) then s.setBit Reg.TIM_STATUS 7 true else s

/-- A write to SAF_DBL_CFG: in force at once, but while Doubles runs only from its next start (R498). -/
def State.dblCfgWrite (s : State) (v : Word) : State :=
  let s1 := s.plain Reg.SAF_DBL_CFG v
  (if s1.modeAct = 2 then s1 else s1.saf fun x => { x with dblCfg := s1.reg Reg.SAF_DBL_CFG }).cfgCheck

/-- A write to LRN_SENT_CFG or LRN_WIN: a reserved value sets cfg_err (R419). -/
def State.sentCfgWrite (s : State) (v : Word) : State :=
  (s.plain Reg.LRN_SENT_CFG v).sentCheck v

def State.winWrite (s : State) (v : Word) : State :=
  (s.plain Reg.LRN_WIN v).winCheck v

/-- A write to a group parameter: ignored while run = 1 (R414). -/
def State.grpWrite (s : State) (a : Nat) (v : Word) : State :=
  if s.bit Reg.LRN_CTRL 0 then s.lrnErr else s.plain a v

/-- A write to LRN_CMD: the bits act in ascending order. -/
def State.lrnCmd (s : State) (v : Word) : State :=
  ((((s.onBit v 0 State.commitModel).onBit v 1 State.endEpochCmd).onBit v 2 State.relearn).onBit v 3 State.saveCfg).onBit v 4
    State.lrnClr

/-- A write to CTL_RI_STAT or CTL_TRI_STAT (R531). -/
def State.riClear (s : State) (a : Nat) : State := s.setNat a 0

/-- A write to a key or command register with a queue or stream number and a command code in bits [10:8]. -/
def cmdOf (v : Word) : Nat := wfld v 10 8

/-- The registers whose write has an action, main dies. -/
def mainWrites : List WriteReg := [
  { base := Reg.CTL_ROOT_CTRL, act := fun s _ _ v =>
      (((s.onBit v 0 (·.commitRoot .sdt)).onBit v 1 (·.commitRoot .qdt)).onBit v 2 (·.commitRoot .sot)).onBit v 3 (·.commitRoot .tdt) },
  { base := Reg.CTL_RI_STAT, act := fun s _ _ v => s.onBit v 31 (·.riClear Reg.CTL_RI_STAT) },
  { base := Reg.CLK_PLL_CTRL, act := fun s _ _ v => s.pllCtrl v },
  { base := Reg.CLK_SRC, act := fun s _ _ v => s.clkSrcWrite v.toNat },
  { base := Reg.CLK_PAIR_CTRL, act := fun s _ _ v => s.onBit v 0 State.pairCapture },
  { base := Reg.PWR_AVS_CTRL, act := fun s _ _ v => s.avsCtrlWrite v },
  { base := Reg.PWR_AVS_LIMIT, act := fun s _ _ v => s.avsLimitWrite v },
  { base := Reg.PWR_AVS_THROTTLE, act := fun s _ _ v => s.avsThrottleWrite v },
  { base := Reg.PWR_AVS_MON_CNT 0, count := 8, act := fun s _ m v =>
      if v.getLsbD 31 then s.monitorEnable m v else s.plain (Reg.PWR_AVS_MON_CNT m) v },
  { base := Reg.ENG_CTRL, act := fun s _ _ v =>
      (s.onBit v 0 (·.setNat Reg.ENG_SAT_CNT 0)).onBit v 1 (·.setReg64 Reg.ENG_BUSY_LO 0) },
  { base := Reg.QNT_CFG 0, stride := 8, count := 32, act := fun s _ n v => s.qntCfgWrite n v },
  { base := Reg.QNT_SNAP_CTRL, act := fun s _ _ v => (s.onBit v 8 (·.qntSnap (wfld v 4 0))).onBit v 9 (·.qntClear (wfld v 4 0)) },
  { base := Reg.SCH_Q_CTRL, act := fun s _ _ v => s.qCtrl (wfld v 7 0) (cmdOf v) },
  { base := Reg.SCH_WDOG, act := fun s _ _ v => (s.plain Reg.SCH_WDOG v).cfgCheck },
  { base := Reg.SCH_CTRL, act := fun s _ _ v => s.onBit v 0 State.clrHw },
  { base := Reg.SCH_SB_SEL, act := fun s _ _ v => s.sbCapture v },
  { base := Reg.SCH_CTX_CFG 0, count := 256, act := fun s p k v => s.ctxCfgWrite p k v },
  { base := Reg.MEM_LPDDR_CFG, act := fun s p _ v => s.lpddrCfgWrite p v },
  { base := Reg.MEM_CTRL, act := fun s _ _ v => ((s.onBit v 0 State.train).onBit v 1 State.clrEcc).onBit v 2 State.clrSpill },
  { base := Reg.LNK_CTRL, act := fun s p _ v => ((s.onBit v 0 (·.pairTrain p)).onBit v 1 State.pairStop).onBit v 2 State.lnkClr },
  { base := Reg.SYN_CTR_SEL, act := fun s p _ v => s.capture p v },
  { base := Reg.SYN_DUMP_CTRL, act := fun s _ _ v => s.onBit v 0 (·.dumpStart (v.getLsbD 1)) },
  { base := Reg.SYN_HUD_ARRIVE, act := fun s p _ v => s.hostArrive (wfld v 5 0) (s.reg Reg.SYN_HUD_ROUND).toNat (if p = .bar0 then 0x3000 else 0x4000) },
  { base := Reg.SYN_CTRL, act := fun s _ _ v => (s.onBit v 0 (·.endCheck 0x100)).onBit v 1 State.synClr },
  { base := Reg.ING_STRM_CTRL, act := fun s _ _ v => s.strmCtrl (wfld v 5 0) (cmdOf v) },
  { base := Reg.ING_CTRL, act := fun s _ _ v => (s.onBit v 0 State.ingClr).onBit v 1 State.ingClrHw },
  { base := Reg.ING_CSI_CFG 0, stride := 2, count := 8, act := fun s p r v => s.sourceWrite p (.csi (Fin.ofNat 8 r)) v },
  { base := Reg.ING_ETH_CFG 0, stride := 8, count := 2, act := fun s p m v => s.sourceWrite p (.eth (Fin.ofNat 2 m)) v },
  { base := Reg.ING_CAN_CTRL 0, stride := 8, count := 2, act := fun s p c v => s.sourceWrite p (.can (Fin.ofNat 2 c)) v },
  { base := Reg.ING_CAN_NBT 0, stride := 8, count := 2, act := fun s p c v => s.canTimingWrite p c (Reg.ING_CAN_NBT c) v },
  { base := Reg.ING_CAN_DBT 0, stride := 8, count := 2, act := fun s p c v => s.canTimingWrite p c (Reg.ING_CAN_DBT c) v },
  { base := Reg.ING_TX_CFG 0, stride := 4, count := 4, act := fun s p t v => s.sourceWrite p (.tx (Fin.ofNat 4 t)) v },
  { base := Reg.TIM_RATE, act := fun s _ _ v => (s.plain Reg.TIM_RATE v).rateCheck },
  { base := Reg.TIM_SERVO, act := fun s _ _ v => (s.plain Reg.TIM_SERVO v).servoCheck },
  { base := Reg.TIM_KO_CFG 0, stride := 8, count := 32, act := fun s _ i v => if v.getLsbD 0 then s.kickArm i v else s.kickDisarm i v },
  { base := Reg.TIM_TSI_SEL, act := fun s _ _ v => if v.getLsbD 8 then s.tsiPop (wfld v 3 0) else s.plain Reg.TIM_TSI_SEL v },
  { base := Reg.SAF_CTRL, act := fun s _ _ v => s.modeWrite v },
  { base := Reg.SAF_FTI, act := fun s _ _ v => (s.plain Reg.SAF_FTI v).cfgCheck },
  { base := Reg.SAF_DBL_CFG, act := fun s _ _ v => s.dblCfgWrite v },
  { base := Reg.SAF_REC_STATUS, act := fun s _ _ v => s.onBit v 8 State.replayDone },
  { base := Reg.SAF_RESET, act := fun s p _ v => s.dieReset p v },
  { base := Reg.TST_KEY, act := fun s p _ v => s.tstKey p v },
  { base := Reg.TST_FAULT, act := fun s p _ v => s.tstWrite p Reg.TST_FAULT (·.onBit v 31 (·.raise { src := 0x0F })) },
  { base := Reg.TST_STATUS, count := 6, act := fun s p i v => s.tstWrite p (Reg.TST_STATUS + i) (·.plain (Reg.TST_STATUS + i) v) },
  { base := Reg.SYN_ADD 0, count := 4096, act := fun s p n v => s.hostAdd p n v.toNat }]

/-- The registers whose write has an action, Bruore tile. -/
def tileWrites : List WriteReg := [
  { base := Reg.MSR_CTRL, act := fun s _ _ v => (s.plain Reg.MSR_CTRL v).scanStart },
  { base := Reg.MSR_CMD, act := fun s _ _ v => s.onBit v 0 State.cfgSave },
  { base := Reg.MSR_VIB_MODE, act := fun s _ _ v => s.vibModeWrite v },
  { base := Reg.MSR_VIB_CFG 0, count := 4, act := fun s _ n v => s.vibCfgWrite n v },
  { base := Reg.MSR_PCH_CFG0 0, count := 32, act := fun s _ i v => (s.plain (Reg.MSR_PCH_CFG0 0 + i) v).scanStart },
  { base := Reg.MSR_SCAN_CTRL, act := fun s _ _ v => (s.plain Reg.MSR_SCAN_CTRL v).scanStart },
  { base := Reg.MSR_BLANK_CFG, act := fun s _ _ v => (s.plain Reg.MSR_BLANK_CFG v).blankEval },
  { base := Reg.MSR_SW_CFG 0, stride := 4, count := 8, act := fun s _ k v => s.swCommit k v },
  { base := Reg.MSR_SW_ACK, act := fun s _ _ v => s.swAck (wfld v 7 0) },
  { base := Reg.MSR_LOG_SEL, act := fun s _ _ v => s.logSelect v },
  { base := Reg.MSR_CKPT_SEL, act := fun s _ _ v => s.onBit v 0 State.ckptSelect },
  { base := Reg.LRN_CTRL, act := fun s _ _ v => s.lrnCtrl v },
  { base := Reg.LRN_CMD, act := fun s _ _ v => s.lrnCmd v },
  { base := Reg.LRN_SENT_CFG, act := fun s _ _ v => s.sentCfgWrite v },
  { base := Reg.LRN_WIN, act := fun s _ _ v => s.winWrite v },
  { base := Reg.LRN_CONFIRM, act := fun s _ _ v => s.confirmWrite v },
  { base := Reg.LRN_GRP_CFG 0, count := 32, act := fun s _ i v => s.grpWrite (Reg.LRN_GRP_CFG 0 + i) v },
  { base := Reg.LRN_SRC_DATA, act := fun s _ _ v => s.srcData v },
  { base := Reg.LRN_SYN_SEL, act := fun s _ _ v => s.synSelect (wfld v 17 0) },
  { base := Reg.LRN_SYN_DATA, act := fun s _ _ v => s.synData v },
  { base := Reg.LRN_RES_SEL, act := fun s _ _ v => s.resultSelect v.toNat },
  { base := Reg.PWR_REQ, act := fun s _ _ v => s.pwrReq (wfld v 1 0) },
  { base := Reg.PWR_ALARM_CFG, act := fun s _ _ v => s.alarmCfg v },
  { base := Reg.CTL_TRI_STAT, act := fun s _ _ v => s.onBit v 31 (·.riClear Reg.CTL_TRI_STAT) }]

/-- The action of a write at an address, with the register's number in its run. -/
def writeReg? (a : Nat) : List WriteReg → Option (WriteReg × Nat)
  | [] => none
  | r :: t => match indexIn r.base r.stride r.count a with
    | some i => some (r, i)
    | none => writeReg? a t

/-- The effect of a write of one word to an implemented register that is no word of a wide value. -/
def State.act (s : State) (p : Path) (a : Nat) (v : Word) : State :=
  match writeReg? a (if isTileReg a then tileWrites else mainWrites) with
  | some (r, i) => r.act s p i v
  | none => s.plain a v

/-- The commit of a wide value by a write of its highest word (R14). -/
def State.wideCommit (s : State) (base n : Nat) (p : Path) (v : Word) : State :=
  if base = Reg.SYN_CTR_END_LO then s.endCommit p v
  else if base = Reg.SYN_CTR_SET_LO then s.counterSet p v
  else if base = Reg.TIM_STEP_NS then s.timeStep p v
  else if base = Reg.TIM_OFFSET_LO then s.offsetCommit p v
  else if base = Reg.PWR_RTC_SET_LO then s.rtcSet p v
  else (s.plainWords base (s.commitWords base n p v)).committed base n p

/-- A write of one word to an implemented register: a lower word of a wide value is staged, its highest word commits it,
any other register acts. -/
def State.writeWord (s : State) (p : Path) (a : Nat) (v : Word) : State :=
  match wideGroup a with
  | some (base, n, i) => if i + 1 < n then s.stage base n i p v else s.wideCommit base n p v
  | none => s.act p a v

/-! ### Clears of event flags (R521) -/

/-- The source flags that a written 1 clears: event, register, bits. -/
def eventFlags : List (Nat × Nat × Nat) := [
  (0, Reg.SAF_FAULT, 1), (1, Reg.SCH_FAULT_STATUS, 1), (2, Reg.SYN_ERR_STATUS, 1), (3, Reg.SYN_UF_STATUS, 1),
  (4, Reg.SYN_END_STATUS, 1), (5, Reg.PWR_AVS_STATUS, 1), (6, Reg.PWR_AVS_STATUS, 0xFF00), (7, Reg.PWR_AVS_STATUS, 0x38),
  (8, Reg.QNT_ALARM, 0xFFFFFFFF), (9, Reg.ENG_SAT_FIRST, 0x80000000), (10, Reg.MEM_ECC_STATUS, 1), (11, Reg.MEM_ADDR_FAULT, 1),
  (12, Reg.LNK_STATUS 0, 4), (12, Reg.LNK_STATUS 1, 4), (12, Reg.LNK_STATUS 2, 4), (12, Reg.LNK_STATUS 3, 4),
  (13, Reg.ING_ALARM_LO, 0xFFFFFFFF), (13, Reg.ING_ALARM_HI, 0xFFFFFFFF),
  (14, Reg.CTL_ROOT_STATUS, 0xF0), (14, Reg.SCH_Q_STATUS, 1), (14, Reg.ING_STRM_STATUS, 1), (14, Reg.MEM_LPDDR_STATUS, 0x40),
  (14, Reg.SAF_STATUS, 2), (15, Reg.TIM_STATUS, 8), (16, Reg.TIM_KO_EVT, 0xFFFFFFFF), (17, Reg.TIM_STATUS, 0x84),
  (17, Reg.TIM_TSI_INFO, 0xFFFF0000), (18, Reg.CLK_PLL_STATUS, 0xFF00), (19, Reg.MEM_LPDDR_STATUS, 0x400),
  (20, Reg.CTL_ROOT_STATUS, 0x1000), (21, Reg.SYN_DUMP_STATUS, 6), (22, Reg.CTL_ACC_ERR, 7), (23, Reg.LRN_STATUS, 1),
  (24, Reg.MSR_VIB_STAT 0, 0x30000), (24, Reg.MSR_VIB_STAT 1, 0x30000), (24, Reg.MSR_VIB_STAT 2, 0x30000),
  (24, Reg.MSR_VIB_STAT 3, 0x30000), (24, Reg.MSR_STATUS, 0x14), (25, Reg.NVS_STATUS, 0x10), (25, Reg.LRN_STATUS, 0x14),
  (26, Reg.PWR_STATUS, 0xF), (26, Reg.PWR_ALARM_CFG, 4), (27, Reg.CTL_TACC_ERR, 7)]

/-- The events of which a write of `v` writes 1 to a flag that holds 1. -/
def State.clears (s : State) (a : Nat) (v : Word) : List Nat :=
  (eventFlags.filter fun e => e.2.1 == a && (v.toNat &&& e.2.2 &&& (s.reg a).toNat != 0)).map (·.1)

/-- An event so cleared announces itself again if it is still raised and enabled after the write. -/
def State.forget (s : State) (ns : List Nat) : State :=
  { s with host := { s.host with evtSeen := flagsNat ((List.range 28).map fun n => s.host.evtSeen.testBit n && !ns.contains n) } }

/-- A write by a path, at the tile's listener or the H-die's; false where the access is refused under R8. -/
def State.write (s : State) (tile : Bool) (p : Path) (a : Nat) (v : Word) : Bool × State :=
  if s.regThere tile p a then
    (true, if s.regFrozen p a then s else (s.forget (s.clears a v)).writeWord p a v)
  else (false, s.accErr tile 0 true (pathCode p) a)

/-! ### The commands -/

/-- The listener that an access over a path reaches answers: over Riath the tile's for a tile register. -/
def State.answers (s : State) (p : Path) (a : Nat) : Bool :=
  if p == .riath && isTileReg a then s.power.tileUp else s.hAnswers

/-- An access over a path has reached its listener: the H-die's is an activity (R428). -/
def State.reached (s : State) (p : Path) (a : Nat) : State := if p == .riath && isTileReg a then s else s.activity

/-- REGISTER_WRITE: a write over BAR0 whose byte enables are not all set is discarded (R15). DESIGN CHOICE (log entry 68):
such a write to an address with no implemented register sets part_wr only, not R8's bad_addr; the manual gives neither
precedence. -/
def execRegisterWrite (path : Path) (addr : BitVec 16) (be : BitVec 4) (val : Word) (s : State) :
    Host.Outcome State Fault Refusal :=
  let a := addr.toNat
  done (if s.answers path a then
    let t := s.reached path a
    if path = .bar0 ∧ be ≠ 0xF#4 then t.accErr false 1 true 1 a
    else (t.write (path == .riath && isTileReg a) path a val).2
  else s)

/-- WIDE_VALUE_LOW_READ: the value read is what the path returns. A read of any other address is one read of it. -/
def execWideValueLowRead (path : Path) (addr : BitVec 16) (s : State) : Host.Outcome State Fault Refusal :=
  let a := addr.toNat
  done (if s.answers path a then
    let r := (s.reached path a).read (path == .riath && isTileReg a) path a
    { r.2 with host := { r.2.host with reads := r.2.host.reads ++ [(r.1.getD 0#32).toNat] } }
  else s)

/-- An address is the highest word of a wide value that is written. -/
def wideHigh (a : Nat) : Bool := match wideGroup a with
  | some (_, n, i) => decide (i + 1 = n)
  | none => false

/-- WIDE_VALUE_HIGH_WRITE. -/
def execWideValueHighWrite (path : Path) (addr : BitVec 16) (val : Word) (s : State) : Host.Outcome State Fault Refusal :=
  let a := addr.toNat
  done (if s.answers path a && wideHigh a then ((s.reached path a).write (path == .riath && isTileReg a) path a val).2 else s)

end Sys2Proof.Machine
end

