-- ==== Sys2Proof/Machine/Link.lean ====
section
/-! DEFINITION. The Riath port and the PCIe host link: listeners, frames, wake by address match, the BAR2 window, resets of
the link, MSI-X masking and the endpoint's configuration (R500 to R532). -/

namespace Sys2Proof.Machine

/-! ### Riath frames (R503, R504) -/

/-- CRC-8 with polynomial 0x07, one bit after another. -/
def crc8Bits : Nat → Nat → Nat
  | 0, c => c
  | n + 1, c => crc8Bits n (if c.testBit 7 then (c * 2 % 256) ^^^ 0x07 else c * 2 % 256)

/-- The CRC-8 of a list of bytes in the order they are sent. -/
def crc8 (bs : List Nat) : Nat := bs.foldl (fun c b => crc8Bits 8 (c ^^^ b)) 0

/-- The first eight bytes of a frame. -/
def frameBytes (b0 b1 addr : Nat) (data : Word) : List Nat :=
  [b0, b1, addr % 256, addr / 256 % 256] ++ (List.range 4).map fun i => data.toNat / 2 ^ (8 * i) % 256

/-- A request as received: the listener's address, command code, tag, register address, data and CRC byte. -/
structure RiathFrame where
  dest : Nat
  req : RiathReq
  crc : Nat
  deriving DecidableEq, Repr

/-- The CRC of a request is right. -/
def RiathFrame.ok (f : RiathFrame) : Bool :=
  crc8 (frameBytes f.dest (f.req.cmd + f.req.tag * 16) f.req.addr f.req.data) == f.crc

/-- The levels of (RI_D, RI_S) with which the master sends a request. -/
def RiathFrame.levels (f : RiathFrame) : List (Bool × Bool) :=
  lineFrame (frameBytes f.dest (f.req.cmd + f.req.tag * 16) f.req.addr f.req.data ++ [f.crc])

/-- The request that a listener reads off the pair; a frame whose first change is one of D is none (R510). -/
def riReceive (ls : List (Bool × Bool)) : Option RiathFrame :=
  match lineRead ls with
  | [b0, b1, b2, b3, b4, b5, b6, b7, b8] =>
    if b0 < 128 then
      some { dest := b0, crc := b8
             req := { cmd := b1 % 16, tag := b1 / 16, addr := b2 + 256 * b3
                      data := BitVec.ofNat 32 (b4 + 256 * b5 + 65536 * b6 + 16777216 * b7) } }
    else none
  | _ => none

/-- The nine bytes of a response of the listener with address `own`. -/
def RiathResp.frame (own : Nat) (r : RiathResp) : List Nat :=
  let bs := frameBytes (0x80 + own) (r.status + b2n r.rep * 8 + r.tag * 16) r.addr r.data
  bs ++ [crc8 bs]

/-! ### Listeners (R506, R511, R512) -/

/-- Address and enable of a listener, from CTL_RI_ADDR. -/
def State.riOwn (s : State) (tile : Bool) : Nat := if tile then s.fld Reg.CTL_RI_ADDR 14 8 else s.fld Reg.CTL_RI_ADDR 6 0
def State.riEnabled (s : State) (tile : Bool) : Bool := !s.bit Reg.CTL_RI_ADDR (if tile then 17 else 16)

/-- A listener takes frames: enabled, and its die answers. -/
def State.riListens (s : State) (tile : Bool) : Bool := s.riEnabled tile && (if tile then s.power.tileUp else s.hAnswers)

/-- The counts of a listener. -/
def riStat (tile : Bool) : Nat := if tile then Reg.CTL_TRI_STAT else Reg.CTL_RI_STAT

def State.listener (s : State) (tile : Bool) : Listener := if tile then s.host.m else s.host.h

def State.setListener (s : State) (tile : Bool) (l : Listener) : State :=
  if tile then { s with host := { s.host with m := l } } else { s with host := { s.host with h := l } }

/-- The listener that a frame with this address reaches. -/
def State.riTarget (s : State) (dest : Nat) : Option Bool :=
  if s.riListens false && s.riOwn false == dest then some false
  else if s.riListens true && s.riOwn true == dest then some true
  else none

/-- Queue a response. -/
def State.respond (s : State) (tile : Bool) (r : RiathResp) : State :=
  let l := s.listener tile
  s.setListener tile { l with out := l.out ++ [r] }

/-- A response of a status and data to a request. -/
def RiathReq.resp (q : RiathReq) (status : Nat) (data : Word) : RiathResp :=
  { status := status, rep := false, tag := q.tag, addr := q.addr, data := data }

/-- Execute a request (R505): the response and the state after it. -/
def State.riExec (s : State) (tile : Bool) (q : RiathReq) : RiathResp × State :=
  if q.cmd = 1 then
    let r := s.read tile .riath q.addr
    (match r.1 with
     | some v => q.resp 0 v
     | none => q.resp 1 0#32, r.2)
  else if q.cmd = 2 then
    let r := s.write tile .riath q.addr q.data
    (if r.1 then q.resp 0 q.data else q.resp 1 0#32, r.2)
  else if q.cmd = 3 then (q.resp 0 (BitVec.ofNat 32 (0x00B09160 + b2n tile * 2 ^ 24)), s)
  else (q.resp 2 0#32, s)

/-- A command code is one of READ, WRITE and IDENT. -/
def riKnown (cmd : Nat) : Bool := decide (1 ≤ cmd ∧ cmd ≤ 3)

/-- A request that is not the kept one is executed, answered and, unless its code is reserved, kept. -/
def State.riFresh (s : State) (tile : Bool) (q : RiathReq) : State :=
  let r := s.riExec tile q
  let t := r.2.respond tile r.1
  if riKnown q.cmd then t.setListener tile { t.listener tile with kept := some (q, r.1) } else t

/-- A listener serves an intact request: the kept response again with rep = 1, or the request is executed. -/
def State.riServe (s : State) (tile : Bool) (q : RiathReq) : State :=
  match (s.listener tile).kept with
  | some k =>
    if k.1 = q then (s.incFld (riStat tile) 30 24 1).respond tile { k.2 with rep := true } else s.riFresh tile q
  | none => s.riFresh tile q

/-- The tile's address matcher (R513): an intact request to the H-die's listener wakes the package. -/
def State.riWake (s : State) (f : RiathFrame) : State :=
  let off : Bool := match s.power.state with
    | .dugout => true | .dormant => true | .toDugout => true | .toDormant => true | .dormantToDugout => true | _ => false
  if f.ok && s.power.tileUp && s.riEnabled false && s.riOwn false == f.dest && off && s.bit Reg.PWR_WAKE_EN 0 then
    s.raiseWake 1 1
  else s

/-- A request frame arrives (R505, R510, R511, R513). An intact one at the H-die's listener is an activity (R428). -/
def State.riath (s : State) (f : RiathFrame) : State :=
  match s.riTarget f.dest with
  | some tile => if f.ok then (if tile then s else s.activity).riServe tile f.req else s.incFld (riStat tile) 23 16 1
  | none => s.riWake f

/-- A request comes over the wires: it is what the listeners read off the pair. -/
def State.riWire (s : State) (f : RiathFrame) : State :=
  match riReceive f.levels with
  | some g => s.riath g
  | none => s

/-- RIATH_READ. -/
def execRiathRead (dest : BitVec 7) (tag : BitVec 4) (addr : BitVec 16) (data : Word) (crc : BitVec 8) (s : State) :
    Host.Outcome State Fault Refusal :=
  done (s.riWire { dest := dest.toNat, req := { cmd := 1, tag := tag.toNat, addr := addr.toNat, data := data }, crc := crc.toNat })

/-- RIATH_WRITE. -/
def execRiathWrite (dest : BitVec 7) (tag : BitVec 4) (addr : BitVec 16) (data : Word) (crc : BitVec 8) (s : State) :
    Host.Outcome State Fault Refusal :=
  done (s.riWire { dest := dest.toNat, req := { cmd := 2, tag := tag.toNat, addr := addr.toNat, data := data }, crc := crc.toNat })

/-- RIATH_IDENT. -/
def execRiathIdent (dest : BitVec 7) (tag : BitVec 4) (addr : BitVec 16) (data : Word) (crc : BitVec 8) (s : State) :
    Host.Outcome State Fault Refusal :=
  done (s.riWire { dest := dest.toNat, req := { cmd := 3, tag := tag.toNat, addr := addr.toNat, data := data }, crc := crc.toNat })

/-- RIATH_RESERVED: a frame whose code is reserved. -/
def execRiathReserved (dest : BitVec 7) (code tag : BitVec 4) (addr : BitVec 16) (data : Word) (crc : BitVec 8) (s : State) :
    Host.Outcome State Fault Refusal :=
  done (if riKnown code.toNat then s else
    s.riWire { dest := dest.toNat, req := { cmd := code.toNat, tag := tag.toNat, addr := addr.toNat, data := data }, crc := crc.toNat })

/-- Count a faulty frame in the field [hi:lo] of every enabled listener, or of the one whose address is known (R510). -/
def State.riCount (s : State) (dest : Option (BitVec 7)) (hi lo : Nat) : State :=
  [false, true].foldl (fun s tile =>
    let hit : Bool := match dest with
      | some d => s.riOwn tile == d.toNat
      | none => true
    if s.riListens tile && hit then s.incFld (riStat tile) hi lo 1 else s) s

/-- RIATH_FRAMING_ERROR. -/
def execRiathFramingError (dest : Option (BitVec 7)) (s : State) : Host.Outcome State Fault Refusal := done (s.riCount dest 7 0)

/-- RIATH_FRAME_TIMEOUT. -/
def execRiathFrameTimeout (dest : Option (BitVec 7)) (s : State) : Host.Outcome State Fault Refusal := done (s.riCount dest 15 8)

/-- RIATH_RESPONSE: the listener sends its oldest waiting response (R507). -/
def execRiathResponse (tile : Bool) (s : State) : Host.Outcome State Fault Refusal :=
  match (s.listener tile).out with
  | [] => done s
  | r :: t =>
    let s1 := s.setListener tile { s.listener tile with out := t }
    let bs := r.frame (s.riOwn tile)
    done { s1 with host := { s1.host with sent := s1.host.sent ++ [bs], ro := lineFrame bs } }

/-- RI_STAT_CLR. -/
def execRiStatClr (tile : Bool) (s : State) : Host.Outcome State Fault Refusal :=
  if tile then done (if s.power.tileUp then s.riClear (riStat true) else s) else s.hAccess fun s => s.riClear (riStat false)

/-! ### The BAR2 window (R516) -/

/-- The device address of a BAR2 offset. -/
def State.winAddr (s : State) (off : Nat) : Nat := s.reg64 Reg.CTL_WIN_BASE_LO + off

/-- Every byte of a window access is mapped; the window never reaches host memory (R528). -/
def State.winOk (s : State) (a n : Nat) : Bool := (s.rangeFault a n).isNone && decide (a + n ≤ 2 ^ 63)

/-- Store the enabled bytes of a window write. -/
def State.winStore (s : State) (a : Nat) : List (Option Byte) → State
  | [] => s
  | some b :: t => (s.store a [b]).winStore (a + 1) t
  | none :: t => s.winStore (a + 1) t

/-- A window write: all bytes in one access where all are enabled. -/
def State.winWriteBytes (s : State) (a : Nat) (bs : List (Option Byte)) : State :=
  if bs.all Option.isSome then s.store a (bs.filterMap id) else s.winStore a bs

/-- A window fault. -/
def State.winFault (s : State) (off : Nat) (wr : Bool) : State := s.accErr false 2 wr 2 (off / 4096 % 65536)

/-- BAR2_ACCESS: a write of the bytes given, a disabled byte being none, or a read of `len` bytes; held while the route to
a byte of it is closed (R54, R202, R218). -/
def execBar2Access (off : BitVec 28) (wr : Bool) (bs : List (Option Byte)) (len : Nat) (s : State) :
    Host.Outcome State Fault Refusal :=
  s.hAccess fun s =>
    let a := s.winAddr off.toNat
    if s.reaches .hdie [(a, if wr then bs.length else len)] then
      if wr then (if s.winOk a bs.length then s.winWriteBytes a bs else s.winFault off.toNat true)
      else
        let ok := s.winOk a len
        let s1 := if ok then s.eccRead a len else s.winFault off.toNat false
        let v := if ok then s.readNat a len else 0
        { s1 with host := { s1.host with reads := s1.host.reads ++ [v] } }
    else s

/-! ### The link and the endpoint's configuration (R514, R517 to R519) -/

/-- The shadow of every package counter that has one is issued again, in ascending order (R518). -/
def State.reissue (s : State) : State :=
  s.sync.ctrs.foldl (fun s e => if decide (e.1 < 0x1000) && e.2.shadowEn then s.shadowOut e.2 else s)
    { s with host := { s.host with owed := false } }

/-- After a change of the link or its configuration: shadows owed from an outage go out. -/
def State.linkSettles (s : State) : State := if s.host.owed && s.host.reach then s.reissue else s

/-- PCIE_HOT_RESET: the configuration space takes its defaults and the link leaves DL_Up; work continues. -/
def execPcieHotReset (s : State) : Host.Outcome State Fault Refusal :=
  done (if s.mainUp && s.host.up then
    { s with host := { s.host with
        up := false, speed := 0, width := 0, d3 := false, aspm := false, bme := false, msixEn := false, fnMask := false
        owed := true } }.setBit Reg.CTL_PCIE_STAT 8 true
  else s)

/-- PCIE_LINK_UP: the link enters DL_Up at a speed and width. -/
def execPcieLinkUp (speed : BitVec 3) (width : BitVec 4) (s : State) : Host.Outcome State Fault Refusal :=
  done (if s.mainUp && !s.domHeld 10 then
    { s with host := { s.host with up := true, speed := speed.toNat, width := width.toNat } }.linkSettles
  else s)

/-- A pending message goes out on a vector that is not masked any more (R519). -/
def HostLink.release (h : HostLink) (v : Nat) : HostLink :=
  if h.pend.getLsbD v && h.msixEn && !h.fnMask && !h.vecMask.getLsbD v then
    { h with pend := h.pend &&& ~~~BitVec.ofNat 32 (2 ^ v) }.msix v
  else h

/-- MSIX_UNMASK: a vector's mask bit is written; cleared, its pending message goes out. -/
def execMsixUnmask (vec : Fin 32) (masked : Bool) (s : State) : Host.Outcome State Fault Refusal :=
  let one := BitVec.ofNat 32 (2 ^ vec.val)
  let mask := if masked then s.host.vecMask ||| one else s.host.vecMask &&& ~~~one
  done (if s.mainUp && s.host.up then { s.activity with host := { s.host with vecMask := mask }.release vec.val } else s)

/-- PCIE_CONFIG_WRITE: Bus Master Enable, the D3hot state, MSI-X enable, the function mask and the enable of ASPM L1 take
the values given. -/
def execPcieConfigWrite (bme : Bool) (pm : PciePm) (msixEn fnMask : Bool) (s : State) : Host.Outcome State Fault Refusal :=
  if s.mainUp && s.host.up then
    let h := { s.host with bme := bme, d3 := pm.d3, msixEn := msixEn, fnMask := fnMask, aspm := pm.aspm }
    done { s.activity with host := (List.range 32).foldl HostLink.release h }.linkSettles
  else done s

/-- EVENT_ENABLE_WRITE: a write to CTL_EVT_EN; the messages that it causes follow every command (R521). -/
def execEventEnableWrite (path : Path) (val : Word) (s : State) : Host.Outcome State Fault Refusal :=
  done (if s.answers path Reg.CTL_EVT_EN then ((s.reached path Reg.CTL_EVT_EN).write false path Reg.CTL_EVT_EN val).2 else s)

end Sys2Proof.Machine
end

