-- ==== Sys2Proof/Machine/Dispatch.lean ====
section
/-! DEFINITION. One arm per command: each calls the meaning of its own. -/

namespace Sys2Proof.Machine

/-- What a command does to everything but the queue. -/
def exec (i : Instr) (s : State) : Host.Outcome State Fault Refusal :=
  match i with
  | .registerWrite path addr be val => Sys2Proof.Machine.execRegisterWrite path addr be val s
  | .wideValueLowRead path addr => Sys2Proof.Machine.execWideValueLowRead path addr s
  | .wideValueHighWrite path addr val => Sys2Proof.Machine.execWideValueHighWrite path addr val s
  | .commitSdt => Sys2Proof.Machine.execCommitSdt s
  | .commitQdt => Sys2Proof.Machine.execCommitQdt s
  | .commitSot => Sys2Proof.Machine.execCommitSot s
  | .commitTdt => Sys2Proof.Machine.execCommitTdt s
  | .tableLoadComplete t flips => Sys2Proof.Machine.execTableLoadComplete t flips s
  | .powerOnReset => Sys2Proof.Machine.execPowerOnReset s
  | .warmReset => Sys2Proof.Machine.execWarmReset s
  | .supervisorReset => Sys2Proof.Machine.execSupervisorReset s
  | .perstRelease => Sys2Proof.Machine.execPerstRelease s
  | .hDieResetRelease => Sys2Proof.Machine.execHDieResetRelease s
  | .alignMarkerReturn dom side => Sys2Proof.Machine.execAlignMarkerReturn dom side s
  | .alignMarkerTimeout dom side => Sys2Proof.Machine.execAlignMarkerTimeout dom side s
  | .alignmentComplete => Sys2Proof.Machine.execAlignmentComplete s
  | .rateMeasure rates => Sys2Proof.Machine.execRateMeasure rates s
  | .avsUpdate hottest => Sys2Proof.Machine.execAvsUpdate hottest s
  | .avsbusTransactionDone ok => Sys2Proof.Machine.execAvsbusTransactionDone ok s
  | .monitorEnable m val => Sys2Proof.Machine.execMonitorEnable m val s
  | .weightLoad e half => Sys2Proof.Machine.execWeightLoad e half s
  | .engineRowStart e => Sys2Proof.Machine.execEngineRowStart e s
  | .tableBuild e => Sys2Proof.Machine.execTableBuild e s
  | .engineRowEnd e => Sys2Proof.Machine.execEngineRowEnd e s
  | .drainConvert e => Sys2Proof.Machine.execDrainConvert e s
  | .reductionCombine core => Sys2Proof.Machine.execReductionCombine core s
  | .rowEncode core => Sys2Proof.Machine.execRowEncode core s
  | .qntSnap n => Sys2Proof.Machine.execQntSnap n s
  | .qntClear n => Sys2Proof.Machine.execQntClear n s
  | .qntExpChange n val => Sys2Proof.Machine.execQntExpChange n val s
  | .engClrSat => Sys2Proof.Machine.execEngClrSat s
  | .engClrBusy => Sys2Proof.Machine.execEngClrBusy s
  | .qStart q => Sys2Proof.Machine.execQStart q s
  | .qHalt q => Sys2Proof.Machine.execQHalt q s
  | .qResume q => Sys2Proof.Machine.execQResume q s
  | .qRelease q => Sys2Proof.Machine.execQRelease q s
  | .qCmdReserved q cmd => Sys2Proof.Machine.execQCmdReserved q cmd s
  | .issueGrant core => Sys2Proof.Machine.execIssueGrant core s
  | .entryFetch k => Sys2Proof.Machine.execEntryFetch k s
  | .waitEntry k => Sys2Proof.Machine.execWaitEntry k s
  | .signalEntry k => Sys2Proof.Machine.execSignalEntry k s
  | .huddleArrivalEntry k => Sys2Proof.Machine.execHuddleArrivalEntry k s
  | .reservedEntryKind k => Sys2Proof.Machine.execReservedEntryKind k s
  | .opUnimplemented k => Sys2Proof.Machine.execOpUnimplemented k s
  | .linear k => Sys2Proof.Machine.execLinear k s
  | .conv2d k => Sys2Proof.Machine.execConv2d k s
  | .encodeRow k => Sys2Proof.Machine.execEncodeRow k s
  | .encodeWeight k => Sys2Proof.Machine.execEncodeWeight k s
  | .add k => Sys2Proof.Machine.execAdd k s
  | .sub k => Sys2Proof.Machine.execSub k s
  | .mul k => Sys2Proof.Machine.execMul k s
  | .fma k => Sys2Proof.Machine.execFma k s
  | .min k => Sys2Proof.Machine.execMin k s
  | .max k => Sys2Proof.Machine.execMax k s
  | .abs k => Sys2Proof.Machine.execAbs k s
  | .neg k => Sys2Proof.Machine.execNeg k s
  | .cmp k => Sys2Proof.Machine.execCmp k s
  | .select k => Sys2Proof.Machine.execSelect k s
  | .relu k => Sys2Proof.Machine.execRelu k s
  | .clamp k => Sys2Proof.Machine.execClamp k s
  | .convert k => Sys2Proof.Machine.execConvert k s
  | .exp k => Sys2Proof.Machine.execExp k s
  | .recip k => Sys2Proof.Machine.execRecip k s
  | .sqrt k => Sys2Proof.Machine.execSqrt k s
  | .rsqrt k => Sys2Proof.Machine.execRsqrt k s
  | .sigmoid k => Sys2Proof.Machine.execSigmoid k s
  | .tanh k => Sys2Proof.Machine.execTanh k s
  | .gelu k => Sys2Proof.Machine.execGelu k s
  | .silu k => Sys2Proof.Machine.execSilu k s
  | .rescale k => Sys2Proof.Machine.execRescale k s
  | .rowMax k => Sys2Proof.Machine.execRowMax k s
  | .rowMin k => Sys2Proof.Machine.execRowMin k s
  | .rowSum k => Sys2Proof.Machine.execRowSum k s
  | .rowSumsq k => Sys2Proof.Machine.execRowSumsq k s
  | .softmax k => Sys2Proof.Machine.execSoftmax k s
  | .layernorm k => Sys2Proof.Machine.execLayernorm k s
  | .rmsnorm k => Sys2Proof.Machine.execRmsnorm k s
  | .reduce k => Sys2Proof.Machine.execReduce k s
  | .copy k => Sys2Proof.Machine.execCopy k s
  | .poolMax k => Sys2Proof.Machine.execPoolMax k s
  | .forwardedOperator k => Sys2Proof.Machine.execForwardedOperator k s
  | .operatorRetire core idx => Sys2Proof.Machine.execOperatorRetire core idx s
  | .retirementReport core q entry => Sys2Proof.Machine.execRetirementReport core q entry s
  | .watchdogScan => Sys2Proof.Machine.execWatchdogScan s
  | .sbCapture val => Sys2Proof.Machine.execSbCapture val s
  | .schClrHw => Sys2Proof.Machine.execSchClrHw s
  | .ctxCfgWrite path k val => Sys2Proof.Machine.execCtxCfgWrite path k val s
  | .lpddrTrain => Sys2Proof.Machine.execLpddrTrain s
  | .lpddrTrainDone fail => Sys2Proof.Machine.execLpddrTrainDone fail s
  | .memClrEcc => Sys2Proof.Machine.execMemClrEcc s
  | .memClrSpill => Sys2Proof.Machine.execMemClrSpill s
  | .dramTempReport mult hot => Sys2Proof.Machine.execDramTempReport mult hot s
  | .scrubPassStart => Sys2Proof.Machine.execScrubPassStart s
  | .scrubRead arr granule flips => Sys2Proof.Machine.execScrubRead arr granule flips s
  | .eccWriteback => Sys2Proof.Machine.execEccWriteback s
  | .flitReceive link dirB seq crcOk corrected ue credit => Sys2Proof.Machine.execFlitReceive link dirB seq crcOk corrected ue credit s
  | .replayRequest link dirB seq flits forced => Sys2Proof.Machine.execReplayRequest link dirB seq flits forced s
  | .pairTrain path => Sys2Proof.Machine.execPairTrain path s
  | .pairTrainDone => Sys2Proof.Machine.execPairTrainDone s
  | .pairTrainTimeout => Sys2Proof.Machine.execPairTrainTimeout s
  | .pairStop => Sys2Proof.Machine.execPairStop s
  | .lnkClr => Sys2Proof.Machine.execLnkClr s
  | .counterAdd ctr k src => Sys2Proof.Machine.execCounterAdd ctr k src s
  | .waitRegister k => Sys2Proof.Machine.execWaitRegister k s
  | .shadowWrite n => Sys2Proof.Machine.execShadowWrite n s
  | .hostAdd path n amount => Sys2Proof.Machine.execHostAdd path n amount s
  | .counterSet path val => Sys2Proof.Machine.execCounterSet path val s
  | .endValueCommit path val => Sys2Proof.Machine.execEndValueCommit path val s
  | .counterCapture path val => Sys2Proof.Machine.execCounterCapture path val s
  | .dumpStart freeze => Sys2Proof.Machine.execDumpStart freeze s
  | .dumpDone => Sys2Proof.Machine.execDumpDone s
  | .hostHuddleArrive path root => Sys2Proof.Machine.execHostHuddleArrive path root s
  | .huddleNodeArrive idx => Sys2Proof.Machine.execHuddleNodeArrive idx s
  | .hostEndCheck => Sys2Proof.Machine.execHostEndCheck s
  | .synClr => Sys2Proof.Machine.execSynClr s
  | .streamStart n => Sys2Proof.Machine.execStreamStart n s
  | .streamStop n => Sys2Proof.Machine.execStreamStop n s
  | .streamAbort n => Sys2Proof.Machine.execStreamAbort n s
  | .streamReload n => Sys2Proof.Machine.execStreamReload n s
  | .streamClear n => Sys2Proof.Machine.execStreamClear n s
  | .streamCmdReserved n cmd => Sys2Proof.Machine.execStreamCmdReserved n cmd s
  | .ingClr => Sys2Proof.Machine.execIngClr s
  | .ingClrHw => Sys2Proof.Machine.execIngClrHw s
  | .sourceEnable path src val => Sys2Proof.Machine.execSourceEnable path src val s
  | .sourceDisable path src val => Sys2Proof.Machine.execSourceDisable path src val s
  | .frameStart r vc fnum fixed backlog => Sys2Proof.Machine.execFrameStart r vc fnum fixed backlog s
  | .longPacket r vc dt data hdr crcBad backlog lost ue => Sys2Proof.Machine.execLongPacket r vc dt data hdr crcBad backlog lost ue s
  | .frameEnd r vc fixed => Sys2Proof.Machine.execFrameEnd r vc fixed s
  | .frameDeliver n => Sys2Proof.Machine.execFrameDeliver n s
  | .frameGapTimeout n => Sys2Proof.Machine.execFrameGapTimeout n s
  | .ethernetFrameRx m data fcsOk age backlog lost ue => Sys2Proof.Machine.execEthernetFrameRx m data fcsOk age backlog lost ue s
  | .canMessageRx c id ide fdf brs rtr esi dlc data age backlog lost ue => Sys2Proof.Machine.execCanMessageRx c id ide fdf brs rtr esi dlc data age backlog lost ue s
  | .txDescriptorSend t => Sys2Proof.Machine.execTxDescriptorSend t s
  | .txComplete t ok age => Sys2Proof.Machine.execTxComplete t ok age s
  | .canRecover c => Sys2Proof.Machine.execCanRecover c s
  | .canBusOffRecovery c => Sys2Proof.Machine.execCanBusOffRecovery c s
  | .timeStep path val => Sys2Proof.Machine.execTimeStep path val s
  | .offsetCommit path val => Sys2Proof.Machine.execOffsetCommit path val s
  | .tsiEdge j level age => Sys2Proof.Machine.execTsiEdge j level age s
  | .tsiPop j => Sys2Proof.Machine.execTsiPop j s
  | .kickoffArm n val => Sys2Proof.Machine.execKickoffArm n val s
  | .kickoffDisarm n val => Sys2Proof.Machine.execKickoffDisarm n val s
  | .kickoffFire n => Sys2Proof.Machine.execKickoffFire n s
  | .triggerPulseEnd o => Sys2Proof.Machine.execTriggerPulseEnd o s
  | .pairCapture => Sys2Proof.Machine.execPairCapture s
  | .pllEnable val => Sys2Proof.Machine.execPllEnable val s
  | .pllLock n ok => Sys2Proof.Machine.execPllLock n ok s
  | .clkSrcSwitch val => Sys2Proof.Machine.execClkSrcSwitch val s
  | .pllLossOfLock n => Sys2Proof.Machine.execPllLossOfLock n s
  | .cfgSave => Sys2Proof.Machine.execCfgSave s
  | .cfgSaveDone => Sys2Proof.Machine.execCfgSaveDone s
  | .vibModeWrite val => Sys2Proof.Machine.execVibModeWrite val s
  | .vibSample v raw full => Sys2Proof.Machine.execVibSample v raw full s
  | .biasCheck v mv => Sys2Proof.Machine.execBiasCheck v mv s
  | .precisionDischargeEnd => Sys2Proof.Machine.execPrecisionDischargeEnd s
  | .precisionSettleEnd => Sys2Proof.Machine.execPrecisionSettleEnd s
  | .precisionConversionEnd raw full => Sys2Proof.Machine.execPrecisionConversionEnd raw full s
  | .burnoutTrip on => Sys2Proof.Machine.execBurnoutTrip on s
  | .blankEdge level => Sys2Proof.Machine.execBlankEdge level s
  | .blankHoldoffEnd => Sys2Proof.Machine.execBlankHoldoffEnd s
  | .pulseEdge p rising => Sys2Proof.Machine.execPulseEdge p rising s
  | .pulseRateTimeout p => Sys2Proof.Machine.execPulseRateTimeout p s
  | .runDwellEnd e => Sys2Proof.Machine.execRunDwellEnd e s
  | .switchDwellTick => Sys2Proof.Machine.execSwitchDwellTick s
  | .switchCommit k val => Sys2Proof.Machine.execSwitchCommit k val s
  | .switchAck mask => Sys2Proof.Machine.execSwitchAck mask s
  | .swoOvercurrent k => Sys2Proof.Machine.execSwoOvercurrent k s
  | .swoRetry k => Sys2Proof.Machine.execSwoRetry k s
  | .calSessionOpen => Sys2Proof.Machine.execCalSessionOpen s
  | .calImageRead ack img okA okB => Sys2Proof.Machine.execCalImageRead ack img okA okB s
  | .logPeriodic => Sys2Proof.Machine.execLogPeriodic s
  | .logRecordWrite ok => Sys2Proof.Machine.execLogRecordWrite ok s
  | .logSelect seq => Sys2Proof.Machine.execLogSelect seq s
  | .logSearchDone => Sys2Proof.Machine.execLogSearchDone s
  | .checkpointTimer => Sys2Proof.Machine.execCheckpointTimer s
  | .checkpointSelect => Sys2Proof.Machine.execCheckpointSelect s
  | .checkpointSearchDone => Sys2Proof.Machine.execCheckpointSearchDone s
  | .tilePowerOnReset addrH addrM boot => Sys2Proof.Machine.execTilePowerOnReset addrH addrM boot s
  | .tileRailLoss => Sys2Proof.Machine.execTileRailLoss s
  | .sentinelRun val => Sys2Proof.Machine.execSentinelRun val s
  | .burstDue => Sys2Proof.Machine.execBurstDue s
  | .excitationOn => Sys2Proof.Machine.execExcitationOn s
  | .burstComplete => Sys2Proof.Machine.execBurstComplete s
  | .featuresReady => Sys2Proof.Machine.execFeaturesReady s
  | .eventsReady => Sys2Proof.Machine.execEventsReady s
  | .eventCoreStep ovf => Sys2Proof.Machine.execEventCoreStep ovf s
  | .epochCommit => Sys2Proof.Machine.execEpochCommit s
  | .nvsWriteDone ok => Sys2Proof.Machine.execNvsWriteDone ok s
  | .scoreCompare => Sys2Proof.Machine.execScoreCompare s
  | .resultPublish => Sys2Proof.Machine.execResultPublish s
  | .resultSelect seq => Sys2Proof.Machine.execResultSelect seq s
  | .modelRecoveryDone => Sys2Proof.Machine.execModelRecoveryDone s
  | .commitModel => Sys2Proof.Machine.execCommitModel s
  | .endEpoch => Sys2Proof.Machine.execEndEpoch s
  | .relearn => Sys2Proof.Machine.execRelearn s
  | .lrnSaveCfg => Sys2Proof.Machine.execLrnSaveCfg s
  | .lrnClr => Sys2Proof.Machine.execLrnClr s
  | .synSelect j => Sys2Proof.Machine.execSynSelect j s
  | .synDataWrite val => Sys2Proof.Machine.execSynDataWrite val s
  | .srcDataWrite val => Sys2Proof.Machine.execSrcDataWrite val s
  | .confirmWrite val => Sys2Proof.Machine.execConfirmWrite val s
  | .confirmMinute => Sys2Proof.Machine.execConfirmMinute s
  | .confirmBall high => Sys2Proof.Machine.execConfirmBall high s
  | .holdTimer => Sys2Proof.Machine.execHoldTimer s
  | .dugoutTimer => Sys2Proof.Machine.execDugoutTimer s
  | .holdExitActivity => Sys2Proof.Machine.execHoldExitActivity s
  | .pwrReqRun => Sys2Proof.Machine.execPwrReqRun s
  | .pwrReqDugout => Sys2Proof.Machine.execPwrReqDugout s
  | .pwrReqDormant => Sys2Proof.Machine.execPwrReqDormant s
  | .pgMainLow => Sys2Proof.Machine.execPgMainLow s
  | .minOffExpiry => Sys2Proof.Machine.execMinOffExpiry s
  | .pgMainHigh => Sys2Proof.Machine.execPgMainHigh s
  | .pgTimeout => Sys2Proof.Machine.execPgTimeout s
  | .dormantEntryComplete => Sys2Proof.Machine.execDormantEntryComplete s
  | .wakeEdge rising => Sys2Proof.Machine.execWakeEdge rising s
  | .wakeCan rising => Sys2Proof.Machine.execWakeCan rising s
  | .hwake rising => Sys2Proof.Machine.execHwake rising s
  | .rtcAlarm => Sys2Proof.Machine.execRtcAlarm s
  | .alarmArm val => Sys2Proof.Machine.execAlarmArm val s
  | .rtcSet path val => Sys2Proof.Machine.execRtcSet path val s
  | .dangerousFault extra => Sys2Proof.Machine.execDangerousFault extra s
  | .overTemperature => Sys2Proof.Machine.execOverTemperature s
  | .digestRecordReady => Sys2Proof.Machine.execDigestRecordReady s
  | .peerRecordReceive d index id kind sat rows => Sys2Proof.Machine.execPeerRecordReceive d index id kind sat rows s
  | .matchTableScan => Sys2Proof.Machine.execMatchTableScan s
  | .goldenCheck => Sys2Proof.Machine.execGoldenCheck s
  | .bistSlice u last fail => Sys2Proof.Machine.execBistSlice u last fail s
  | .bistPeriodEnd => Sys2Proof.Machine.execBistPeriodEnd s
  | .diagnosticBistDone fails => Sys2Proof.Machine.execDiagnosticBistDone fails s
  | .recoveryReady => Sys2Proof.Machine.execRecoveryReady s
  | .replayDone => Sys2Proof.Machine.execReplayDone s
  | .safModeWrite val => Sys2Proof.Machine.execSafModeWrite val s
  | .fullDieReset path val => Sys2Proof.Machine.execFullDieReset path val s
  | .tstKeyWrite path val => Sys2Proof.Machine.execTstKeyWrite path val s
  | .tstDigArm path => Sys2Proof.Machine.execTstDigArm path s
  | .tstFault path => Sys2Proof.Machine.execTstFault path s
  | .tstEccArm path val => Sys2Proof.Machine.execTstEccArm path val s
  | .riathRead dest tag addr data crc => Sys2Proof.Machine.execRiathRead dest tag addr data crc s
  | .riathWrite dest tag addr data crc => Sys2Proof.Machine.execRiathWrite dest tag addr data crc s
  | .riathIdent dest tag addr data crc => Sys2Proof.Machine.execRiathIdent dest tag addr data crc s
  | .riathReserved dest code tag addr data crc => Sys2Proof.Machine.execRiathReserved dest code tag addr data crc s
  | .riathFramingError dest => Sys2Proof.Machine.execRiathFramingError dest s
  | .riathFrameTimeout dest => Sys2Proof.Machine.execRiathFrameTimeout dest s
  | .riathResponse tile => Sys2Proof.Machine.execRiathResponse tile s
  | .riStatClr tile => Sys2Proof.Machine.execRiStatClr tile s
  | .bar2Access off wr bs len => Sys2Proof.Machine.execBar2Access off wr bs len s
  | .pcieHotReset => Sys2Proof.Machine.execPcieHotReset s
  | .pcieLinkUp speed width => Sys2Proof.Machine.execPcieLinkUp speed width s
  | .msixUnmask vec masked => Sys2Proof.Machine.execMsixUnmask vec masked s
  | .eventEnableWrite path val => Sys2Proof.Machine.execEventEnableWrite path val s
  | .timebaseCycle => Sys2Proof.Machine.execTimebaseCycle s
  | .pairLinkDown => Sys2Proof.Machine.execPairLinkDown s
  | .ethernetLinkChange m up rate => Sys2Proof.Machine.execEthernetLinkChange m up rate s
  | .canBusError c tec recv => Sys2Proof.Machine.execCanBusError c tec recv s
  | .pcieConfigWrite bme pm msixEn fnMask => Sys2Proof.Machine.execPcieConfigWrite bme pm msixEn fnMask s

end Sys2Proof.Machine
end

