-- ==== Sys2Proof/Safety.lean ====
section
/-! DEFINITION. What counts as a safe run, in the terms the statements use: no command stops the machine, and every step
keeps the device address space and the register file in their canonical form. -/

namespace Sys2Proof.Machine

/-- The canonical form of device memory: rising addresses, no cell equal to what an unlisted address reads as. -/
def Memory.wf (m : List Host.Cell) : Bool := SMap.wf 0#8 m

/-- The canonical form of the register file. -/
def Regs.wf (m : SMap Word) : Bool := SMap.wf 0#32 m

/-- Memory and register file are canonical. -/
def State.Inv (s : State) : Prop := Memory.wf s.mem = true ∧ Regs.wf s.regs = true

/-- An outcome is a next state that satisfies a predicate. -/
def Answers (o : Host.Outcome State Fault Refusal) (P : State → Prop) : Prop := ∃ t, o = .next t ∧ P t

/-- The host link of `t` is that of `s` after the event messages that `t`'s registers cause, and nothing else (R521). -/
def State.EventsFrom (s t : State) : Prop := t.host = ({ t with host := s.host } : State).afterEvents

/-- Every register outside the list is unchanged. -/
def State.RegsBut (s t : State) (changed : List Nat) : Prop := ∀ a, a ∉ changed → t.reg a = s.reg a

/-- The power controller of `t` is that of `u`, or what an activity makes of it: the return from HOLD starts, or is latched
while HOLD is being entered (R428, R435). -/
def State.PowerFrom (u t : State) : Prop := t.power = u.power ∨ t.power = u.activity.power

/-- The register that reports a replaced request, where an activity can replace one (R435). -/
def State.latchRegs (u : State) : List Nat := if u.power.state = .toHold then [Reg.PWR_STATUS] else []

/-- The next state is `u`, which names the parts that changed, but for an activity's effect on the power controller; of the
registers none but those listed changed. -/
def State.Keeps (s t u : State) (changed : List Nat) : Prop :=
  t = { u with power := t.power, regs := t.regs } ∧ (u.latchRegs = [] → t.regs = u.regs) ∧ u.PowerFrom t ∧
  s.RegsBut t (changed ++ u.latchRegs)

/-- The frame of a command: what `Keeps` says, and the host link saw event messages only. -/
def State.Frame (s t u : State) (changed : List Nat) : Prop := s.Keeps t u changed ∧ s.EventsFrom t

/-- The frame of a command that changes registers only. -/
def State.OnlyRegs (s t : State) (changed : List Nat) : Prop :=
  s.Frame t { s with regs := t.regs, host := t.host } changed

/-- No array holds a flipped word, no injection is armed and the die links carry traffic: reads and writes of memory meet no
error and are not held (R202, R211, R494). -/
def State.Quiet (s : State) : Prop := s.links.errors = [] ∧ s.bit Reg.TST_ECC 31 = false ∧ s.linksOpen = true

/-- Every range lies in mapped memory (R26). -/
def State.Mapped (s : State) (rs : List (Nat × Nat)) : Prop := ∀ r ∈ rs, s.rangeFault r.1 r.2 = none

/-- Memory holds these bytes from an address on. -/
def State.Holds (s : State) (a : Nat) (bs : List Byte) : Prop := ∀ i, i < bs.length → s.byte (a + i) = bs.getD i 0#8

/-- Every byte of memory outside the ranges is unchanged. -/
def State.BytesBut (s t : State) (rs : List (Nat × Nat)) : Prop :=
  ∀ a, (∀ r ∈ rs, a < r.1 ∨ r.1 + r.2 ≤ a) → t.byte a = s.byte a

/-- Two ranges of bytes do not meet. -/
def Apart (a b : Nat × List Byte) : Prop := a.1 + a.2.length ≤ b.1 ∨ b.1 + b.2.length ≤ a.1

/-- The registers of a statistics stream that an addition may change (R104, R143). -/
def statRegs (n : Nat) : List Nat :=
  [Reg.QNT_COUNT n, Reg.QNT_ERR_LO n, Reg.QNT_ERR_LO n + 1, Reg.QNT_CLIPS n, Reg.QNT_CONST n, Reg.QNT_NONFIN n, Reg.QNT_CFG n,
    Reg.QNT_ALARM]

/-- The registers of the record of an error of the counter stores (R264). -/
def synErrRegs : List Nat := [Reg.SYN_ERR_STATUS, Reg.SYN_ERR_SRC, Reg.SYN_ERR_INFO, Reg.SYN_ERR_CNT]

/-- The registers that an add to a counter may change: the error record, and the deadline monitors (R58, R239). -/
def addRegs : List Nat := synErrRegs ++ Reg.PWR_AVS_STATUS :: (List.range 8).map Reg.PWR_AVS_MON_CNT

/-- The main dies have lost power (R429, R440): they are in reset with the enables released, every main-die register holds
its Reset value, the tile's registers but those listed stay, and work in flight is gone; host memory stays. -/
def State.LosesMain (s t : State) (changed : List Nat) : Prop :=
  t.mainUp = false ∧ t.power.enables = false ∧ t.power.minOff = false ∧ t.sched = {} ∧ t.sync = {} ∧ t.ingest = {} ∧
  (∀ a, isTileReg a = true → a ∉ changed → t.reg a = s.reg a) ∧
  (∀ a, isTileReg a = false → a ≠ Reg.PWR_RST_CAUSE → t.reg a = resetValue a) ∧
  (∀ a, 0x8000000000000000 ≤ a → t.byte a = s.byte a)

/-- The registers of the wake record, and the kind of reset that an exit is (R440). -/
def wakeRegs : List Nat :=
  [Reg.PWR_WAKE_CAUSE, Reg.PWR_WAKE_TIME_LO, Reg.PWR_WAKE_TIME_HI, Reg.PWR_WAKE_INFO, Reg.PWR_RST_CAUSE]

/-- An exit to RUN has started for the wake source `code`, from the state that `old` codes (R438, R440, R441, R455). -/
def State.ExitStarts (s t : State) (code : Nat) (cmd : Bool) (old : Nat) : Prop :=
  t.power.state = .toRun ∧ t.power.enables = true ∧ t.power.pending = none ∧ t.power.resumed = false ∧
  t.fld Reg.PWR_WAKE_CAUSE 3 0 = code ∧ t.bit Reg.PWR_WAKE_CAUSE 4 = cmd ∧ t.fld Reg.PWR_WAKE_CAUSE 17 16 = old ∧
  t.fld Reg.PWR_WAKE_CAUSE 31 20 = (s.fld Reg.PWR_WAKE_CAUSE 31 20 + 1) % 4096 ∧
  t.reg64 Reg.PWR_WAKE_TIME_LO = s.rtc % 2 ^ 64 ∧ t.reg Reg.PWR_RST_CAUSE = (if s.power.bootExit then 1#32 else 3#32)

/-- What is written after a save or commit that ended in `l`: a commit that waits, else the header of a save_cfg that waits,
else nothing (R393, R418). -/
def Learn.Continues (l m : Learn) : Prop :=
  (∀ v, l.waiting = some v → m.save = some v ∧ m.waiting = none ∧ m.cfgReq = l.cfgReq) ∧
  (l.waiting = none → l.cfgReq = true →
    m.save = some { kind := .header, epoch := m.ec, begun := true } ∧ m.waiting = none ∧ m.cfgReq = false) ∧
  (l.waiting = none → l.cfgReq = false → m.save = none ∧ m.waiting = none ∧ m.cfgReq = false)

/-- A run is safe so far when `n` steps answer a next state whose memory and registers are canonical. -/
def State.SafeRun : Nat → State → Prop
  | 0, s => s.Inv
  | n + 1, s => s.Inv ∧ Answers (step s) (fun t => t.SafeRun n)

end Sys2Proof.Machine
end

