-- ==== Sys2Proof/Certificates/Slice0/Obligations.lean ====
section
/-! DEFINITION. The statements for the provers, one definition each; OBLIGATIONS.json lists them. -/

open Sys2Proof Sys2Proof.Machine

/-- A step takes the command at the front of the queue and is exec of it with the queue's rest. For every command c,
queue rest and state s: a step of s with c in front of rest is exec of c on s with the queue rest. The queue is the
model's form of "commands reach the block one after another". (Agents (model's queue, log entry 2)) -/
def Obligations.StepTakesFrontCommand : Prop :=
  ∀ (c : Instr) (rest : List Instr) (s : State), step { s with pending := c :: rest } = exec c { s with pending := rest }

/-- Every command answers a next state and leaves the queue of waiting commands as it finds it. For every command c
and state s, exec c s is a next state (the block never stops), and its queue of waiting commands is that of s. That
a command answers at all is the model's choice for a turned-away command (log entry 4). (R8, R9, (a command either
acts or is turned away)) -/
def Obligations.ExecKeepsQueueAndAnswers : Prop :=
  ∀ (c : Instr) (s : State), Answers (exec c s) fun t => t.pending = s.pending

/-- On an empty queue a step is one tick of the tile's crystal: the RTC counts while the tile is up, and transitions
that wait for nothing end. With no command waiting, a step answers a next state. With the tile out of reset its RTC
has gained one tick, carrying into the seconds after the last tick of a second, and the sampling clock has counted
one cycle unless the tile is stopped in DORMANT; with the tile in reset neither clock moves. In a state that is no
transition, with no recovery stopping queues and no sample waiting at the port of R558, nothing but the clocks has
changed, but for an activity. An entry to HOLD ends in HOLD, or goes on to what a pending request asks; a recovery
that stops queues begins its diagnostic; the port takes the oldest waiting sample. That these happen on an empty
queue is the model's choice (log entries 2 and 81). (R448, R424, R425, R499, R558, the choice of a tick on an empty
queue is log entry 2) -/
def Obligations.EmptyQueueTicksTheCrystal : Prop :=
  ∀ (s : State), s.pending = [] → Answers (step s) fun t =>
    (s.power.tileUp = true → t.power.up = s.power.up + b2n s.tileRuns ∧
      (if s.power.rtcTick + 1 < tickHz then t.power.rtcTick = s.power.rtcTick + 1 ∧ t.power.rtcSec = s.power.rtcSec
       else t.power.rtcTick = 0 ∧ t.power.rtcSec = (s.power.rtcSec + 1) % 2 ^ 40)) ∧
    (s.power.tileUp = false → t.power.up = s.power.up ∧ t.power.rtcTick = s.power.rtcTick ∧ t.power.rtcSec = s.power.rtcSec) ∧
    (s.power.state.stable = true → s.recState ≠ 1 → s.tap.pins = [] →
      s.Frame t { s with
        power := { s.power with up := t.power.up, rtcTick := t.power.rtcTick, rtcSec := t.power.rtcSec }
        regs := t.regs, host := t.host } []) ∧
    (s.power.tileUp = true → s.power.state = .toHold → s.power.pending = none →
      t.power.state = .hold ∨ t.power.state = .fromHold) ∧
    (s.power.tileUp = true → s.power.state = .fromHold → s.hAnswers = true → s.power.pending = none →
      t.power.state = .run ∧ t.links.selfRefresh = false) ∧
    (s.power.tileUp = true → s.power.state = .toHold → s.power.pending = none → t.power.state = .hold →
      t.links.selfRefresh = s.bit Reg.MEM_LPDDR_STATUS 0) ∧
    (s.power.tileUp = true → s.power.state = .dormantToDugout → s.power.pending = none → t.power.state = .dugout) ∧
    (s.mainUp = true → s.recState = 1 → s.power.state.stable = true → t.recState = 2) ∧
    (∀ p rest, s.tap.pins = p :: rest → s.power.state.stable = true → t.tap.pins = rest ∧
      (s.power.pgMain = true → p.trst = false → t.tap.state = .reset ∧ t.tap.ir = .idcode))

/-- After tile power-on the state is DUGOUT, the main dies are off and the registers hold their Reset values. The
reset state: the power controller is in DUGOUT with nothing pending and both enables released, the main dies are in
reset, no command waits, no memory byte is set, every context is idle, every implemented register but CTL_RI_ADDR
holds its Reset value (CTL_ID among them), and RTC and timebase are 0. The straps are taken open and memory as 0:
the model's choice (log entries 5 and 6). (R447, R536, R12, R448, R506, R526, the parts no rule gives are log
entries 5 and 6) -/
def Obligations.ResetStateOfTheDevice : Prop :=
  State.reset.power.state = .dugout ∧ State.reset.power.pending = none ∧ State.reset.power.enables = false ∧
  State.reset.mainUp = false ∧ State.reset.pending = [] ∧ (∀ a, State.reset.byte a = 0#8) ∧ (∀ k, State.reset.ctx k = {}) ∧
  (∀ a, a ≠ Reg.CTL_RI_ADDR → State.reset.reg a = resetValue a) ∧ State.reset.reg Reg.CTL_ID = 0x00B09160#32 ∧
  State.reset.rtcTicks = 0 ∧ State.reset.now = 0 ∧ State.reset.tap = {}

/-- Memory and register file are in canonical form at reset. At reset the list of memory bytes and the register file
are in their canonical form: addresses strictly rising, no entry equal to what an unlisted address reads as. (R25,
(the device address space), R6 (the register file)) -/
def Obligations.InvHoldsAtReset : Prop :=
  State.reset.Inv

/-- Every step keeps memory and register file in canonical form. From every state whose memory and register file are
canonical, whatever command is in front, a step answers a next state whose memory and register file are canonical.
Equal memories and equal register files are therefore equal data in every state a run reaches. (R25, (the device
address space), R6 (the register file)) -/
def Obligations.EveryStepKeepsInv : Prop :=
  ∀ (s : State), s.Inv → Answers (step s) fun t => t.Inv

/-- REGISTER_WRITE: RW bits take the value, W1C bits written 1 clear, the rest stay; a partial BAR0 write is
discarded. A full-word write, by either path, to an implemented register that has no action of its own and is no
word of a wide value: its RW bits take the value written, its W1C bits written 1 clear, reserved and read-only bits
stay, and no other register or part changes; the events whose flags the write cleared may announce themselves again.
(While HOLD is being entered the write is an activity as well, R428, which may set PWR_STATUS bits again.) Over BAR0
with byte enables not all set, nothing is written and CTL_ACC_ERR.part_wr sets. (R9, R10, R8, R15) -/
def Obligations.RegisterWriteActsUnderItsAccessCode : Prop :=
  (∀ (s : State) (p : Path) (addr : BitVec 16) (v : Word) (r : RegRow),
    s.answers p addr.toNat = true → s.regThere (p == .riath && isTileReg addr.toNat) p addr.toNat = true →
    s.regFrozen p addr.toNat = false → wideGroup addr.toNat = none →
    writeReg? addr.toNat (if isTileReg addr.toNat then tileWrites else mainWrites) = none → regRow? addr.toNat = some r →
    Answers (exec (.registerWrite p addr 0xF#4 v) s) fun t =>
      let w := BitVec.ofNat 32 r.rw
      (addr.toNat ∉ s.latchRegs →
        t.reg addr.toNat = ((s.reg addr.toNat &&& ~~~w) ||| (v &&& w)) &&& ~~~(v &&& BitVec.ofNat 32 r.w1c) ∧
        t.host = ({ t with host := (s.forget (s.clears addr.toNat v)).host } : State).afterEvents) ∧
      s.Keeps t { s with regs := t.regs, host := t.host } [addr.toNat]) ∧
  (∀ (s : State) (addr : BitVec 16) (be : BitVec 4) (v : Word),
    s.answers .bar0 addr.toNat = true → be ≠ 0xF#4 →
    Answers (exec (.registerWrite .bar0 addr be v) s) fun t =>
      t.bit Reg.CTL_ACC_ERR 1 = true ∧ s.OnlyRegs t [Reg.CTL_ACC_ERR])

/-- A write to an unimplemented address changes nothing but CTL_ACC_ERR, which keeps the first address and then sets
more. A BAR0 write of a full word to an address with no implemented register there is discarded: only CTL_ACC_ERR
changes. bad_addr sets. If bits [2:0] were 0 the register takes the write bit, the path (1 for BAR0) and the address
of this access; otherwise it keeps them and more sets. (R8, R527) -/
def Obligations.RefusedAccessIsRecordedOnce : Prop :=
  ∀ (s : State) (addr : BitVec 16) (v : Word),
    s.answers .bar0 addr.toNat = true → s.regThere false .bar0 addr.toNat = false →
    Answers (exec (.registerWrite .bar0 addr 0xF#4 v) s) fun t =>
      t.bit Reg.CTL_ACC_ERR 0 = true ∧ s.OnlyRegs t [Reg.CTL_ACC_ERR] ∧
      (s.fld Reg.CTL_ACC_ERR 2 0 = 0 →
        t.fld Reg.CTL_ACC_ERR 31 16 = addr.toNat ∧ t.bit Reg.CTL_ACC_ERR 4 = true ∧ t.fld Reg.CTL_ACC_ERR 6 5 = 1) ∧
      (s.fld Reg.CTL_ACC_ERR 2 0 ≠ 0 →
        t.bit Reg.CTL_ACC_ERR 3 = true ∧ t.fld Reg.CTL_ACC_ERR 31 16 = s.fld Reg.CTL_ACC_ERR 31 16)

/-- WIDE_VALUE_LOW_READ latches the higher words on its path; WIDE_VALUE_HIGH_WRITE commits the staged words with
it. Reading the lowest word of an n-word value on a path returns its value and latches the n - 1 higher words, as
they are in that instant, in that path's shadow and in no other. Writing the highest word of CTL_TDT_BASE on a path
commits both words: the high word takes the value written; the low word takes the word staged on that path since its
last commit, or else what the last commit left, or else the register's present value. The path's stage is then
empty, and no other register or path changes. (R14) -/
def Obligations.WideValuesLatchAndCommit : Prop :=
  (∀ (s : State) (p : Path) (addr : BitVec 16) (base n : Nat),
    s.answers p addr.toNat = true → s.regThere (p == .riath && isTileReg addr.toNat) p addr.toNat = true →
    wideOf addr.toNat = some (base, n, 0) →
    Answers (exec (.wideValueLowRead p addr) s) fun t =>
      t.host.reads = s.host.reads ++ [((s.reached p addr.toNat).seen p addr.toNat).toNat] ∧
      (t.side base p).latched = some ((List.range (n - 1)).map fun i => (s.reached p addr.toNat).seen p (base + 1 + i)) ∧
      (t.side base p).staged = (s.side base p).staged ∧
      (∀ b q, (b, q) ≠ (base, p) → t.side b q = s.side b q) ∧
      s.Keeps t { s with wide := t.wide, regs := t.regs, host := t.host } []) ∧
  (∀ (s : State) (p : Path) (v : Word),
    s.hAnswers = true →
    Answers (exec (.wideValueHighWrite p (BitVec.ofNat 16 (Reg.CTL_TDT_BASE_LO + 1)) v) s) fun t =>
      t.reg (Reg.CTL_TDT_BASE_LO + 1) = v ∧
      t.reg Reg.CTL_TDT_BASE_LO =
        (match (s.side Reg.CTL_TDT_BASE_LO p).staged.getD 0 none with
         | some w => w
         | none => match (s.side Reg.CTL_TDT_BASE_LO p).last with
           | some l => l.getD 0 0#32
           | none => s.reg Reg.CTL_TDT_BASE_LO) ∧
      (t.side Reg.CTL_TDT_BASE_LO p).staged = [] ∧
      (∀ b q, (b, q) ≠ (Reg.CTL_TDT_BASE_LO, p) → t.side b q = s.side b q) ∧
      s.Frame t { s with regs := t.regs, wide := t.wide, host := t.host } [Reg.CTL_TDT_BASE_LO, Reg.CTL_TDT_BASE_LO + 1])

/-- COMMIT_SDT, COMMIT_QDT, COMMIT_SOT, COMMIT_TDT: an accepted commit clears valid and loads from the staged
pointers; a rejected one records its lowest cause. A commit of a table that is not in use, is not loading, whose
staged base is 4 KiB aligned, whose extent is placed as R27 asks and whose count is in range: the table's snapshot
is the staged base and count, its load is in progress, its valid bit is 0; the other tables, the other status bits
and all else stay. A commit of a table in use (cause 1), or not in use but loading (cause 2), or else misaligned
(3), changes nothing but CTL_ROOT_STATUS: the table's rejection bit sets and rej_cause shows that cause. (R28, R29,
R30, R31, R32) -/
def Obligations.RootCommitsAcceptOrReject : Prop :=
  (∀ (s : State) (c : Instr) (r : Root),
    (c, r) ∈ [(Instr.commitSdt, Root.sdt), (.commitQdt, .qdt), (.commitSot, .sot), (.commitTdt, .tdt)] →
    s.hAnswers = true → s.rootInUse r = false → (s.root r).loading = false → (s.rootStaged r).1 % 4096 = 0 →
    rootPlaced r (s.rootStaged r).1 (s.rootStaged r).2 = true → (s.rootStaged r).2 ≤ rootMax r →
    Answers (exec c s) fun t =>
      t.root r = { base := (s.rootStaged r).1, count := (s.rootStaged r).2, loading := true, entries := [] } ∧
      (∀ q, q ≠ r → t.root q = s.root q) ∧ t.bit Reg.CTL_ROOT_STATUS (rootBit r) = false ∧
      (∀ n, n ≠ rootBit r → t.bit Reg.CTL_ROOT_STATUS n = s.bit Reg.CTL_ROOT_STATUS n) ∧
      s.Frame t { s with roots := t.roots, regs := t.regs, host := t.host } [Reg.CTL_ROOT_STATUS]) ∧
  (∀ (s : State) (c : Instr) (r : Root) (cause : Nat),
    (c, r) ∈ [(Instr.commitSdt, Root.sdt), (.commitQdt, .qdt), (.commitSot, .sot), (.commitTdt, .tdt)] →
    s.hAnswers = true →
    (cause = 1 ∧ s.rootInUse r = true ∨ cause = 2 ∧ s.rootInUse r = false ∧ (s.root r).loading = true ∨
      cause = 3 ∧ s.rootInUse r = false ∧ (s.root r).loading = false ∧ (s.rootStaged r).1 % 4096 ≠ 0) →
    Answers (exec c s) fun t =>
      t.bit Reg.CTL_ROOT_STATUS (4 + rootBit r) = true ∧ t.fld Reg.CTL_ROOT_STATUS 11 8 = cause ∧
      s.OnlyRegs t [Reg.CTL_ROOT_STATUS])

/-- TABLE_LOAD_COMPLETE: the entries read are held and the valid bit sets. A load in progress that meets no flipped
bit ends: for the SDT and the QDT the device holds the 64-byte entries that stand in memory at that time, for the
TDT it reads none; the load is no longer in progress, the valid bit is 1, base and count stay, and nothing else
changes. (R33, R35) -/
def Obligations.TableLoadEndsValid : Prop :=
  ∀ (s : State) (r : Root), r ≠ .sot → s.mainUp = true → (s.root r).loading = true → s.links.errors = [] →
    Answers (exec (.tableLoadComplete r []) s) fun t =>
      t.root r = { s.root r with
        loading := false, entries := if r = .tdt then (s.root r).entries else s.tableEntries (s.root r) } ∧
      (∀ q, q ≠ r → t.root q = s.root q) ∧ t.bit Reg.CTL_ROOT_STATUS (rootBit r) = true ∧
      (∀ n, n ≠ rootBit r → t.bit Reg.CTL_ROOT_STATUS n = s.bit Reg.CTL_ROOT_STATUS n) ∧
      s.Frame t { s with roots := t.roots, regs := t.regs, host := t.host } [Reg.CTL_ROOT_STATUS]

/-- POWER_ON_RESET, WARM_RESET, SUPERVISOR_RESET: main-die registers take their Reset values, tile registers stay, a
warm reset keeps RWS fields. A power-on reset of the main dies, a supervisor reset while they are supplied, and a
warm reset in RUN, HOLD or a transition between them complete, whatever the rest of the state: the main dies are in
reset with PWR_RST_CAUSE.kind 1, 1 and 2. A warm reset during an exit to RUN keeps the kind of that exit. Contexts,
counters, tables and streams are as after reset, host memory stays, and the tile's measurement, learning and power
parts stay (a warm reset shows PERST# low). With the register file canonical, which every step keeps: every tile
register stays, every other main-die register takes its Reset value, but after a warm reset a register kept over a
warm reset (RWS) holds its value. A supervisor reset of unsupplied dies changes nothing, a warm reset in any other
state only PERST#. (R12, R48, R460, R518, that contents of main-die memory are lost is log entry 6) -/
def Obligations.MainDieResetsByKind : Prop :=
  (∀ (s : State) (c : Instr) (kind : Nat),
    (c = .powerOnReset ∧ kind = 1 ∨ c = .supervisorReset ∧ kind = 1 ∧ s.power.pgMain = true ∨
      c = .warmReset ∧ kind = 2 ∧ s.runOrHold = true ∨
      c = .warmReset ∧ kind = s.fld Reg.PWR_RST_CAUSE 1 0 ∧ s.power.state = .toRun) →
    ∃ t, exec c s = .next t ∧
      t.mainUp = false ∧ (∀ a, 0x8000000000000000 ≤ a → t.byte a = s.byte a) ∧
      t.sched = {} ∧ t.sync = {} ∧ t.roots = {} ∧ t.ingest = {} ∧ t.engines = {} ∧ t.links = {} ∧ t.time = {} ∧
      t.meas = s.meas ∧ t.learn = s.learn ∧ t.subCopy = s.subCopy ∧ t.pending = s.pending ∧
      t.power = (if c = .warmReset then { s.power with perst := false } else s.power) ∧
      (Regs.wf s.regs = true →
        t.reg Reg.PWR_RST_CAUSE = BitVec.ofNat 32 kind ∧
        (∀ a, isTileReg a = true → t.reg a = s.reg a) ∧
        (∀ a, isTileReg a = false → a ≠ Reg.PWR_RST_CAUSE → (kind ≠ 2 ∨ isRws a = false) → t.reg a = resetValue a) ∧
        (kind = 2 → ∀ a, isTileReg a = false → isRws a = true → s.reg a ≠ 0#32 → t.reg a = s.reg a))) ∧
  (∀ (s : State), s.power.pgMain = false → exec .supervisorReset s = .next s.settle) ∧
  (∀ (s : State), s.runOrHold = false → s.power.state ≠ .toRun →
    exec .warmReset s = .next ({ s with power := { s.power with perst := false } } : State).settle)

/-- PERST_RELEASE and H_DIE_RESET_RELEASE: the reset line is released; then every crossing awaits its marker. PERST#
high releases the reset line while PG_MAIN is high and changes nothing else. The H-die's reset is released when
nothing holds it, with the main supply good and the enables on: the dies leave reset, every crossing of R51 awaits
its marker with its pointers held at 0, no block is held, the output balls are driven, the timebase counts, PLL 6 is
enabled and locked and PLL 2 enabled; where no reset but warm ones was taken since the last release no other
register changes, otherwise also the substitution registers that the tile's copy names. (R52, R443, R186, R543) -/
def Obligations.ReleaseOfHDieReset : Prop :=
  (∀ (s : State), Answers (exec .perstRelease s) fun t =>
      t.power.perst = true ∧ t.align = { s.align with line := s.align.line && !s.power.pgMain } ∧
      s.Frame t { s with
        power := { s.power with perst := true }, align := t.align, regs := t.regs, host := t.host } []) ∧
  (∀ (s : State), s.align.inReset = true → s.align.line = false → s.power.pgMain = true → s.power.enables = true →
    Answers (exec .hDieResetRelease s) fun t =>
      t.align = { inReset := false, line := false, waiting := crossings, held := [], fifos := [], restore := false } ∧
      t.time.counting = true ∧ t.power.hiZ = false ∧
      t.bit Reg.CLK_PLL_CTRL 6 = true ∧ t.bit Reg.CLK_PLL_STATUS 6 = true ∧ t.bit Reg.CLK_PLL_CTRL 2 = true ∧
      s.Frame t { s with
          align := t.align, time := { s.time with counting := true }, safety := t.safety
          power := { s.power with hiZ := false }, regs := t.regs, host := t.host }
        ([Reg.CLK_PLL_CTRL, Reg.CLK_PLL_STATUS] ++ (if s.align.restore = false then [] else s.subCopy.maps.map (·.1))))

/-- ALIGN_MARKER_RETURN, ALIGN_MARKER_TIMEOUT, ALIGNMENT_COMPLETE: a returned marker is no longer awaited, a lost
one holds its block, the end shows in done and ok. A marker that is awaited and returns is no longer awaited, and
both sides of its crossing set their pointers and credit to the start values: write pointer 0, read pointer 0,
credit for all 8 entries; the tile link's (domain 24) sets tile_ok, no other crossing and no other register changes.
One that times out holds its domain's block: its bit of CLK_ALIGN_FAIL sets and failed shows the number of held
domains modulo 32. When none is awaited and done is 0, in RUN, done sets, ok is 1 exactly when no block is held, and
only CLK_ALIGN_STATUS and the status of die links 0 to 2 change; in HOLD or a transition from or to it the package
is in RUN then. (R52, R54, R56) -/
def Obligations.AlignmentMarkers : Prop :=
  (∀ (s : State) (d : Fin 25) (side : Bool), s.align.waiting.contains (d.val, side) = true →
    Answers (exec (.alignMarkerReturn d side) s) fun t =>
      t.align.waiting.contains (d.val, side) = false ∧ t.align.held = s.align.held ∧
      t.crossing d side = { toDomain := ⟨0, 0, 8⟩, toFabric := ⟨0, 0, 8⟩ } ∧
      (∀ e x, (e, x) ∈ crossings → (e, x) ≠ (d.val, side) → t.crossing e x = s.crossing e x) ∧
      (d.val = 24 → t.bit Reg.CLK_ALIGN_STATUS 2 = true) ∧
      s.Frame t { s with align := t.align, regs := t.regs, host := t.host } (if d.val = 24 then [Reg.CLK_ALIGN_STATUS] else [])) ∧
  (∀ (s : State) (d : Fin 25) (side : Bool), s.align.waiting.contains (d.val, side) = true →
    Answers (exec (.alignMarkerTimeout d side) s) fun t =>
      t.align.waiting.contains (d.val, side) = false ∧ t.domHeld d.val = true ∧
      (∀ e, e ≠ d.val → t.domHeld e = s.domHeld e) ∧ t.bit Reg.CLK_ALIGN_FAIL d.val = true ∧
      t.fld Reg.CLK_ALIGN_STATUS 7 3 = t.align.held.length % 32 ∧
      s.Frame t { s with align := t.align, regs := t.regs, host := t.host } [Reg.CLK_ALIGN_FAIL, Reg.CLK_ALIGN_STATUS]) ∧
  (∀ (s : State), s.mainUp = true → s.bit Reg.CLK_ALIGN_STATUS 0 = false → s.align.waiting = [] → s.power.state = .run →
    Answers (exec .alignmentComplete s) fun t =>
      t.bit Reg.CLK_ALIGN_STATUS 0 = true ∧ t.bit Reg.CLK_ALIGN_STATUS 1 = s.align.held.isEmpty ∧
      s.OnlyRegs t [Reg.CLK_ALIGN_STATUS, Reg.LNK_STATUS 0, Reg.LNK_STATUS 1, Reg.LNK_STATUS 2]) ∧
  (∀ (s : State), s.mainUp = true → s.bit Reg.CLK_ALIGN_STATUS 0 = false → s.align.waiting = [] → s.runOrHold = true →
    s.power.state ≠ .run → s.power.pending = none →
    Answers (exec .alignmentComplete s) fun t => t.bit Reg.CLK_ALIGN_STATUS 0 = true ∧ t.power.state = .run)

/-- RATE_MEASURE, AVS_UPDATE, AVSBUS_TRANSACTION_DONE, MONITOR_ENABLE: the slowest ring, steps of at most 10 mV,
retries and the enable of a monitor. With 16 ring rates below 2,048 Mtok/s, PWR_AVS_RATE.rate_mtok is the lowest of
them and one microsecond more has been measured. An update moves the target by at most 10 mV and changes only the
loop's state, PWR_AVS_STATUS and PWR_AVS_HEADROOM. An acknowledged AVSBus write shows its target and ends; a fourth
failure ends the loop: reg_err sets, loop_en clears and no further write goes out. A monitor enabled with a deadline
starts with no open case and its count register has en set, no other register changing. (R57, R59, R64, R66) -/
def Obligations.AdaptiveVoltageLoop : Prop :=
  (∀ (s : State) (rates : List Nat), s.mainUp = true → rates.length = 16 → (∀ r ∈ rates, r < 2048) →
    Answers (exec (.rateMeasure rates) s) fun t =>
      t.fld Reg.PWR_AVS_RATE 10 0 ∈ rates ∧ (∀ r ∈ rates, t.fld Reg.PWR_AVS_RATE 10 0 ≤ r) ∧ t.avs.us = s.avs.us + 1 ∧
      t.avs.target = s.avs.target ∧
      s.Frame t { s with avs := t.avs, regs := t.regs, host := t.host } [Reg.PWR_AVS_RATE]) ∧
  (∀ (s : State) (hottest : Int), s.mainUp = true → s.domHeld 18 = false →
    Answers (exec (.avsUpdate hottest) s) fun t =>
      t.avs.target ≤ s.avs.target + 10 ∧ s.avs.target ≤ t.avs.target + 10 ∧
      s.Frame t { s with avs := t.avs, freeCtr := t.freeCtr, regs := t.regs, host := t.host }
        [Reg.PWR_AVS_STATUS, Reg.PWR_AVS_HEADROOM]) ∧
  (∀ (s : State) (hottest : Int), s.domHeld 18 = true → exec (.avsUpdate hottest) s = .next s.settle) ∧
  (∀ (s : State) (v n : Nat), s.mainUp = true → s.domHeld 18 = false → s.avs.bus = some (v, n) → v < 1024 →
    Answers (exec (.avsbusTransactionDone true) s) fun t =>
      t.avs = { s.avs with bus := none } ∧ t.fld Reg.PWR_AVS_STATUS 25 16 = v ∧
      s.Frame t { s with avs := t.avs, regs := t.regs, host := t.host } [Reg.PWR_AVS_STATUS]) ∧
  (∀ (s : State) (v : Nat), s.mainUp = true → s.domHeld 18 = false → s.avs.bus = some (v, 3) →
    Answers (exec (.avsbusTransactionDone false) s) fun t =>
      t.avs = { s.avs with bus := none, blocked := true } ∧ t.bit Reg.PWR_AVS_STATUS 4 = true ∧ t.bit Reg.PWR_AVS_CTRL 0 = false ∧
      s.Frame t { s with avs := t.avs, regs := t.regs, host := t.host } [Reg.PWR_AVS_STATUS, Reg.PWR_AVS_CTRL]) ∧
  (∀ (s : State) (m : Fin 8) (v : Word), s.hAnswers = true → s.fld (Reg.PWR_AVS_MON_DL m) 19 0 ≠ 0 →
    Answers (exec (.monitorEnable m v) s) fun t =>
      t.monitor m = {} ∧ t.bit (Reg.PWR_AVS_MON_CNT m) 31 = true ∧
      s.Frame t { s with avs := t.avs, regs := t.regs, host := t.host } [Reg.PWR_AVS_MON_CNT m])

/-- WEIGHT_LOAD, ENGINE_ROW_START, TABLE_BUILD, ENGINE_ROW_END: what an engine takes, adds and hands on. With memory
in order (no flipped word, no injection armed, the links open), every range read mapped, the engine running and the
operator ready: a load puts the slice's weights and the codebook into the free half, whose buffer and FIFO are
empty. A row start lets the next rows of the resident operators into the activation buffer, each with the codes that
memory holds, and gives the engine the next row present, with the zero point and scale of its entry and its start
accumulators; an entry that is faulty stops the operator's queue with every context FAULTED. A table build forms the
table of the next codes, adds one term to every lane, in W8A8 one of the four passes of a term, which together make
its product, and counts a busy token. A row end with an empty latch and no check pending moves the accumulators to
the latch and the row and its entry out of the buffer; the half goes on to the next row, or is free after the last.
Nothing else changes. (R115, R117, R118, R119, R120, R122, R126, R127, R137, R170) -/
def Obligations.EngineWorksARow : Prop :=
  (∀ (s : State) (e : Fin 1024) (half : Bool) (o : Op) (er t : Nat), s.engRuns e = true → s.Quiet →
    s.loadOp? e half = some o → o.rel? e = some er → o.tile? (o.passNow er) er = some t → eHalf o.bits ≠ 2 →
    ((s.eng e).half half).owner = none → o.passOpen (o.passNow er) = true →
    s.Mapped ((List.range (o.sliceOf (er % o.split)).2).map fun i =>
      (dBase o.in1 + t * dStride2 o.in1 + ((o.sliceOf (er % o.split)).1 + i) * dStride1 o.in1, dRowBytes o.in1)) →
    Answers (exec (.weightLoad e half) s) fun u =>
      u.eng e = (s.eng e).setHalf half
        { owner := some (o.queue, o.entry), pass := o.passNow er, codebook := o.codebook
          rows := s.weightRows o t (o.sliceOf (er % o.split)).1 (o.sliceOf (er % o.split)).2 } ∧
      (∀ f, f ≠ e.val → u.eng f = s.eng f) ∧ (∀ i, o.slot? (e.val / 16) = some i → (u.sbAt (e.val / 16) i).state = 3) ∧
      u.sched.ops = s.sched.ops ∧
      s.Frame u { s with engines := u.engines, sched := u.sched, links := u.links, regs := u.regs, host := u.host }
        [Reg.MEM_WLD_ONCHIP_LO, Reg.MEM_WLD_ONCHIP_HI, Reg.MEM_WLD_SPILL_LO, Reg.MEM_WLD_SPILL_HI]) ∧
  (∀ (s v : State) (e : Fin 1024) (h : Bool) (o : Op) (er t : Nat), s.engRuns e = true → s.Quiet → (s.eng e).run = none →
    (∀ h' q i o' er' r', ((s.eng e).half h').owner = some (q, i) → s.op? q i = some o' → o'.rel? e = some er' → r' < o'.rows →
      s.Mapped ((dScaleAddr o'.in0 r', 8) :: o'.actRanges r' (o'.sliceOf (er' % o'.split)).1 (o'.sliceOf (er' % o'.split)).2)) →
    v = s.filled e → v.nextRow? e = some (h, o) → o.rel? e = some er → o.tile? ((v.eng e).half h).pass er = some t →
    s.Mapped (if o.hasAcc && o.split == 1 then [(dRowAddr o.acc ((v.eng e).half h).nextRow + 1024 * t, 8 * o.lanes t)] else []) →
    Answers (exec (.engineRowStart e) s) fun u =>
      let w := (v.eng e).half h
      (entryFault o.in0 w.entry w.nextRow = 0 →
        u.eng e = { v.eng e with
          run := some { half := h, row := w.nextRow, zp := entZp w.entry, scale := entScale w.entry, k := 0 }
          accs := if o.split = 1 then s.startAccs o t w.nextRow else (List.range (o.lanes t)).map fun _ => (0, false) } ∧
        (∀ h' b, b ∈ ((u.eng e).half h').buf → b ∉ ((s.eng e).half h').buf → ∃ q i o' er',
          ((s.eng e).half h').owner = some (q, i) ∧ s.op? q i = some o' ∧ o'.rel? e = some er' ∧
          b.codes = s.actCodes o' b.row (o'.sliceOf (er' % o'.split)).1 (o'.sliceOf (er' % o'.split)).2
            (entZp (b.entry.getD (((u.eng e).half h').cast.getD 0))) ∧
          (dSsrc o'.in0 ≠ 2 → ((s.eng e).half h').cast = none → b.entry = some (s.actEntry o' b.row))) ∧
        (∀ f, f ≠ e.val → u.eng f = s.eng f) ∧
        s.Frame u { s with engines := u.engines, links := u.links, host := u.host } []) ∧
      (entryFault o.in0 w.entry w.nextRow ≠ 0 → s.bound o.queue = true →
        u.bit Reg.ENG_FAULT_STATUS 0 = true ∧ ∀ k ∈ qCtxs (s.qdt o.queue), (u.ctx k).mode = .faulted)) ∧
  (∀ (s : State) (e : Fin 1024) (r : RowRun) (o : Op), s.engRuns e = true → s.Quiet → s.runOp? e = some (r, o) →
    r.k < ((s.eng e).codes r).length →
    Answers (exec (.tableBuild e) s) fun u =>
      let x := s.eng e
      let w := x.half r.half
      let qs := ((x.codes r).drop r.k).take (chansOf o.mode)
      let ws := (w.rows.drop r.k).take (chansOf o.mode)
      let prod := w8Pass r.pass r.zp (qs.getD 0 0) (ws.getD 0 []) x.prod x.accs.length
      (o.mode ≠ 2 → u.eng e = { x with
        table := termTable o.mode w.codebook r.zp qs, accs := addTerm o.mode w.codebook r.zp qs ws x.accs
        run := some { r with k := r.k + qs.length } }) ∧
      (o.mode = 2 → r.pass < 3 → u.eng e = { x with
        table := w8Table r.pass r.zp (qs.getD 0 0), prod := prod, run := some { r with pass := r.pass + 1 } }) ∧
      (o.mode = 2 → 3 ≤ r.pass → u.eng e = { x with
        table := w8Table r.pass r.zp (qs.getD 0 0), prod := prod, accs := x.accs.mapIdx fun l a => satAcc a (prod.getD l 0)
        run := some { r with k := r.k + 1, pass := 0 } }) ∧
      (∀ f, f ≠ e.val → u.eng f = s.eng f) ∧ u.reg64 Reg.ENG_BUSY_LO = (s.reg64 Reg.ENG_BUSY_LO + 1) % 2 ^ 64 ∧
      s.Frame u { s with engines := u.engines, regs := u.regs, host := u.host } [Reg.ENG_BUSY_LO, Reg.ENG_BUSY_HI]) ∧
  (∀ w q z : Nat, w < 256 → q < 256 →
    ((List.range 4).map fun pass => (w8Table pass z q).getD (w8Index pass w) 0).sum = w8Product w q z) ∧
  (∀ (s : State) (e : Fin 1024) (r : RowRun) (o : Op) (er : Nat), s.engRuns e = true → (s.eng e).latch = none →
    s.runOp? e = some (r, o) → o.rel? e = some er → ((s.eng e).codes r).length ≤ r.k →
    s.checkOf? e r o ((s.eng e).half r.half).pass = none →
    Answers (exec (.engineRowEnd e) s) fun u =>
      let w := (s.eng e).half r.half
      (u.eng e).latch = some { owner := (o.queue, o.entry), pass := w.pass, row := r.row, scale := r.scale, accs := (s.eng e).accs } ∧
      (u.eng e).run = none ∧ (u.eng e).accs = [] ∧
      (r.row + 1 < o.rows → (u.eng e).half r.half = { w with nextRow := r.row + 1, buf := w.buf.drop 1 } ∧ u.sched = s.sched) ∧
      (o.rows ≤ r.row + 1 → (u.eng e).half r.half = {} ∧
        u.op? o.queue o.entry = some { o with passes := o.passes.put 0 er (w.pass + 1) }) ∧
      (∀ f, f ≠ e.val → u.eng f = s.eng f) ∧
      s.Frame u { s with engines := u.engines, sched := u.sched, host := u.host } [])

/-- DRAIN_CONVERT, REDUCTION_COMBINE, ROW_ENCODE: where a finished row goes and which bytes it writes. With memory
in order: the drain of a split tile's row hands its accumulators to the reduction unit as a partial, and the
engine's core has finished once every row has left it. The drain of an unsplit tile's row into a floating-point
output writes the once-rounded values of its lanes at the row's address, every other byte staying (where the
operator's output overlaps an input, R271, the bytes written are not specified; likewise for the others). A
combination adds the next partial in ascending relative engine order and keeps it while more are to come; the last
one writes the row as a drain does. ROW_ENCODE of a dynamic row writes the packed codes and the 8-byte entry of R98
at their addresses, no other byte, counts the elements when the operator has a statistics stream, adds the row's
hash when it is digested, and goes on to the core's next row. (R128, R129, R131, R98, R93, R561, R104, R171, R271,
R468) -/
def Obligations.FinishedRowsReachMemory : Prop :=
  (∀ (s : State) (e : Fin 1024) (l : Latched) (o : Op) (p : OpPart) (er t : Nat), s.engRuns e = true → (s.eng e).latch = some l →
    s.op? l.owner.1 l.owner.2 = some o → o.part? (e.val / 16) = some p → o.rel? e = some er → o.tile? l.pass er = some t →
    o.split ≠ 1 → s.routeOpen (coreNode (e.val / 16)) (coreNode (o.writer t)) = true →
    Answers (exec (.drainConvert e) s) fun u =>
      u.eng e = { s.eng e with latch := none } ∧ (∀ f, f ≠ e.val → u.eng f = s.eng f) ∧
      u.engines.partials = s.engines.partials ++
        [{ owner := l.owner, tile := t, row := l.row, rel := er % o.split, eng := e.val, scale := l.scale, accs := l.accs }] ∧
      u.engines.combines = s.engines.combines ∧
      u.op? o.queue o.entry = some (o.setPart { p with finished := decide (u.rowsOn o (e.val / 16) = o.rows) }) ∧
      s.Frame u { s with engines := u.engines, sched := u.sched, host := u.host } []) ∧
  (∀ (s : State) (e : Fin 1024) (l : Latched) (o : Op) (er t a : Nat), s.engRuns e = true → s.Quiet → (s.eng e).latch = some l →
    s.op? l.owner.1 l.owner.2 = some o → o.rel? e = some er → o.tile? l.pass er = some t → o.split = 1 → isFloat o.out = true →
    a = dRowAddr o.out l.row + runBytes (dFmt o.out) (128 * t) → s.Mapped [(a, runBytes (dFmt o.out) l.accs.length)] →
    Answers (exec (.drainConvert e) s) fun u =>
      (o.overlaps = false → u.freeCtr = s.freeCtr ∧
        u.Holds a (l.accs.flatMap fun c => toBytes (dFp o.out).bytes ((dFp o.out).rnf (accVal c l.scale)))) ∧
      s.BytesBut u [(a, runBytes (dFmt o.out) l.accs.length)] ∧ u.eng e = { s.eng e with latch := none } ∧
      s.Frame u { s with mem := u.mem, engines := u.engines, sched := u.sched, links := u.links, freeCtr := u.freeCtr, regs := u.regs
                         host := u.host }
        [Reg.ENG_SAT_CNT, Reg.ENG_SAT_FIRST, Reg.ENG_SAT_OP]) ∧
  (∀ (s : State) (core : Fin 64) (p : Partial) (o : Op) (base : Combine) (a : Nat), s.mainUp = true → s.Quiet →
    s.nextPartial? core = some (p, o) →
    base = (s.combOf p).getD
      { owner := p.owner, tile := p.tile, row := p.row, next := 0, scale := p.scale, lanes := s.combStart o p.tile p.row } →
    a = dRowAddr o.out p.row + runBytes (dFmt o.out) (128 * p.tile) →
    Answers (exec (.reductionCombine core) s) fun u =>
      let lanes := combAdd p.eng base.lanes p.accs
      let rest := s.engines.combines.filter fun x => !(x.owner == p.owner && x.tile == p.tile && x.row == p.row)
      (base.next + 1 ≠ o.split →
        s.Mapped (if (s.combOf p).isNone && o.hasAcc then [(dRowAddr o.acc p.row + 1024 * p.tile, 8 * o.lanes p.tile)] else []) →
        u.engines.partials = s.engines.partials.filter (· != p) ∧
        u.engines.combines = rest ++ [{ base with next := base.next + 1, lanes := lanes }] ∧
        u.engines.eng = s.engines.eng ∧ u.sched.ops = s.sched.ops ∧
        s.Frame u { s with engines := u.engines, sched := u.sched, host := u.host } []) ∧
      (base.next + 1 = o.split → isFloat o.out = true → s.Mapped [(a, runBytes (dFmt o.out) lanes.length)] →
        u.engines.partials = s.engines.partials.filter (· != p) ∧ u.engines.combines = rest ∧ u.engines.eng = s.engines.eng ∧
        (o.overlaps = false →
          u.Holds a (lanes.flatMap fun c => toBytes (dFp o.out).bytes ((dFp o.out).rnf (accVal c.acc base.scale)))) ∧
        s.BytesBut u [(a, runBytes (dFmt o.out) lanes.length)] ∧
        s.Frame u { s with mem := u.mem, engines := u.engines, sched := u.sched, links := u.links, freeCtr := u.freeCtr
                           regs := u.regs, host := u.host }
          [Reg.ENG_SAT_CNT, Reg.ENG_SAT_FIRST, Reg.ENG_SAT_OP])) ∧
  (∀ (s : State) (core : Fin 64) (o : Op) (p : OpPart) (r : Nat) (e : Encoded), s.mainUp = true → s.Quiet →
    s.unitTurn? core .rr = some (o, p) → s.op? o.queue o.entry = some o → o.code = cENCODE_ROW → r = o.nextRow p → dSsrc o.out = 0 →
    e = encodeVals ((s.rowFloats o.in0 r).map (encInput (dFp o.in0))) none (qmaxOf (dFmt o.out)) (s.fexp o.bits) →
    (packCodes (dFmt o.out) e.codes).length = dRowBytes o.out →
    Apart (dRowAddr o.out r, packCodes (dFmt o.out) e.codes) (dScaleAddr o.out r, toBytes 8 (e.entry r)) →
    s.Mapped [(dRowAddr o.in0 r, dRowBytes o.in0), (dRowAddr o.out r, dRowBytes o.out), (dScaleAddr o.out r, 8)] →
    Answers (exec (.rowEncode core) s) fun u =>
      (o.overlaps = false → u.freeCtr = s.freeCtr ∧ u.Holds (dRowAddr o.out r) (packCodes (dFmt o.out) e.codes) ∧
        u.Holds (dScaleAddr o.out r) (toBytes 8 (e.entry r))) ∧
      s.BytesBut u [(dRowAddr o.out r, dRowBytes o.out), (dScaleAddr o.out r, 8)] ∧
      (eStats o.bits = true → u.reg (Reg.QNT_COUNT (eStream o.bits)) =
        BitVec.ofNat 32 (satAdd 0xFFFFFFFF (s.reg (Reg.QNT_COUNT (eStream o.bits))).toNat e.codes.length)) ∧
      (u.op? o.queue o.entry).map Op.parts = some (o.setPart
        { p with block := 0, rows := p.rows + 1, finished := decide (dRows o.out ≤ r + o.cores) }).parts ∧
      (o.overlaps = false → (u.op? o.queue o.entry).map Op.digest = some (if o.digested
        then (o.digest + rowHash r (packCodes (dFmt o.out) e.codes)) % 2 ^ 64 else o.digest)) ∧
      s.Frame u { s with mem := u.mem, sched := u.sched, links := u.links, freeCtr := u.freeCtr, regs := u.regs, host := u.host }
        (if eStats o.bits then statRegs (eStream o.bits) else []))

/-- QNT_SNAP, QNT_CLEAR, QNT_EXP_CHANGE, ENG_CLR_SAT, ENG_CLR_BUSY: copies and zeros, and nothing else. While the
H-die answers: snap copies the stream's quantities, flags and exponent to the snapshot registers with valid set;
clear zeroes the quantities and flags and keeps the exponent; a write that changes f_exp does the same and takes the
new exponent, one that keeps f_exp changes nothing; the two engine clears zero their counters. No other register and
no other part of the device changes. (R141, R145, R146, R152) -/
def Obligations.StatisticsCommands : Prop :=
  (∀ (s : State) (n : Fin 32), s.hAnswers = true →
    Answers (exec (.qntSnap n) s) fun u =>
      u.fld Reg.QNT_SNAP_STATUS 4 0 = n.val ∧ u.bit Reg.QNT_SNAP_STATUS 8 = true ∧
      u.fld Reg.QNT_SNAP_STATUS 13 9 = s.fld (Reg.QNT_CFG n) 12 8 ∧ u.fld Reg.QNT_SNAP_STATUS 21 16 = s.fld (Reg.QNT_CFG n) 5 0 ∧
      u.reg Reg.QNT_SNAP_COUNT = s.reg (Reg.QNT_COUNT n) ∧ u.reg64 Reg.QNT_SNAP_ERR_LO = s.reg64 (Reg.QNT_ERR_LO n) ∧
      u.reg Reg.QNT_SNAP_CLIPS = s.reg (Reg.QNT_CLIPS n) ∧ u.reg Reg.QNT_SNAP_CONST = s.reg (Reg.QNT_CONST n) ∧
      u.reg Reg.QNT_SNAP_NONFIN = s.reg (Reg.QNT_NONFIN n) ∧
      s.OnlyRegs u [Reg.QNT_SNAP_STATUS, Reg.QNT_SNAP_COUNT, Reg.QNT_SNAP_ERR_LO, Reg.QNT_SNAP_ERR_HI, Reg.QNT_SNAP_CLIPS,
        Reg.QNT_SNAP_CONST, Reg.QNT_SNAP_NONFIN]) ∧
  (∀ (s : State) (n : Fin 32) (c : Instr) (f : Nat), s.hAnswers = true →
    (c = .qntClear n ∧ f = s.fld (Reg.QNT_CFG n) 5 0 ∨
      ∃ val, c = .qntExpChange n val ∧ f = wfld val 5 0 ∧ f ≠ s.fld (Reg.QNT_CFG n) 5 0) →
    Answers (exec c s) fun u =>
      u.reg (Reg.QNT_COUNT n) = 0#32 ∧ u.reg64 (Reg.QNT_ERR_LO n) = 0 ∧ u.reg (Reg.QNT_CLIPS n) = 0#32 ∧
      u.reg (Reg.QNT_CONST n) = 0#32 ∧ u.reg (Reg.QNT_NONFIN n) = 0#32 ∧ u.fld (Reg.QNT_CFG n) 12 8 = 0 ∧
      u.fld (Reg.QNT_CFG n) 5 0 = f ∧
      s.OnlyRegs u [Reg.QNT_COUNT n, Reg.QNT_ERR_LO n, Reg.QNT_ERR_HI n, Reg.QNT_CLIPS n, Reg.QNT_CONST n, Reg.QNT_NONFIN n,
        Reg.QNT_CFG n]) ∧
  (∀ (s : State) (n : Fin 32) (val : Word), wfld val 5 0 = s.fld (Reg.QNT_CFG n) 5 0 →
    Answers (exec (.qntExpChange n val) s) fun u => s.OnlyRegs u []) ∧
  (∀ (s : State), s.hAnswers = true → Answers (exec .engClrSat s) fun u =>
    u.reg Reg.ENG_SAT_CNT = 0#32 ∧ s.OnlyRegs u [Reg.ENG_SAT_CNT]) ∧
  (∀ (s : State), s.hAnswers = true → Answers (exec .engClrBusy s) fun u =>
    u.reg64 Reg.ENG_BUSY_LO = 0 ∧ s.OnlyRegs u [Reg.ENG_BUSY_LO, Reg.ENG_BUSY_HI])

/-- Every operator: an entry that passes the checks is admitted, forwarded and left; its predecessors hold it back.
For each of the 36 operator commands: the lead of context k, ISSUING, holding an entry of that code that passes
every check, with a scoreboard entry free, no digest hold, its own core in the operator's group, a predecessor still
in flight and no slot counter, admits it. The operator joins the operators in flight with its descriptors, its part
on this core in the lowest free entry and its other parts on their way; the scoreboard entry is valid, and blocked
unless the operator gives this core nothing to do; the lead is READY with the next entry, when it has fetched that
ahead, or to fetch it. Nothing else changes but the scheduler and the checks of Single. (R159, R160, R162, R163,
R167, R277, R283, R289) -/
def Obligations.OperatorAdmission : Prop :=
  ∀ (s : State) (k : Fin 256) (c : Instr) (code : Nat) (x : Opds) (core : Nat) (o : Op),
    (c, code) ∈ [(Instr.linear k, cLINEAR), (.conv2d k, cCONV2D), (.encodeRow k, cENCODE_ROW), (.encodeWeight k, cENCODE_WEIGHT),
      (.add k, cADD), (.sub k, cSUB), (.mul k, cMUL), (.fma k, cFMA), (.min k, cMIN), (.max k, cMAX), (.abs k, cABS), (.neg k, cNEG),
      (.cmp k, cCMP), (.select k, cSELECT), (.relu k, cRELU), (.clamp k, cCLAMP), (.convert k, cCONVERT), (.exp k, cEXP),
      (.recip k, cRECIP), (.sqrt k, cSQRT), (.rsqrt k, cRSQRT), (.sigmoid k, cSIGMOID), (.tanh k, cTANH), (.gelu k, cGELU),
      (.silu k, cSILU), (.rescale k, cRESCALE), (.rowMax k, cROW_MAX), (.rowMin k, cROW_MIN), (.rowSum k, cROW_SUM),
      (.rowSumsq k, cROW_SUMSQ), (.softmax k, cSOFTMAX), (.layernorm k, cLAYERNORM), (.rmsnorm k, cRMSNORM), (.reduce k, cREDUCE),
      (.copy k, cCOPY), (.poolMax k, cPOOL_MAX)] →
    s.leadIssuing k = true → eOp (s.ctx k).entry = code →
    s.verdict (s.ctx k).entry (qGroup (s.qdt (s.ctx k).queue)) (s.ctx k).hist = .ok x →
    core = k.val / 4 → core ∈ groupCores (eGroup (s.ctx k).entry) → s.sbRoom k = true →
    (s.digQueue (s.ctx k).queue && s.digHold) = false → qSlot (s.qdt (s.ctx k).queue) = 0xFFFF →
    o = s.newOp k x → s.op? o.queue o.entry = none → s.unblocked o = false →
    Answers (exec c s) fun u =>
      u.sched.ops = s.sched.ops ++ [o.setPart { core := core, phase := .admitted (s.sbFree core), finished := o.emptyOn core }] ∧
      (u.sbAt core (s.sbFree core)).valid = true ∧ (u.sbAt core (s.sbFree core)).state = (if o.emptyOn core then 4 else 1) ∧
      (u.sbAt core (s.sbFree core)).ctx = k.val % 4 ∧
      (u.sbAt core (s.sbFree core)).queue = o.queue ∧ (u.sbAt core (s.sbFree core)).entry = o.entry ∧
      (∀ n i, 64 * n + i ≠ 64 * core + s.sbFree core → u.sbAt n i = s.sbAt n i) ∧
      u.ctx k = { s.ctx k with
        mode := .ready, phase := if (s.ctx k).ahead = [] then .needFetch else .holding
        entry := (s.ctx k).ahead.headD 0, ahead := (s.ctx k).ahead.drop 1, pos := (s.ctx k).pos + 1
        hist := (true :: (s.ctx k).hist).take 255, wait := none, registered := false } ∧
      (∀ j, j ≠ k.val → u.ctx j = s.ctx j) ∧
      s.Frame u { s with sched := u.sched, safety := u.safety, regs := u.regs, host := u.host } [Reg.SAF_CHK_CNT]

/-- Every vector operator, ENCODE_WEIGHT, REDUCE and COPY: unblocked, its unit takes its next row, block or burst,
and writes that and no other byte. For each of these 33 operators of context k: where a shared unit of a core is to
serve it next, with memory in order and every range that the step reads or writes mapped, the step completes. It
works on the part's present row, which is a row of this core (row n mod C's), and on a whole row, 64 elements or 4
KiB of it. Memory outside the bytes of the step is unchanged; where they do not overlap an input, they hold what the
operator's rule gives for the operands as they stood; an output that overlaps an input is not specified (R271). The
part goes on to its next block, or to its core's next row, and has finished after the last; a row hash is added when
the operator is digested. Nothing else changes but the scheduler's state, for ENCODE_WEIGHT with a statistics stream
that stream, and for REDUCE to a floating-point format the saturation record. (R88, R131, R163, R171, R173, R175,
R176, R177, R271, R468, R561, R563) -/
def Obligations.OperatorsWriteTheirResults : Prop :=
  ∀ (s : State) (k : Fin 256) (c : Instr) (code : Nat) (o : Op) (p : OpPart) (n : Nat) (ws : List (Nat × List Byte)),
    (c, code) ∈ [(Instr.encodeWeight k, cENCODE_WEIGHT),
      (.add k, cADD), (.sub k, cSUB), (.mul k, cMUL), (.fma k, cFMA), (.min k, cMIN), (.max k, cMAX), (.abs k, cABS), (.neg k, cNEG),
      (.cmp k, cCMP), (.select k, cSELECT), (.relu k, cRELU), (.clamp k, cCLAMP), (.convert k, cCONVERT), (.exp k, cEXP),
      (.recip k, cRECIP), (.sqrt k, cSQRT), (.rsqrt k, cRSQRT), (.sigmoid k, cSIGMOID), (.tanh k, cTANH), (.gelu k, cGELU),
      (.silu k, cSILU), (.rescale k, cRESCALE), (.rowMax k, cROW_MAX), (.rowMin k, cROW_MIN), (.rowSum k, cROW_SUM),
      (.rowSumsq k, cROW_SUMSQ), (.softmax k, cSOFTMAX), (.layernorm k, cLAYERNORM), (.rmsnorm k, cRMSNORM), (.reduce k, cREDUCE),
      (.copy k, cCOPY), (.poolMax k, cPOOL_MAX)] →
    s.mainUp = true → s.Quiet → (s.leadIssuing k && eOp (s.ctx k).entry == code) = false → s.dueOp? k code = some (o, p) →
    s.op? o.queue o.entry = some o → n = o.nextRow p → ws = s.blockWrites o n p.block →
    s.Mapped (o.blockReads n p.block) → s.Mapped (ws.map fun w => (w.1, w.2.length)) →
    Answers (exec c s) fun u =>
      s.BytesBut u (ws.map fun w => (w.1, w.2.length)) ∧
      (o.overlaps = false → ws.Pairwise Apart → ∀ w ∈ ws, u.Holds w.1 w.2) ∧
      (o.overlaps = false → u.freeCtr = s.freeCtr) ∧
      (∃ q : OpPart, (u.op? o.queue o.entry).map Op.parts = some (o.setPart q).parts ∧
        (p.block + 1 < o.blocks → q = { p with block := p.block + 1 }) ∧
        (o.blocks ≤ p.block + 1 →
          q = { p with block := 0, rows := p.rows + 1, finished := decide (dRows o.out ≤ n + o.cores) })) ∧
      (o.overlaps = false → (u.op? o.queue o.entry).map (fun x => (x.digest, x.pieces)) =
        some ((o.hash n p.block o.blocks (ws.headD (0, [])).2).digest, (o.hash n p.block o.blocks (ws.headD (0, [])).2).pieces)) ∧
      s.Frame u { s with mem := u.mem, sched := u.sched, links := u.links, freeCtr := u.freeCtr, regs := u.regs, host := u.host }
        ((if code = cENCODE_WEIGHT ∧ eStats o.bits = true then statRegs (eStream o.bits) else [])
          ++ (if code = cREDUCE ∧ dFmt o.out ≠ fRAW40 then [Reg.ENG_SAT_CNT, Reg.ENG_SAT_FIRST, Reg.ENG_SAT_OP] else []))

/-- LINEAR, CONV2D, ENCODE_ROW: an unblocked operator is issued to its units; a codebook that does not increase, or
a faulty broadcast output entry, faults it. The oldest LINEAR or CONV2D of context k that waited and may now be
issued, the ranges of its codebook (W4 weights) and of its broadcast output entry (a code output with a broadcast
scale) mapped, memory in order: where the codebook is strictly increasing and the entry sound, it captures the 16
levels and runs. Where one is not, and no fault stands recorded, the record shows cause 1 (codebook) or else 2
(entry) and the lowest engine, with more set where several engines meet it; every context of its queue enters
FAULTED. An ENCODE_ROW is given to the row-range units of its cores. (R82, R83, R94, R128, R137, R138, R561) -/
def Obligations.OperatorsIssuedToTheEngines : Prop :=
  (∀ (s : State) (k : Fin 256) (c : Instr) (code : Nat) (o : Op) (w4 cast bad1 bad2 : Bool) (cb : List Int),
    (c, code) ∈ [(Instr.linear k, cLINEAR), (.conv2d k, cCONV2D)] → s.mainUp = true → s.Quiet →
    (s.leadIssuing k && eOp (s.ctx k).entry == code) = false → s.waitingOp? k code = some o →
    w4 = decide (dFmt o.in1 = fW4) → cast = (isCodes o.out && dSsrc o.out == 2) →
    s.Mapped ((if w4 then [(dAux0 o.in1, 32)] else []) ++ (if cast then [(dAux0 o.out, 8)] else [])) →
    cb = (if w4 then codebookOf (s.readNat (dAux0 o.in1) 32) else []) →
    bad1 = (w4 && !increasing cb) → bad2 = (cast && entFaulty (s.readNat (dAux0 o.out) 8) (qmaxOf (dFmt o.out))) →
    Answers (exec c s) fun u =>
      (bad1 = false → bad2 = false → u.op? o.queue o.entry = some { o with codebook := cb, executed := true } ∧
        s.Frame u { s with sched := u.sched, host := u.host } []) ∧
      ((bad1 || bad2) = true → s.bound o.queue = true →
        (∀ j ∈ qCtxs (s.qdt o.queue), (u.ctx j).mode = .faulted) ∧ u.opsOf o.queue = [] ∧ u.bit Reg.ENG_FAULT_STATUS 0 = true ∧
        (s.bit Reg.ENG_FAULT_STATUS 0 = false →
          u.fld Reg.ENG_FAULT_STATUS 7 4 = (if bad1 then 1 else 2) ∧ u.fld Reg.ENG_FAULT_STATUS 17 8 = o.first % 1024 ∧
          (1 < o.split ∨ 1 < min o.flight o.tiles → u.bit Reg.ENG_FAULT_STATUS 1 = true)))) ∧
  (∀ (s : State) (k : Fin 256) (o : Op), s.mainUp = true →
    (s.leadIssuing k && eOp (s.ctx k).entry == cENCODE_ROW) = false → s.waitingOp? k cENCODE_ROW = some o →
    Answers (exec (.encodeRow k) s) fun u =>
      u.op? o.queue o.entry = some { o with executed := true } ∧ s.Frame u { s with sched := u.sched, host := u.host } [])

/-- Q_START, Q_HALT, Q_RESUME, Q_RELEASE, Q_CMD_RESERVED: the contexts of the queue, or a refusal with the lowest
cause. A queue command with no cause against it changes the contexts of the queue's group and no others: Start makes
the lead READY at the start entry and every follower FOLLOWING; Halt marks every context halting, and with no
operator in flight and the lead not ISSUING all are HALTED; Resume makes the lead READY and the followers FOLLOWING,
positions kept; Release returns every context to IDLE. A command with causes against it, and a reserved code,
changes only SCH_Q_STATUS: refused, the lowest cause (8 for a reserved code), the queue. (R155, R156, R157, R188) -/
def Obligations.QueueCommands : Prop :=
  (∀ (s : State) (q : BitVec 8), s.hAnswers = true → s.qCauses q.toNat 1 = [] →
    Answers (exec (.qStart q) s) fun u =>
      u.ctx (qLead (s.qdt q.toNat)) = { mode := .ready, lead := true, queue := q.toNat, pos := qStart (s.qdt q.toNat) } ∧
      (∀ k ∈ qCtxs (s.qdt q.toNat), k ≠ qLead (s.qdt q.toNat) → u.ctx k = { mode := .following, queue := q.toNat }) ∧
      (∀ k, k ∉ qCtxs (s.qdt q.toNat) → u.ctx k = s.ctx k) ∧
      s.Frame u { s with sched := { s.sched with ctxs := u.sched.ctxs }, host := u.host } []) ∧
  (∀ (s : State) (q : BitVec 8), s.hAnswers = true → s.qCauses q.toNat 2 = [] →
    Answers (exec (.qHalt q) s) fun u =>
      (s.opsOf q.toNat = [] → (s.ctx (qLead (s.qdt q.toNat))).mode ≠ .issuing →
        ∀ k ∈ qCtxs (s.qdt q.toNat), (u.ctx k).mode = .halted ∧ (u.ctx k).haltPend = false) ∧
      (s.opsOf q.toNat ≠ [] → ∀ k ∈ qCtxs (s.qdt q.toNat), (u.ctx k).haltPend = true) ∧
      (∀ k, k ∉ qCtxs (s.qdt q.toNat) → u.ctx k = s.ctx k) ∧
      s.Frame u { s with sched := { s.sched with ctxs := u.sched.ctxs }, sync := u.sync, host := u.host } []) ∧
  (∀ (s : State) (q : BitVec 8), s.hAnswers = true → s.qCauses q.toNat 3 = [] →
    Answers (exec (.qResume q) s) fun u =>
      (∀ k ∈ qCtxs (s.qdt q.toNat), u.ctx k = { s.ctx k with mode := if (s.ctx k).lead then .ready else .following }) ∧
      (∀ k, k ∉ qCtxs (s.qdt q.toNat) → u.ctx k = s.ctx k) ∧
      s.Frame u { s with sched := { s.sched with ctxs := u.sched.ctxs }, host := u.host } []) ∧
  (∀ (s : State) (q : BitVec 8), s.hAnswers = true → s.qCauses q.toNat 4 = [] →
    Answers (exec (.qRelease q) s) fun u =>
      (∀ k ∈ qCtxs (s.qdt q.toNat), u.ctx k = {}) ∧ (∀ k, k ∉ qCtxs (s.qdt q.toNat) → u.ctx k = s.ctx k) ∧
      s.Frame u { s with sched := { s.sched with ctxs := u.sched.ctxs }, regs := u.regs, host := u.host }
        [Reg.SYN_END_STATUS, Reg.SYN_END_FIRST]) ∧
  (∀ (s : State) (q : BitVec 8) (c : Instr) (cmd cause : Nat) (rest : List Nat), s.hAnswers = true →
    ((c, cmd) ∈ [(Instr.qStart q, 1), (.qHalt q, 2), (.qResume q, 3), (.qRelease q, 4)] ∧ s.qCauses q.toNat cmd = cause :: rest ∨
      (∃ code : BitVec 3, c = .qCmdReserved q code ∧ ¬(1 ≤ code.toNat ∧ code.toNat ≤ 4)) ∧ cause = 8) →
    Answers (exec c s) fun u =>
      u.bit Reg.SCH_Q_STATUS 0 = true ∧ u.fld Reg.SCH_Q_STATUS 7 4 = cause ∧ u.fld Reg.SCH_Q_STATUS 15 8 = q.toNat ∧
      s.OnlyRegs u [Reg.SCH_Q_STATUS])

/-- ISSUE_GRANT, ENTRY_FETCH, FORWARDED_OPERATOR: who issues next, which entry the lead holds, when a follower is
READY. On a core with no context ISSUING the grant goes to a READY context with an operator to admit, no other such
context of the core having a higher priority; a granted lead is ISSUING and stands last in the round-robin order. A
lead's fetch of a submitted entry leaves it holding the 64 bytes of the ring at its position; before the entry is
submitted the lead waits for the submit counter to reach position + 1. A lead that holds its entry fetches the next
submitted ones ahead, up to 8. The oldest part on its way to a follower, once its route is open, arrives and makes
the follower READY. No other context changes. (R165, R167, R170, R279, R154) -/
def Obligations.GrantFetchAndForward : Prop :=
  (∀ (s : State) (core : Fin 64) (k : Nat), s.mainUp = true → (∀ c < 4, (s.ctx (4 * core.val + c)).mode ≠ .issuing) →
    s.grantee? core = some k → (s.ctx k).lead = true →
    Answers (exec (.issueGrant core) s) fun u =>
      k / 4 = core.val ∧ s.wantsIssue k = true ∧ (∀ c < 4, s.wantsIssue (4 * core.val + c) = true → s.prio (4 * core.val + c) ≤ s.prio k) ∧
      u.ctx k = { s.ctx k with mode := .issuing } ∧ (∀ j, j ≠ k → u.ctx j = s.ctx j) ∧
      u.sched.rr.look 0 core = (k + 1) % 4 ∧ s.Frame u { s with sched := u.sched, host := u.host } []) ∧
  (∀ (s : State) (k : Fin 256) (q a : Nat), s.leadFree k .needFetch = true → s.Quiet → q = s.qdt (s.ctx k).queue →
    ((s.ctx k).checked = true ∨ qdtOk q = true) → a = ringAddr q (s.ctx k).pos → s.Mapped [(a, 64)] →
    Answers (exec (.entryFetch k) s) fun u =>
      ((s.ctx k).pos + 1 ≤ (s.ctr (qSubmit q)).v →
        u.ctx k = { s.ctx k with checked := true, phase := .holding, entry := s.readNat a 64 }) ∧
      ((s.ctr (qSubmit q)).v < (s.ctx k).pos + 1 →
        u.ctx k = { s.ctx k with
          checked := true, mode := .waiting, wait := some (qSubmit q, (s.ctx k).pos + 1), registered := false }) ∧
      (∀ j, j ≠ k.val → u.ctx j = s.ctx j) ∧
      s.Frame u { s with sched := { s.sched with ctxs := u.sched.ctxs }, host := u.host } []) ∧
  (∀ (s : State) (k : Fin 256) (q i : Nat), s.leadGoes k = true → (s.ctx k).phase ≠ .needFetch → s.Quiet →
    q = s.qdt (s.ctx k).queue → i = (s.ctx k).pos + 1 + (s.ctx k).ahead.length → s.Mapped [(ringAddr q i, 64)] →
    Answers (exec (.entryFetch k) s) fun u =>
      ((s.ctx k).ahead.length < 8 → i < (s.ctr (qSubmit q)).v →
        u.ctx k = { s.ctx k with ahead := (s.ctx k).ahead ++ [s.readNat (ringAddr q i) 64] }) ∧
      (8 ≤ (s.ctx k).ahead.length ∨ (s.ctr (qSubmit q)).v ≤ i → u.ctx k = s.ctx k) ∧
      (∀ j, j ≠ k.val → u.ctx j = s.ctx j) ∧
      s.Frame u { s with sched := { s.sched with ctxs := u.sched.ctxs }, host := u.host } []) ∧
  (∀ (s : State) (k : Fin 256) (o : Op) (p : OpPart), s.mainUp = true → (s.ctx k).lead = false →
    ((s.ctx k).mode = .following ∨ (s.ctx k).mode = .ready) → s.sentOp? k = some o → o.part? (k.val / 4) = some p →
    s.routeOpen (coreNode (o.lead / 4)) (coreNode (k.val / 4)) = true →
    Answers (exec (.forwardedOperator k) s) fun u =>
      u.op? o.queue o.entry = some (o.setPart { p with phase := .arrived }) ∧ u.ctx k = { s.ctx k with mode := .ready } ∧
      (∀ j, j ≠ k.val → u.ctx j = s.ctx j) ∧ s.Frame u { s with sched := u.sched, host := u.host } [])

/-- WAIT_ENTRY, SIGNAL_ENTRY, HUDDLE_ARRIVAL_ENTRY: what a lead does with an entry that is no operator. A lead with
no slot counter whose wait entry names a counter it may use goes on at once when the counter holds at least the
expected value, and else waits for it. A signal entry whose earlier operators have all retired and which nothing
gates adds its amount to its counter, which saturates at the largest value and names the context's unit, frees the
waiters whose value is reached, and goes on to the next entry. An arrival entry under the same conditions puts one
tagged arrival on its way to the cluster's node, and the lead waits for it to be applied; then, unless it waits for
a round that is not yet reached, it goes on. The next entry is the one fetched ahead, where there is one. Other
contexts change only where a waiter is freed; memory never changes. (R164, R166, R239, R249, R280, R283) -/
def Obligations.WaitSignalAndArrivalEntries : Prop :=
  (∀ (s : State) (k : Fin 256) (e : Nat), s.leadHolds k 2 = true → s.frozen = false → e = (s.ctx k).entry → waitBad e = false →
    ctrLocal (wCtr e) k = true → qSlot (s.qdt (s.ctx k).queue) = 0xFFFF → s.ctrOpen (coreNode (k.val / 4)) (wCtr e) = true →
    Answers (exec (.waitEntry k) s) fun u =>
      (wExp e ≤ (s.ctr (wCtr e)).v → u.ctx k = { s.ctx k with
        mode := .ready, phase := if (s.ctx k).ahead = [] then .needFetch else .holding
        entry := (s.ctx k).ahead.headD 0, ahead := (s.ctx k).ahead.drop 1, pos := (s.ctx k).pos + 1
        hist := (false :: (s.ctx k).hist).take 255, wait := none, registered := false }) ∧
      ((s.ctr (wCtr e)).v < wExp e →
        u.ctx k = { s.ctx k with mode := .waiting, wait := some (wCtr e, wExp e), registered := false }) ∧
      (∀ j, j ≠ k.val → u.ctx j = s.ctx j) ∧
      s.Frame u { s with sched := { s.sched with ctxs := u.sched.ctxs }, host := u.host } []) ∧
  (∀ (s : State) (k : Fin 256) (e v : Nat), s.leadHolds k 3 = true → s.frozen = false → e = (s.ctx k).entry →
    signalBad e = false → s.signalOpen k = true → ctrLocal (wCtr e) k = true → (s.sotValid = true ∨ 0x1000 ≤ wCtr e) →
    qSlot (s.qdt (s.ctx k).queue) = 0xFFFF → s.ctrOpen (coreNode (k.val / 4)) (wCtr e) = true →
    v = min ctrMax ((s.ctr (wCtr e)).v + sAmt e) →
    Answers (exec (.signalEntry k) s) fun u =>
      (u.ctr (wCtr e)).v = v ∧ (u.ctr (wCtr e)).lastUnit = 0x1000 + k.val ∧ (u.ctr (wCtr e)).lastTime = s.now ∧
      (u.ctr (wCtr e)).waiters = (s.ctr (wCtr e)).waiters.filter (fun w => !decide (w.e ≤ v)) ∧
      (∀ c, c ≠ wCtr e → u.ctr c = s.ctr c) ∧
      u.ctx k = { s.ctx k with
        mode := .ready, phase := if (s.ctx k).ahead = [] then .needFetch else .holding
        entry := (s.ctx k).ahead.headD 0, ahead := (s.ctx k).ahead.drop 1, pos := (s.ctx k).pos + 1
        hist := (false :: (s.ctx k).hist).take 255, wait := none, registered := false } ∧
      (∀ j, j ≠ k.val → (∀ w ∈ (s.ctr (wCtr e)).waiters, w.e ≤ v → w.ctx ≠ j) → u.ctx j = s.ctx j) ∧
      s.Frame u { s with sched := { s.sched with ctxs := u.sched.ctxs }, sync := u.sync, avs := u.avs, regs := u.regs, host := u.host }
        addRegs) ∧
  (∀ (s : State) (k : Fin 256) (e : Nat), s.leadHolds k 4 = true → e = (s.ctx k).entry → arrivalBad e = false →
    s.signalOpen k = true →
    Answers (exec (.huddleArrivalEntry k) s) fun u =>
      u.sync = { s.sync with arrivals := s.sync.arrivals ++
        [{ root := aRoot e, node := k.val / 16, child := k.val, tag := aTag e, weight := 1, unit := 0x1000 + k.val, ctx := some k.val }] } ∧
      u.ctx k = { s.ctx k with phase := .arrived } ∧ (∀ j, j ≠ k.val → u.ctx j = s.ctx j) ∧
      s.Frame u { s with sched := { s.sched with ctxs := u.sched.ctxs }, sync := u.sync, host := u.host } []) ∧
  (∀ (s : State) (k : Fin 256) (e : Nat), s.leadFree k .arrived = true → s.arrivalOut k = false → e = (s.ctx k).entry →
    qSlot (s.qdt (s.ctx k).queue) = 0xFFFF → s.ctrOpen (coreNode (k.val / 4)) (aRoot e) = true → ctrLocal (aRoot e) k = true →
    s.frozen = false →
    Answers (exec (.huddleArrivalEntry k) s) fun u =>
      (aWait e = false ∨ (s.huddle (aRoot e)).n * aTag e ≤ (s.ctr (aRoot e)).v → u.ctx k = { s.ctx k with
        mode := .ready, phase := if (s.ctx k).ahead = [] then .needFetch else .holding
        entry := (s.ctx k).ahead.headD 0, ahead := (s.ctx k).ahead.drop 1, pos := (s.ctx k).pos + 1
        hist := (decide (eKind e = 1) :: (s.ctx k).hist).take 255, wait := none, registered := false }) ∧
      (aWait e = true → (s.ctr (aRoot e)).v < (s.huddle (aRoot e)).n * aTag e → u.ctx k = { s.ctx k with
        mode := .waiting, wait := some (aRoot e, (s.huddle (aRoot e)).n * aTag e), registered := false }) ∧
      (∀ j, j ≠ k.val → u.ctx j = s.ctx j) ∧
      s.Frame u { s with sched := { s.sched with ctxs := u.sched.ctxs }, host := u.host } [])

/-- RESERVED_ENTRY_KIND, OP_UNIMPLEMENTED: contract errors 0x02 and 0x03 stop the queue with every context FAULTED.
A lead that holds an entry of a kind other than 1 to 4 (0x02), or an operator entry naming a code that the device
does not implement (0x03), ends its queue: every context of the queue is FAULTED, no operator or scoreboard entry of
it remains, no other queue's operators change. Where no operator fault stood recorded, SCH_FAULT_STATUS shows it
valid with cause 3, SCH_FAULT_DETAIL the code with no slot, SCH_FAULT_OP the queue. With no operator in flight
memory is unchanged. No register outside the record changes. (R184, R190, R273, R283, R289, R292) -/
def Obligations.ContractErrorsStopTheQueue : Prop :=
  ∀ (s : State) (k : Fin 256) (c : Instr) (code q : Nat), q = (s.ctx k).queue → q < 256 → s.bound q = true →
    (c = .reservedEntryKind k ∧ code = 2 ∧ s.leadFree k .holding = true ∧ ¬(1 ≤ eKind (s.ctx k).entry ∧ eKind (s.ctx k).entry ≤ 4) ∨
      c = .opUnimplemented k ∧ code = 3 ∧ (s.leadIssuing k = true ∨ s.leadHolds k 1 = true) ∧ eOp (s.ctx k).entry ∉ opCodes) →
    Answers (exec c s) fun u =>
      (∀ j ∈ qCtxs (s.qdt q), (u.ctx j).mode = .faulted ∧ (u.ctx j).haltPend = false) ∧
      (∀ j, j ∉ qCtxs (s.qdt q) → u.ctx j = s.ctx j) ∧
      u.sched.ops = s.sched.ops.filter (fun o => o.queue != q) ∧ u.sched.sb = s.sched.sb.filter (fun e => e.2.queue != q) ∧
      u.bit Reg.SCH_FAULT_STATUS 0 = true ∧
      (s.bit Reg.SCH_FAULT_STATUS 0 = false → u.fld Reg.SCH_FAULT_STATUS 7 4 = 3 ∧ u.reg Reg.SCH_FAULT_DETAIL = BitVec.ofNat 32 code ∧
        u.fld Reg.SCH_FAULT_OP 7 0 = q) ∧
      (s.bit Reg.SCH_FAULT_STATUS 0 = true → u.bit Reg.SCH_FAULT_STATUS 1 = true ∧ u.reg Reg.SCH_FAULT_DETAIL = s.reg Reg.SCH_FAULT_DETAIL) ∧
      (s.opsOf q = [] → u.mem = s.mem) ∧
      s.Frame u { s with mem := u.mem, sched := u.sched, engines := u.engines, sync := u.sync, safety := u.safety
                         freeCtr := u.freeCtr, regs := u.regs, host := u.host }
        [Reg.SCH_FAULT_STATUS, Reg.SCH_FAULT_OP, Reg.SCH_FAULT_DETAIL, Reg.SCH_FAULT_RESUME]

/-- OPERATOR_RETIRE, RETIREMENT_REPORT: a finished part frees its entry; the last one retires the operator. A part
that has finished and holds an entry of its core retires: the entry is free at once. On a follower a report is put
on its way; on the lead's core, where every other part is reported, the operator is no longer in flight, and if it
is digested its record, with the sum of the hashes of its rows, joins the records that form. The report of a
follower's retirement, the oldest from that core to the lead's core and its route open, does the same once it is the
last. No register and no memory changes. (R162, R163, R470, R471) -/
def Obligations.Retirement : Prop :=
  (∀ (s : State) (core idx : Fin 64) (o : Op) (p : OpPart), s.mainUp = true → (s.sbAt core idx).valid = true →
    s.op? (s.sbAt core idx).queue (s.sbAt core idx).entry = some o → o.part? core = some p → p.finished = true →
    p.phase = .admitted idx → core.val ≠ o.lead / 4 →
    Answers (exec (.operatorRetire core idx) s) fun u =>
      u.sbAt core idx = {} ∧ u.op? o.queue o.entry = some (o.setPart { p with phase := .retired }) ∧ u.sched.ctxs = s.sched.ctxs ∧
      u.sched.reports = s.sched.reports ++ [(core.val, o.queue, o.entry)] ∧
      s.Frame u { s with sched := u.sched, host := u.host } []) ∧
  (∀ (s : State) (core idx : Fin 64) (o : Op) (p : OpPart), s.mainUp = true → (s.sbAt core idx).valid = true →
    s.op? (s.sbAt core idx).queue (s.sbAt core idx).entry = some o → o.part? core = some p → p.finished = true →
    p.phase = .admitted idx → core.val = o.lead / 4 → (∀ x ∈ o.parts, x.core = core.val ∨ x.phase = .reported) →
    Answers (exec (.operatorRetire core idx) s) fun u =>
      u.sbAt core idx = {} ∧ u.op? o.queue o.entry = none ∧
      u.safety = (if o.digested then { s.safety with forming := s.safety.forming ++ [
        { d := o.digest % 2 ^ 64, index := o.entry % 2 ^ 48, id := o.queue, kind := 0, sat := o.satSeen
          rows := dRows o.out % 2 ^ 24 }] } else s.safety) ∧
      s.Frame u { s with sched := u.sched, safety := u.safety, host := u.host } []) ∧
  (∀ (s : State) (core : Fin 64) (q : BitVec 8) (entry : Nat) (o : Op) (p : OpPart), s.mainUp = true →
    s.reportNext (core.val, q.toNat, entry) = true →
    s.routeOpen (coreNode core) (coreNode (s.reportTo (core.val, q.toNat, entry))) = true →
    s.op? q.toNat entry = some o → o.part? core = some p →
    Answers (exec (.retirementReport core q entry) s) fun u =>
      u.sched.reports = s.sched.reports.erase (core.val, q.toNat, entry) ∧
      ((∀ x ∈ o.parts, x.core = core.val ∨ x.phase = .reported) → u.op? q.toNat entry = none ∧
        u.safety = (if o.digested then { s.safety with forming := s.safety.forming ++ [o.record] } else s.safety)) ∧
      ((∃ x ∈ o.parts, x.core ≠ core.val ∧ x.phase ≠ .reported) →
        u.op? q.toNat entry = some (o.setPart { p with phase := .reported }) ∧ u.safety = s.safety) ∧
      s.Frame u { s with sched := u.sched, safety := u.safety, host := u.host } [])

/-- WATCHDOG_SCAN, SB_CAPTURE, CTX_CFG_WRITE: time without progress, the captured entry, the configuration of an
idle context. With the watchdog disabled a scan only brings each entry's time without progress up to date (20 us
more where state and rows stand as last seen). When one queue's entry has stood for the limit, that queue's contexts
are FAULTED and source 0x06 is presented with the queue. A write to SCH_SB_SEL shows the selected entry in
SCH_SB_DATA0 to 3 and changes no other register. A write to SCH_CTX_CFGk of an IDLE context takes its implemented
bits; of another context it is discarded and sets CTL_ACC_ERR.bad_addr. (R183, R184, R192, R193, R160) -/
def Obligations.WatchdogAndSchedulerRegisters : Prop :=
  (∀ (s : State), s.mainUp = true → s.wdogLimit = 0 →
    Answers (exec .watchdogScan s) fun u =>
      (∀ core idx, (∀ e ∈ s.sched.sb, e.1 = 64 * core + idx → e.2 = s.sbAt core idx) → u.sbAt core idx = (s.sbAt core idx).scan) ∧
      s.Frame u { s with sched := { s.sched with sb := u.sched.sb }, host := u.host } []) ∧
  (∀ (s : State) (q entry : Nat), s.mainUp = true → s.bound q = true →
    ({ s with sched := { s.sched with sb := s.sched.sb.rewrite {} fun _ e => e.scan } } : State).wdogHits = [(q, entry)] →
    Answers (exec .watchdogScan s) fun u =>
      (∀ k ∈ qCtxs (s.qdt q), (u.ctx k).mode = .faulted) ∧ u.bit Reg.SCH_FAULT_STATUS 0 = true ∧
      (s.bit Reg.SCH_FAULT_STATUS 0 = false → u.fld Reg.SCH_FAULT_STATUS 7 4 = 2) ∧
      u.safety.inbox = s.safety.inbox ++ [{ src := 6, queue := some q }] ∧
      s.Frame u { s with mem := u.mem, sched := u.sched, engines := u.engines, sync := u.sync, safety := u.safety
                         freeCtr := u.freeCtr, regs := u.regs, host := u.host }
        [Reg.SCH_FAULT_STATUS, Reg.SCH_FAULT_OP, Reg.SCH_FAULT_DETAIL, Reg.SCH_FAULT_RESUME]) ∧
  (∀ (s : State) (val : Word), s.hAnswers = true →
    Answers (exec (.sbCapture val) s) fun u =>
      u.reg Reg.SCH_SB_SEL = val &&& 0x3F3F#32 ∧
      (∀ i < 4, u.reg (Reg.SCH_SB_DATA i) = BitVec.ofNat 32 ((s.sbAt (wfld val 13 8) (wfld val 5 0)).bits / 2 ^ (32 * i))) ∧
      s.OnlyRegs u [Reg.SCH_SB_SEL, Reg.SCH_SB_DATA 0, Reg.SCH_SB_DATA 1, Reg.SCH_SB_DATA 2, Reg.SCH_SB_DATA 3]) ∧
  (∀ (s : State) (p : Path) (k : Fin 256) (val : Word), s.hAnswers = true →
    Answers (exec (.ctxCfgWrite p k val) s) fun u =>
      ((s.ctx k).mode = .idle → u.reg (Reg.SCH_CTX_CFG k) = val &&& 0x7F03#32 ∧ s.OnlyRegs u [Reg.SCH_CTX_CFG k]) ∧
      ((s.ctx k).mode ≠ .idle → u.bit Reg.CTL_ACC_ERR 0 = true ∧ s.OnlyRegs u [Reg.CTL_ACC_ERR]))

/-- SCH_CLR_HW: every SCH_OCCn.high becomes equal to its used value. While the H-die answers, clr_hw makes the high
field of every SCH_OCCn equal to its used field, the number of valid scoreboard entries of the core; used stays, and
nothing but the high-water marks changes. (R191) -/
def Obligations.ClearHighWater : Prop :=
  ∀ (s : State), s.hAnswers = true →
    Answers (exec .schClrHw s) fun u =>
      (∀ n : Fin 64, u.occ n = s.occ n ∧ u.occReg n = s.occ n + 256 * s.occ n) ∧
      s.Frame u { s with sched := { s.sched with high := u.sched.high }, host := u.host } []

/-- LPDDR_TRAIN, MEM_CLR_ECC, MEM_CLR_SPILL: MEM_CTRL starts training and zeroes the ECC and weight-load counters.
While the H-die answers: train, where no cause refuses it, starts LPDDR5X training with the channels' fail bits
cleared, and where a cause refuses it only records the refusal; clr_ecc makes MEM_ECC_CE_CNT and MEM_ECC_UE_CNT 0;
clr_spill makes MEM_WLD_ONCHIP and MEM_WLD_SPILL 0. No other register or part changes. (R229) -/
def Obligations.MemoryControl : Prop :=
  (∀ (s : State), s.hAnswers = true →
    Answers (exec .lpddrTrain s) fun u =>
      (s.trainRefused = false → u.bit Reg.MEM_LPDDR_STATUS 1 = true ∧ u.fld Reg.MEM_LPDDR_STATUS 5 2 = 0 ∧
        u.bit Reg.MEM_LPDDR_STATUS 6 = s.bit Reg.MEM_LPDDR_STATUS 6) ∧
      (s.trainRefused = true → u.bit Reg.MEM_LPDDR_STATUS 6 = true ∧ u.fld Reg.MEM_LPDDR_STATUS 5 0 = s.fld Reg.MEM_LPDDR_STATUS 5 0) ∧
      s.OnlyRegs u [Reg.MEM_LPDDR_STATUS]) ∧
  (∀ (s : State), s.hAnswers = true →
    Answers (exec .memClrEcc s) fun u =>
      u.reg Reg.MEM_ECC_CE_CNT = 0#32 ∧ u.reg Reg.MEM_ECC_UE_CNT = 0#32 ∧ s.OnlyRegs u [Reg.MEM_ECC_CE_CNT, Reg.MEM_ECC_UE_CNT]) ∧
  (∀ (s : State), s.hAnswers = true →
    Answers (exec .memClrSpill s) fun u =>
      u.reg64 Reg.MEM_WLD_ONCHIP_LO = 0 ∧ u.reg64 Reg.MEM_WLD_SPILL_LO = 0 ∧
      s.OnlyRegs u [Reg.MEM_WLD_ONCHIP_LO, Reg.MEM_WLD_ONCHIP_HI, Reg.MEM_WLD_SPILL_LO, Reg.MEM_WLD_SPILL_HI])

/-- LPDDR_TRAIN_DONE, DRAM_TEMP_REPORT, SCRUB_PASS_START, SCRUB_READ, ECC_WRITEBACK: ready, refresh, lag, and what a
scrub finds. Training outside an automatic resume ends with ready where no channel failed, else with the failed
channels' bits. A temperature report of ready DRAM sets the refresh rate, and hot when told so. A scrub pass starts
with 2,658,304 reads to go, at the first array; where the last one has not ended it sets lag and goes on from where
that one stands. A read that meets nothing goes on by 64 bytes, the last one adding 1 to the passes; one flipped bit
adds 1 to the correctable count and queues a write-back; two flipped bits, or a read that reached the wrong word,
which leaves no trace in the array, add 1 to the uncorrectable count and present source 0x01. A read of another
place than the pass's next one, or with no pass under way, changes nothing. A write-back removes its error and
changes no register. (R203, R205, R211, R212, R213, R214, R215, R225) -/
def Obligations.ScrubAndDram : Prop :=
  (∀ (s : State) (fail : BitVec 4), s.mainUp = true → s.bit Reg.MEM_LPDDR_STATUS 1 = true → s.power.resuming = false →
    Answers (exec (.lpddrTrainDone fail) s) fun u =>
      u.bit Reg.MEM_LPDDR_STATUS 1 = false ∧ (fail = 0#4 → u.bit Reg.MEM_LPDDR_STATUS 0 = true) ∧
      (fail ≠ 0#4 → u.fld Reg.MEM_LPDDR_STATUS 5 2 = fail.toNat ∧ u.bit Reg.MEM_LPDDR_STATUS 0 = s.bit Reg.MEM_LPDDR_STATUS 0) ∧
      s.OnlyRegs u [Reg.MEM_LPDDR_STATUS]) ∧
  (∀ (s : State) (mult : Fin 3) (hot : Bool), s.mainUp = true → s.bit Reg.MEM_LPDDR_STATUS 0 = true →
    Answers (exec (.dramTempReport mult hot) s) fun u =>
      u.fld Reg.MEM_LPDDR_STATUS 9 8 = mult.val ∧ u.bit Reg.MEM_LPDDR_STATUS 10 = (hot || s.bit Reg.MEM_LPDDR_STATUS 10) ∧
      u.fld Reg.MEM_LPDDR_STATUS 7 0 = s.fld Reg.MEM_LPDDR_STATUS 7 0 ∧ s.OnlyRegs u [Reg.MEM_LPDDR_STATUS]) ∧
  (∀ (s : State), s.mainUp = true → s.bit Reg.MEM_SCRUB_CFG 15 = true →
    Answers (exec .scrubPassStart s) fun u =>
      u.bit Reg.MEM_SCRUB_CFG 16 = (s.bit Reg.MEM_SCRUB_CFG 16 || s.links.scrub.isSome) ∧
      s.Frame u { s with
        links := { s.links with scrub := some 2658304, scrubPos := if s.links.scrub = none then 0 else s.links.scrubPos }
        regs := u.regs, host := u.host } [Reg.MEM_SCRUB_CFG]) ∧
  (∀ (s : State) (p : SramArray × Nat) (n : Nat), s.mainUp = true → s.power.state ≠ .hold → s.bit Reg.MEM_SCRUB_CFG 15 = true →
    s.links.scrub = some (n + 1) → s.links.errors = [] → p = scrubPlace s.links.scrubPos →
    Answers (exec (.scrubRead p.1 p.2 []) s) fun u =>
      u.fld Reg.MEM_SCRUB_CFG 31 24 = (if n = 0 then (s.fld Reg.MEM_SCRUB_CFG 31 24 + 1) % 256 else s.fld Reg.MEM_SCRUB_CFG 31 24) ∧
      s.Frame u { s with
        links := { s.links with scrub := if n = 0 then none else some n, scrubPos := (s.links.scrubPos + 1) % 2658304 }
        regs := u.regs, host := u.host } [Reg.MEM_SCRUB_CFG]) ∧
  (∀ (s : State) (p : SramArray × Nat) (n : Nat) (w : Fin 8), s.mainUp = true → s.power.state ≠ .hold →
    s.bit Reg.MEM_SCRUB_CFG 15 = true → s.links.scrub = some (n + 2) → s.links.errors = [] → s.links.writebacks = [] →
    p = scrubPlace s.links.scrubPos →
    Answers (exec (.scrubRead p.1 p.2 [(w.val, .one)]) s) fun u =>
      (u.reg Reg.MEM_ECC_CE_CNT).toNat = min 0xFFFFFFFF ((s.reg Reg.MEM_ECC_CE_CNT).toNat + 1) ∧ u.bit Reg.MEM_ECC_STATUS 0 = true ∧
      s.Frame u { s with
        links := { s.links with scrub := some (n + 1), scrubPos := (s.links.scrubPos + 1) % 2658304
                                errors := [⟨p.1, p.2 * 8 + w.val, .one⟩], writebacks := [⟨p.1, p.2 * 8 + w.val, .one⟩] }
        regs := u.regs, host := u.host } [Reg.MEM_ECC_CE_CNT, Reg.MEM_ECC_STATUS, Reg.MEM_ECC_LOC]) ∧
  (∀ (s : State) (p : SramArray × Nat) (n : Nat) (w : Fin 8) (flaw : Flaw), s.mainUp = true → s.power.state ≠ .hold →
    s.bit Reg.MEM_SCRUB_CFG 15 = true → s.links.scrub = some (n + 2) → s.links.errors = [] → flaw ≠ .one →
    p = scrubPlace s.links.scrubPos →
    Answers (exec (.scrubRead p.1 p.2 [(w.val, flaw)]) s) fun u =>
      (u.reg Reg.MEM_ECC_UE_CNT).toNat = min 0xFFFFFFFF ((s.reg Reg.MEM_ECC_UE_CNT).toNat + 1) ∧ u.bit Reg.MEM_ECC_STATUS 0 = true ∧
      u.safety.inbox = s.safety.inbox ++ [{ src := 1, unit := arrayUnit p.1 }] ∧
      s.BytesBut u ((s.wordAddr p.1 (p.2 * 8 + w.val)).toList.map fun a => (a, 8)) ∧
      (flaw = .stray → u.links.errors = [] ∧ u.mem = s.mem ∧ u.engines = s.engines) ∧
      s.Frame u { s with
        mem := u.mem, engines := u.engines, links := u.links, safety := u.safety, freeCtr := u.freeCtr, regs := u.regs, host := u.host }
        [Reg.MEM_ECC_UE_CNT, Reg.MEM_ECC_STATUS, Reg.MEM_ECC_LOC]) ∧
  (∀ (s : State) (p : SramArray × Nat) (flips : List (Nat × Flaw)), p ≠ scrubPlace s.links.scrubPos ∨ s.links.scrub = none →
    Answers (exec (.scrubRead p.1 p.2 flips) s) fun u => s.OnlyRegs u []) ∧
  (∀ (s : State) (e : EccError) (t : List EccError), s.links.writebacks = e :: t →
    Answers (exec .eccWriteback s) fun u =>
      s.Frame u { s with links := { s.links with writebacks := t, errors := s.links.errors.filter (· != e) }, host := u.host } [])

/-- PAIR_TRAIN, PAIR_STOP, LNK_CLR: what each bit of LNK_CTRL does. While the H-die takes the write: pair_train is
ignored while the pair link is up or training; otherwise, on its PLL, it clears failed and training is 1, and on the
oscillator it is ignored with CTL_ACC_ERR.bad_addr set. pair_stop makes up 0. clr makes the retry, correction and
stall counters of all four links 0. Nothing else changes. (R231) -/
def Obligations.LinkControl : Prop :=
  (∀ (s : State) (p : Path), s.takes Reg.LNK_CTRL = true →
    Answers (exec (.pairTrain p) s) fun u =>
      ((s.bit (Reg.LNK_STATUS 3) 0 = true ∨ s.bit (Reg.LNK_STATUS 3) 3 = true) → s.OnlyRegs u []) ∧
      (s.bit (Reg.LNK_STATUS 3) 0 = false → s.bit (Reg.LNK_STATUS 3) 3 = false → s.bit Reg.CLK_SRC 22 = true →
        u.bit (Reg.LNK_STATUS 3) 1 = false ∧ u.bit (Reg.LNK_STATUS 3) 3 = true ∧ u.bit (Reg.LNK_STATUS 3) 0 = false ∧
        s.OnlyRegs u [Reg.LNK_STATUS 3]) ∧
      (s.bit (Reg.LNK_STATUS 3) 0 = false → s.bit (Reg.LNK_STATUS 3) 3 = false → s.bit Reg.CLK_SRC 22 = false →
        u.bit Reg.CTL_ACC_ERR 0 = true ∧ s.OnlyRegs u [Reg.CTL_ACC_ERR])) ∧
  (∀ (s : State), s.takes Reg.LNK_CTRL = true →
    Answers (exec .pairStop s) fun u =>
      u.bit (Reg.LNK_STATUS 3) 0 = false ∧ u.bit (Reg.LNK_STATUS 3) 1 = s.bit (Reg.LNK_STATUS 3) 1 ∧ s.OnlyRegs u [Reg.LNK_STATUS 3]) ∧
  (∀ (s : State), s.takes Reg.LNK_CTRL = true →
    Answers (exec .lnkClr s) fun u =>
      (∀ i < 4, u.reg (Reg.LNK_RETRY i) = 0#32 ∧ u.reg (Reg.LNK_CE i) = 0#32 ∧ u.reg (Reg.LNK_STALL_A i) = 0#32 ∧
        u.reg (Reg.LNK_STALL_B i) = 0#32) ∧
      s.OnlyRegs u ((List.range 4).flatMap fun i => [Reg.LNK_RETRY i, Reg.LNK_CE i, Reg.LNK_STALL_A i, Reg.LNK_STALL_B i]))

/-- FLIT_RECEIVE, REPLAY_REQUEST, PAIR_TRAIN_DONE, PAIR_TRAIN_TIMEOUT, PAIR_LINK_DOWN: sequence, replay, failure and
the pair link. On a link that runs, a sound flit with the expected number advances that direction, unless TST_LNK
forces a replay on it; any other is discarded and its replay asked for, and every flit until the request is served;
corrections are counted and an uncorrectable flit sets ue. A credit error stops its unit and presents source 0x02. A
replay counts every flit from the one asked for; a forced one does not count toward failure; the 16th successive
replay of one flit fails a link of this package: up falls, failed sets, source 0x03 is presented. A replay that is
not asked for changes nothing. Over a failed link nothing passes: a counter's add and an operator's access wait.
Pair-link training ends with up, or with failed at the timeout. Loss of the pair link takes up down, and in Doubles
presents source 0x0A and falls back where that is enabled. No other direction and no memory changes. (R202, R216,
R218, R220, R247, R466, R476, R493) -/
def Obligations.LinksCarryFlitsInOrder : Prop :=
  (∀ (s : State) (l : Fin 4) (b : Bool) (d : LinkDir) (seq corrected : Nat) (crcOk ue : Bool), s.linkRuns l = true → d = s.dir l b →
    Answers (exec (.flitReceive l b seq crcOk corrected ue none) s) fun u =>
      (d.asked = false → crcOk = true → ue = false → seq = d.expect →
        (s.forceEvery l = 0 ∨ d.replays ≠ 0 ∨ d.count + 1 < s.forceEvery l →
          (u.dir l b).expect = seq + 1 ∧ (u.dir l b).asked = false ∧ (u.dir l b).streak = (if d.last = seq then 0 else d.streak)) ∧
        (s.forceEvery l ≠ 0 → d.replays = 0 → s.forceEvery l ≤ d.count + 1 →
          (u.dir l b).expect = seq ∧ (u.dir l b).asked = true ∧ (u.dir l b).forced = true ∧ (u.dir l b).count = 0)) ∧
      (d.asked = false → (crcOk = false ∨ ue = true ∨ seq ≠ d.expect) →
        (u.dir l b).expect = d.expect ∧ (u.dir l b).asked = true ∧ (u.dir l b).forced = false ∧ (u.dir l b).streak = d.streak) ∧
      (d.asked = true → (u.dir l b).expect = d.expect ∧ (u.dir l b).asked = true ∧ (u.dir l b).forced = d.forced) ∧
      (∀ i c, (i, c) ≠ (l.val, b) → u.dir i c = s.dir i c) ∧
      (u.reg (Reg.LNK_CE l)).toNat = min 0xFFFFFFFF ((s.reg (Reg.LNK_CE l)).toNat + corrected) ∧
      u.bit (Reg.LNK_STATUS l) 2 = (ue || s.bit (Reg.LNK_STATUS l) 2) ∧
      s.Frame u { s with links := { s.links with dirs := u.links.dirs }, regs := u.regs, host := u.host }
        [Reg.LNK_CE l, Reg.LNK_STATUS l]) ∧
  (∀ (s : State) (l : Fin 4) (b : Bool) (seq corrected : Nat) (crcOk ue : Bool) (c : CreditError), s.linkRuns l = true →
    Answers (exec (.flitReceive l b seq crcOk corrected ue (some c)) s) fun u =>
      u.links.stopped = s.links.stopped ++ [c] ∧ u.bit Reg.SYN_UF_STATUS 0 = true ∧
      u.safety.inbox = s.safety.inbox ++ [{ src := 2, unit := creditUnit c }] ∧
      s.Frame u { s with links := u.links, safety := u.safety, regs := u.regs, host := u.host }
        [Reg.LNK_CE l, Reg.LNK_STATUS l, Reg.SYN_UF_STATUS]) ∧
  (∀ (s : State) (l : Fin 4) (b : Bool) (d : LinkDir) (n : Nat), s.linkRuns l = true → d = s.dir l b → d.asked = true →
    n = (if d.last = d.expect ∧ d.streak ≠ 0 then d.streak + 1 else 1) →
    Answers (exec (.replayRequest l b d.expect (d.sent - d.expect) d.forced) s) fun u =>
      (u.reg (Reg.LNK_RETRY l)).toNat = min 0xFFFFFFFF ((s.reg (Reg.LNK_RETRY l)).toNat + (d.sent - d.expect)) ∧
      u.dir l b = { d with
        asked := false, forced := false, replays := d.sent - d.expect
        last := if d.forced then d.last else d.expect, streak := if d.forced then d.streak else n } ∧
      (∀ i c, (i, c) ≠ (l.val, b) → u.dir i c = s.dir i c) ∧
      (d.forced = true ∨ n < 16 → s.Frame u { s with links := { s.links with dirs := u.links.dirs }, regs := u.regs, host := u.host }
        [Reg.LNK_RETRY l]) ∧
      (d.forced = false → 16 ≤ n → u.bit (Reg.LNK_STATUS l) 0 = false ∧ u.bit (Reg.LNK_STATUS l) 1 = true ∧
        (l.val ≠ 3 → u.safety = { s.safety with inbox := s.safety.inbox ++ [{ src := 3, link := some l.val }] }) ∧
        s.Frame u { s with links := { s.links with dirs := u.links.dirs }, safety := u.safety, regs := u.regs, host := u.host }
          [Reg.LNK_RETRY l, Reg.LNK_STATUS l, Reg.SAF_STATUS])) ∧
  (∀ (s : State) (l : Fin 4) (b f : Bool) (d : LinkDir) (seq n : Nat), d = s.dir l b →
    (d.asked = false ∨ seq ≠ d.expect ∨ n ≠ d.sent - d.expect ∨ f ≠ d.forced) →
    Answers (exec (.replayRequest l b seq n f) s) fun u => s.OnlyRegs u []) ∧
  (∀ (s : State) (a src : BitVec 16) (x : BitVec 32), s.ctrOpen (unitNode src.toNat) a.toNat = false →
    Answers (exec (.counterAdd a x src) s) fun u => s.Frame u { s with host := u.host } []) ∧
  (∀ (s : State) (k : Fin 256) (c : Instr) (code : Nat) (o : Op) (p : OpPart),
    (c, code) ∈ [(Instr.copy k, cCOPY), (.add k, cADD), (.softmax k, cSOFTMAX), (.reduce k, cREDUCE), (.encodeWeight k, cENCODE_WEIGHT)] →
    (s.leadIssuing k && eOp (s.ctx k).entry == code) = false → s.dueOp? k code = some (o, p) →
    s.reaches (coreNode p.core) (o.blockReads (o.nextRow p) p.block ++
      (s.blockWrites o (o.nextRow p) p.block).map fun w => (w.1, w.2.length)) = false →
    Answers (exec c s) fun u => s.Frame u { s with host := u.host } []) ∧
  (∀ (s : State) (c : Instr) (up : Bool), s.mainUp = true → s.bit (Reg.LNK_STATUS 3) 3 = true →
    (c, up) ∈ [(Instr.pairTrainDone, true), (.pairTrainTimeout, false)] →
    Answers (exec c s) fun u =>
      u.bit (Reg.LNK_STATUS 3) 3 = false ∧ u.bit (Reg.LNK_STATUS 3) 0 = (up || s.bit (Reg.LNK_STATUS 3) 0) ∧
      u.bit (Reg.LNK_STATUS 3) 1 = (!up || s.bit (Reg.LNK_STATUS 3) 1) ∧
      (up = true → u.dir 3 false = {} ∧ u.dir 3 true = {}) ∧
      s.Frame u { s with links := { s.links with dirs := u.links.dirs }, regs := u.regs, host := u.host } [Reg.LNK_STATUS 3]) ∧
  (∀ (s : State), s.mainUp = true → s.bit (Reg.LNK_STATUS 3) 0 = true →
    Answers (exec .pairLinkDown s) fun u =>
      u.bit (Reg.LNK_STATUS 3) 0 = false ∧
      (s.doubles = true → u.safety.inbox = s.safety.inbox ++ [{ src := 0x0A, link := some 3 }] ∧
        u.bit Reg.SAF_STATUS 4 = (s.safety.dblCfg.getLsbD 9 || s.bit Reg.SAF_STATUS 4)) ∧
      (s.doubles = false → u.safety = s.safety ∧ u.reg Reg.SAF_STATUS = s.reg Reg.SAF_STATUS) ∧
      s.Frame u { s with safety := u.safety, regs := u.regs, host := u.host } [Reg.LNK_STATUS 3, Reg.SAF_STATUS])

/-- COUNTER_ADD, HOST_ADD: a counter rises, saturates at 2^48 - 1, frees its waiters; without an SOT the add is
discarded or held. An add of a non-zero amount to an existing counter, its route open, with an SOT valid or for a
cluster counter and no frozen dump: the value becomes the sum, at most 2^48 - 1, and sat sets when it would pass
that; the counter names the adding unit (0x3000 or 0x4000 for the host's two paths) and the time; its shadow write
is requested if it has one; each waiter whose value is reached is removed and its waiting context is READY. With no
SOT valid and none loading an add to a package counter records NO_SOT and changes no counter; while an SOT loads it
is held. No other counter and no memory changes. (R233, R235, R239, R253, R261, R236) -/
def Obligations.CounterAdds : Prop :=
  (∀ (s : State) (c : Instr) (n k unit v : Nat),
    ((∃ (a src : BitVec 16) (x : BitVec 32), c = .counterAdd a x src ∧ n = a.toNat ∧ k = x.toNat ∧ unit = src.toNat ∧ s.mainUp = true ∧
        s.ctrOpen (unitNode src.toNat) a.toNat = true) ∨
      (∃ (p : Path) (a : Fin 4096) (x : Word), c = .hostAdd p a x ∧ n = a.val ∧ k = x.toNat ∧
        unit = (if p = .bar0 then 0x3000 else 0x4000) ∧ s.hAnswers = true)) →
    k ≠ 0 → n < 0x2000 → (s.sotValid = true ∨ 0x1000 ≤ n) → s.frozen = false → v = min (2 ^ 48 - 1) ((s.ctr n).v + k) →
    Answers (exec c s) fun u =>
      u.ctr n = { s.ctr n with
        v := v, sat := (s.ctr n).sat || decide (2 ^ 48 - 1 < (s.ctr n).v + k), lastUnit := unit, lastTime := s.now
        waiters := (s.ctr n).waiters.filter (fun w => !decide (w.e ≤ v)), shadowReq := (s.ctr n).shadowReq || (s.ctr n).shadowEn } ∧
      (∀ m, m ≠ n → u.ctr m = s.ctr m) ∧
      (∀ w ∈ (s.ctr n).waiters, w.e ≤ v → (s.ctx w.ctx).mode = .waiting →
        u.ctx w.ctx = { s.ctx w.ctx with mode := .ready, wait := none, registered := false }) ∧
      (∀ j, (∀ w ∈ (s.ctr n).waiters, w.e ≤ v → w.ctx ≠ j) → u.ctx j = s.ctx j) ∧
      s.Frame u { s with sched := { s.sched with ctxs := u.sched.ctxs }, sync := { s.sync with ctrs := u.sync.ctrs }, avs := u.avs
                         regs := u.regs, host := u.host } addRegs) ∧
  (∀ (s : State) (a src : BitVec 16) (x : BitVec 32), s.mainUp = true → x ≠ 0#32 → a.toNat < 0x1000 → s.sotValid = false →
    s.ctrOpen (unitNode src.toNat) a.toNat = true →
    Answers (exec (.counterAdd a x src) s) fun u =>
      (s.roots.sot.loading = true → s.Frame u { s with
        sync := { s.sync with held := s.sync.held ++ [.add a.toNat x.toNat src.toNat] }, host := u.host } []) ∧
      (s.roots.sot.loading = false → u.bit Reg.SYN_ERR_STATUS 0 = true ∧
        (u.reg Reg.SYN_ERR_CNT).toNat = min 0xFFFFFFFF ((s.reg Reg.SYN_ERR_CNT).toNat + 1) ∧
        (s.bit Reg.SYN_ERR_STATUS 0 = false → u.fld Reg.SYN_ERR_STATUS 7 4 = 9) ∧ s.OnlyRegs u synErrRegs))

/-- WAIT_REGISTER, SHADOW_WRITE: a wait is met or registers; a shadow carries the value as it stands, then its
message. A context's wait on a counter it may use and can reach, no frozen dump running: met when the counter holds
the value, so that the context is READY; else, with fewer than 16 records, its record is registered behind the
others. A requested shadow write is posted to the host with v and, in bit 48, sat as they stand, stands in host
memory where that can be reached, is followed by the counter's MSI-X message where it has one, and is no longer
requested; one that an SOT load requested waits for those of the lower counters. No register changes. (R239, R253,
R37, R519) -/
def Obligations.WaitsAndShadows : Prop :=
  (∀ (s : State) (k : Fin 256) (n e : Nat), (s.ctx k).wait = some (n, e) → (s.ctx k).mode = .waiting → (s.ctx k).registered = false →
    s.frozen = false → ctrLocal n k = true → s.ctrOpen (coreNode (k.val / 4)) n = true →
    Answers (exec (.waitRegister k) s) fun u =>
      (e ≤ (s.ctr n).v → u.ctx k = { s.ctx k with mode := .ready, wait := none, registered := false } ∧ u.sync = s.sync) ∧
      ((s.ctr n).v < e → (s.ctr n).waiters.length < 16 →
        u.ctr n = { s.ctr n with waiters := (s.ctr n).waiters ++ [⟨e, k.val⟩] } ∧ (∀ m, m ≠ n → u.ctr m = s.ctr m) ∧
        u.ctx k = { s.ctx k with registered := true }) ∧
      ((s.ctr n).v < e → 16 ≤ (s.ctr n).waiters.length → u.bit Reg.SYN_ERR_STATUS 0 = true) ∧
      ((s.ctr n).v < e ∧ 16 ≤ (s.ctr n).waiters.length ∨
        (∀ j, j ≠ k.val → u.ctx j = s.ctx j) ∧
        s.Frame u { s with sched := { s.sched with ctxs := u.sched.ctxs }, sync := u.sync, host := u.host } [])) ∧
  (∀ (s : State) (n : Fin 4096) (h : HostLink), s.mainUp = true → (s.ctr n).shadowReq = true → s.shadowTurn n = true →
    h = (let g := s.host.shadow (s.ctr n).shadowAddr ((s.ctr n).v + (if (s.ctr n).sat then 2 ^ 48 else 0))
         if (s.ctr n).msixEn then g.msix (s.ctr n).msixVec else g) →
    Answers (exec (.shadowWrite n) s) fun u =>
      u.ctr n = { s.ctr n with shadowReq := false, shadowLoad := false } ∧ (∀ m, m ≠ n.val → u.ctr m = s.ctr m) ∧
      (s.host.reach = true → (s.ctr n).msixEn = false →
        h.posted = s.host.posted ++ [.shadow (s.ctr n).shadowAddr ((s.ctr n).v + (if (s.ctr n).sat then 2 ^ 48 else 0))]) ∧
      (s.host.reach = true → (s.ctr n).shadowAddr + 8 ≤ 2 ^ 63 →
        u.Holds (2 ^ 63 + (s.ctr n).shadowAddr) (toBytes 8 ((s.ctr n).v + (if (s.ctr n).sat then 2 ^ 48 else 0)))) ∧
      s.BytesBut u (if s.host.reach then [(2 ^ 63 + (s.ctr n).shadowAddr, 8)] else []) ∧
      ({ s with host := h } : State).Frame u { s with mem := u.mem, sync := { s.sync with ctrs := u.sync.ctrs }, host := u.host } []) ∧
  (∀ (s : State) (n : Fin 4096), s.shadowTurn n = false →
    Answers (exec (.shadowWrite n) s) fun u => s.Frame u { s with host := u.host } [])

/-- COUNTER_SET, END_VALUE_COMMIT: the selected counter takes its value or end value, or SET_REFUSED is recorded.
The write of the high word commits the 48 bits made of the staged low word and the low half of the word written. A
set that no case of R245 refuses, no frozen dump running, gives the selected counter the value, clears sat, names
unit 0x7000 and the time, and requests a shadow write where the counter has one. An end value goes to the selected
package counter when its owner is the host, or a queue with every context IDLE. A refusal changes no counter, counts
an error and, where none stands recorded, records code 8 with the counter and unit 0x7000. (R14, R245, R258, R261,
R264) -/
def Obligations.CounterSetAndEnd : Prop :=
  (∀ (s : State) (p : Path) (val : Word) (c : Nat) (ws : List Word), s.hAnswers = true → c = s.fld Reg.SYN_CTR_SEL 15 0 →
    ws = s.commitWords Reg.SYN_CTR_SET_LO 2 p (val &&& 0xFFFF#32) →
    Answers (exec (.counterSet p val) s) fun u =>
      (s.setRefused c = false → s.frozen = false → u.ctr c = { s.ctr c with
          v := words48 ws, sat := false, lastUnit := 0x7000, lastTime := s.now, shadowReq := (s.ctr c).shadowReq || (s.ctr c).shadowEn } ∧
        (∀ m, m ≠ c → u.ctr m = s.ctr m)) ∧
      (s.setRefused c = true → u.sync = s.sync ∧ u.bit Reg.SYN_ERR_STATUS 0 = true ∧
        (s.bit Reg.SYN_ERR_STATUS 0 = false → u.fld Reg.SYN_ERR_STATUS 7 4 = 8 ∧ u.reg Reg.SYN_ERR_SRC = BitVec.ofNat 32 (c + 0x70000000))) ∧
      s.Frame u { s with sync := u.sync, wide := u.wide, regs := u.regs, host := u.host }
        (Reg.SYN_CTR_SET_LO :: Reg.SYN_CTR_SET_HI :: synErrRegs)) ∧
  (∀ (s : State) (p : Path) (val : Word) (c : Nat) (ws : List Word), s.hAnswers = true → c = s.fld Reg.SYN_CTR_SEL 15 0 →
    ws = s.commitWords Reg.SYN_CTR_END_LO 2 p (val &&& 0xFFFF#32) →
    Answers (exec (.endValueCommit p val) s) fun u =>
      (c < 0x1000 → ((s.ctr c).owner = 0x100 ∨ (s.ctr c).owner < 0x100 ∧ s.queueBusy (s.ctr c).owner = false) →
        u.ctr c = { s.ctr c with endv := words48 ws } ∧ (∀ m, m ≠ c → u.ctr m = s.ctr m) ∧
        u.reg Reg.SYN_CTR_END_HI = val &&& 0xFFFF#32 ∧ u.reg Reg.SYN_CTR_END_LO = ws.getD 0 0#32) ∧
      ((0x1000 ≤ c ∨ (s.ctr c).owner < 0x100 ∧ s.queueBusy (s.ctr c).owner = true) →
        u.sync = s.sync ∧ u.bit Reg.SYN_ERR_STATUS 0 = true ∧ u.reg Reg.SYN_CTR_END_LO = s.reg Reg.SYN_CTR_END_LO) ∧
      s.Frame u { s with sync := u.sync, wide := u.wide, regs := u.regs, host := u.host }
        (Reg.SYN_CTR_END_LO :: Reg.SYN_CTR_END_HI :: synErrRegs))

/-- COUNTER_CAPTURE, HOST_END_CHECK, SYN_CLR: reading a counter, checking the host's counters, clearing the counts.
A write to SYN_CTR_SEL shows the selected counter: its value, its end value, the time of its last operation and, in
order of registration, each waiter's value and unit, 0 where there is none; a reserved identifier also sets
CTL_ACC_ERR.bad_addr. The end-of-task check for the host changes nothing where no counter fails; otherwise it adds
their number to the count and, where no failure stands recorded, records the lowest. clr zeroes the two counts and
keeps the rest of SYN_END_STATUS. None alters a counter. (R256, R257, R263, R267, R268) -/
def Obligations.CaptureAndChecks : Prop :=
  (∀ (s : State) (p : Path) (val : Word) (c : Nat), s.hAnswers = true → c = val.toNat % 65536 → c < 0x2000 →
    Answers (exec (.counterCapture p val) s) fun u =>
      u.reg Reg.SYN_CTR_SEL = BitVec.ofNat 32 c ∧ u.reg64 Reg.SYN_CTR_VAL_LO = (s.ctr c).v % 2 ^ 64 ∧
      u.reg64 Reg.SYN_CTR_END_LO = (s.ctr c).endv % 2 ^ 64 ∧ u.fld Reg.SYN_CTR_TS_LO 29 0 = (s.ctr c).lastTime % 2 ^ 30 ∧
      u.reg Reg.SYN_CTR_TS_HI = BitVec.ofNat 32 ((s.ctr c).lastTime / 2 ^ 30) ∧
      (∀ i < 16, u.reg64 (Reg.SYN_WTR_LO i) = (match (s.ctr c).waiters[i]? with
        | some w => (w.e + (0x1000 + w.ctx) * 2 ^ 48) % 2 ^ 64
        | none => 0)) ∧
      s.OnlyRegs u ([Reg.SYN_CTR_SEL, Reg.SYN_CTR_VAL_LO, Reg.SYN_CTR_VAL_HI, Reg.SYN_CTR_INFO, Reg.SYN_CTR_TS_LO, Reg.SYN_CTR_TS_HI,
        Reg.SYN_CTR_END_LO, Reg.SYN_CTR_END_HI] ++ (List.range 16).flatMap fun i => [Reg.SYN_WTR_LO i, Reg.SYN_WTR_HI i])) ∧
  (∀ (s : State) (p : Path) (val : Word), s.hAnswers = true → 0x2000 ≤ val.toNat % 65536 →
    Answers (exec (.counterCapture p val) s) fun u =>
      u.bit Reg.CTL_ACC_ERR 0 = true ∧ u.reg64 Reg.SYN_CTR_VAL_LO = 0 ∧ u.sync = s.sync) ∧
  (∀ (s : State), s.hAnswers = true →
    Answers (exec .hostEndCheck s) fun u =>
      (s.endFailures 0x100 = [] → s.OnlyRegs u []) ∧
      (∀ c rest, s.endFailures 0x100 = c :: rest →
        u.fld Reg.SYN_END_STATUS 31 16 = min 65535 (s.fld Reg.SYN_END_STATUS 31 16 + (rest.length + 1)) ∧
        u.bit Reg.SYN_END_STATUS 0 = true ∧
        (s.bit Reg.SYN_END_STATUS 0 = false → u.reg Reg.SYN_END_FIRST = BitVec.ofNat 32 (c + 0x1000000)) ∧
        (s.bit Reg.SYN_END_STATUS 0 = true → u.reg Reg.SYN_END_FIRST = s.reg Reg.SYN_END_FIRST) ∧
        s.OnlyRegs u [Reg.SYN_END_STATUS, Reg.SYN_END_FIRST])) ∧
  (∀ (s : State), s.hAnswers = true →
    Answers (exec .synClr s) fun u =>
      u.reg Reg.SYN_ERR_CNT = 0#32 ∧ u.fld Reg.SYN_END_STATUS 31 16 = 0 ∧
      u.fld Reg.SYN_END_STATUS 15 0 = s.fld Reg.SYN_END_STATUS 15 0 ∧ s.OnlyRegs u [Reg.SYN_ERR_CNT, Reg.SYN_END_STATUS])

/-- DUMP_START, DUMP_DONE: a dump runs, and at its end the header, the counters and the waiters stand in memory.
start with no dump running and a base aligned to 64 bytes outside core memory: active sets and the dump takes its
base, its freeze bit and the time; a misaligned base, and one in core memory (the model's choice, log entry 76),
sets fault, and a start while a dump runs is ignored. When a dump ends with memory in order, its range mapped and
nothing held, the bytes at its base are the header, the 8,192 counter records and the waiter records; no other byte
changes; done sets and active clears. Where the range is not mapped, the dump stands below the lowest faulting
address, and fault sets. (R259, R260) -/
def Obligations.CounterDump : Prop :=
  (∀ (s : State) (freeze : Bool), s.hAnswers = true →
    Answers (exec (.dumpStart freeze) s) fun u =>
      (s.sync.dump.isSome = true → s.OnlyRegs u []) ∧
      (s.sync.dump = none → s.reg64 Reg.SYN_DUMP_BASE_LO % 64 = 0 → regionOf (s.reg64 Reg.SYN_DUMP_BASE_LO) ≠ some .core → u.bit Reg.SYN_DUMP_STATUS 0 = true ∧
        s.Frame u { s with sync := { s.sync with dump := some ⟨freeze, s.reg64 Reg.SYN_DUMP_BASE_LO, s.now⟩ }, regs := u.regs, host := u.host }
          [Reg.SYN_DUMP_STATUS]) ∧
      (s.sync.dump = none →
        (s.reg64 Reg.SYN_DUMP_BASE_LO % 64 ≠ 0 ∨ regionOf (s.reg64 Reg.SYN_DUMP_BASE_LO) = some .core) →
        u.bit Reg.SYN_DUMP_STATUS 2 = true ∧ s.OnlyRegs u [Reg.SYN_DUMP_STATUS])) ∧
  (∀ (s : State) (d : Dump), s.mainUp = true → s.Quiet → s.sync.dump = some d → s.sync.held = [] →
    Answers (exec .dumpDone s) fun u =>
      (s.Mapped [(d.base, 0x80040 + 16 * s.allWaiters.length)] →
        u.Holds d.base (s.dumpBytes d) ∧ s.BytesBut u [(d.base, 0x80040 + 16 * s.allWaiters.length)] ∧
        u.bit Reg.SYN_DUMP_STATUS 1 = true ∧ u.bit Reg.SYN_DUMP_STATUS 0 = false ∧
        s.Frame u { s with mem := u.mem, links := u.links, sync := { s.sync with dump := none }, regs := u.regs, host := u.host }
          [Reg.SYN_DUMP_STATUS]) ∧
      (∀ f, s.rangeFault d.base (0x80040 + 16 * s.allWaiters.length) = some f →
        u.Holds d.base ((s.dumpBytes d).take (f.1 - d.base)) ∧ s.BytesBut u [(d.base, f.1 - d.base)] ∧
        u.bit Reg.SYN_DUMP_STATUS 2 = true ∧ u.bit Reg.SYN_DUMP_STATUS 0 = false ∧ u.bit Reg.MEM_ADDR_FAULT 0 = true ∧
        s.Frame u { s with mem := u.mem, links := u.links, sync := { s.sync with dump := none }, regs := u.regs, host := u.host }
          [Reg.SYN_DUMP_STATUS, Reg.MEM_ADDR_FAULT, Reg.MEM_ADDR_FAULT_LO, Reg.MEM_ADDR_FAULT_HI]))

/-- HOST_HUDDLE_ARRIVE, HUDDLE_NODE_ARRIVE: an arrival of a member counts at its node, and a round that is complete
moves on. The host's arrival at a huddle root whose record names it, no SOT loading, is on its way to the root's
node with SYN_HUD_ROUND's tag; from a host that is no member it records code 5. Of an arrival that is the next of
its source to its node, its route open and no frozen dump running: accepted, it is counted at its node for its round
and leaves the way; where it completes the round of a cluster's or a die's node, the next round not complete, the
node advances and sends one arrival for all its members on to the die or the root; at the root its weight is added
to the counter as it is accepted, and the node advances where the round is complete. A repeated tag is discarded
with code 4. Memory does not change. (R179, R249, R250, R251, R259, R261) -/
def Obligations.HuddleArrivals : Prop :=
  (∀ (s : State) (p : Path) (root : Fin 64), s.hAnswers = true → s.roots.sot.loading = false →
    Answers (exec (.hostHuddleArrive p root) s) fun u =>
      ((s.ctr root).huddle = true → (s.huddle root).host = true → s.Frame u { s with
        sync := { s.sync with arrivals := s.sync.arrivals ++
          [{ root := root.val, node := 18, child := 2, tag := (s.reg Reg.SYN_HUD_ROUND).toNat, weight := 1
             unit := if p = .bar0 then 0x3000 else 0x4000, ctx := none }] }
        host := u.host } []) ∧
      (((s.ctr root).huddle = false ∨ (s.huddle root).host = false) →
        u.bit Reg.SYN_ERR_STATUS 0 = true ∧ (s.bit Reg.SYN_ERR_STATUS 0 = false → u.fld Reg.SYN_ERR_STATUS 7 4 = 5) ∧
        s.OnlyRegs u synErrRegs)) ∧
  (∀ (s : State) (idx : Nat) (a : Arrival) (n : HNode) (m : Nat), s.mainUp = true → s.sync.arrivals[idx]? = some a →
    s.frozen = false → s.arrivalNext idx a = true →
    (s.ctr a.root).huddle = true → (a.node < 16 → (s.huddle a.root).ctxMask.testBit a.child = true) →
    m = (s.huddle a.root).members a.node → ((s.huddle a.root).nodes.look {} a.node).judge a.child a.tag = .accepted →
    n = ((s.huddle a.root).nodes.look {} a.node).count a.child a.tag a.weight →
    Answers (exec (.huddleNodeArrive idx) s) fun u =>
      (n.cnt0 ≠ m → (u.huddle a.root).nodes.look {} a.node = n ∧ u.sync.arrivals = s.sync.arrivals.eraseIdx idx) ∧
      (n.cnt0 = m → m ≠ 0 → n.cnt1 ≠ m →
        (u.huddle a.root).nodes.look {} a.node = { b := n.b + 1, mask0 := n.mask1, mask1 := [], cnt0 := n.cnt1, cnt1 := 0 } ∧
        u.sync.arrivals = s.sync.arrivals.eraseIdx idx ++
          (if a.node < 16 then
            [{ a with node := 16 + a.node / 8, child := a.node, tag := n.b, weight := m, unit := 0x6000 + a.node / 8 }]
          else if a.node < 18 then
            [{ a with node := 18, child := a.node - 16, tag := n.b, weight := m, unit := 0x6000 + (a.node - 16) }]
          else [])) ∧
      (∀ r, r ≠ a.root → u.huddle r = s.huddle r) ∧
      (a.node ≠ 18 → u.sync.ctrs = s.sync.ctrs ∧ s.Frame u { s with sync := u.sync, host := u.host } []) ∧
      (a.node = 18 → a.root < 0x1000 → s.sotValid = true → a.weight ≠ 0 →
        (u.ctr a.root).v = min (2 ^ 48 - 1) ((s.ctr a.root).v + a.weight) ∧ (∀ c, c ≠ a.root → u.ctr c = s.ctr c) ∧
        s.Frame u { s with sched := { s.sched with ctxs := u.sched.ctxs }, sync := u.sync, avs := u.avs, regs := u.regs, host := u.host }
          addRegs)) ∧
  (∀ (s : State) (idx : Nat) (a : Arrival), s.mainUp = true → s.sync.arrivals[idx]? = some a → a.ctx = none →
    s.frozen = false → s.arrivalNext idx a = true →
    (s.ctr a.root).huddle = true → (a.node < 16 → (s.huddle a.root).ctxMask.testBit a.child = true) →
    ((s.huddle a.root).nodes.look {} a.node).judge a.child a.tag = .again →
    Answers (exec (.huddleNodeArrive idx) s) fun u =>
      u.bit Reg.SYN_ERR_STATUS 0 = true ∧ (s.bit Reg.SYN_ERR_STATUS 0 = false → u.fld Reg.SYN_ERR_STATUS 7 4 = 4) ∧
      s.Frame u { s with sync := { s.sync with arrivals := s.sync.arrivals.eraseIdx idx }, regs := u.regs, host := u.host } synErrRegs)

/-- The stream commands and ING_CTRL: one stream changes its state, or the lowest cause is shown. A stream command
with no cause against it changes only its stream: Start takes the cached SDT entry, RUNNING, its delivered count 0;
Stop makes it STOPPED, or STOPPING with a frame in progress; Abort makes it STOPPED with no frame left, counting
each in progress as broken; Reload replaces the cached entry by the one in memory; Clear makes it STOPPED without a
fault. With causes against it, or with a reserved code (cause 9), only ING_STRM_STATUS changes: refused, the lowest
cause, the stream. clr zeroes every ingest counter; clr_hw sets the buffer's high value to the present one. (R303,
R304, R307, R326, R327, R298) -/
def Obligations.StreamCommands : Prop :=
  (∀ (s : State) (n : Fin 64) (e : Nat), s.hAnswers = true → e = s.roots.sdt.entries.getD n 0 →
    s.strmCauses n ((s.strm n).mode == .stopped) ++ s.startCauses e = [] →
    Answers (exec (.streamStart n) s) fun u =>
      u.strm n = { mode := .running, entry := e } ∧ (∀ m, m ≠ n.val → u.strm m = s.strm m) ∧ u.reg (Reg.ING_DELIV n) = 0#32 ∧
      s.Frame u { s with ingest := { s.ingest with streams := u.ingest.streams }, regs := u.regs, host := u.host } [Reg.ING_DELIV n]) ∧
  (∀ (s : State) (n : Fin 64), s.hAnswers = true → s.strmCauses n ((s.strm n).mode == .running) = [] →
    Answers (exec (.streamStop n) s) fun u =>
      u.strm n = (if (s.strm n).inFrame then { s.strm n with mode := .stopping } else { s.strm n with mode := .stopped, frame := none }) ∧
      (∀ m, m ≠ n.val → u.strm m = s.strm m) ∧
      s.Frame u { s with ingest := { s.ingest with streams := u.ingest.streams }, host := u.host } []) ∧
  (∀ (s : State) (n : Fin 64), s.hAnswers = true → s.strmCauses n (s.strm n).live = [] →
    Answers (exec (.streamAbort n) s) fun u =>
      (u.strm n).mode = .stopped ∧ (u.strm n).frame = none ∧ (u.strm n).ended = [] ∧ (∀ m, m ≠ n.val → u.strm m = s.strm m) ∧
      u.fld (Reg.ING_LOSS n) 15 0 = min 65535 (s.fld (Reg.ING_LOSS n) 15 0 + (s.strm n).ended.length +
        (match (s.strm n).frame with | some f => if f.broken then 0 else 1 | none => 0)) ∧
      s.Frame u { s with ingest := { s.ingest with streams := u.ingest.streams }, regs := u.regs, host := u.host }
        [Reg.ING_LOSS n, Reg.ING_ALARM_LO + n.val / 32]) ∧
  (∀ (s : State) (n : Fin 64) (e : Nat), s.hAnswers = true → s.Quiet → e = s.readNat (s.roots.sdt.base + 64 * n.val) 64 →
    s.strmCauses n ((s.strm n).mode == .stopped) ++ (if sdtOk e then [] else [4]) = [] →
    Answers (exec (.streamReload n) s) fun u =>
      s.Frame u { s with roots := { s.roots with sdt := { s.roots.sdt with entries := s.roots.sdt.entries.set n e } }, host := u.host } []) ∧
  (∀ (s : State) (n : Fin 64), s.hAnswers = true → s.strmCauses n ((s.strm n).mode == .faulted) = [] →
    Answers (exec (.streamClear n) s) fun u =>
      u.strm n = { s.strm n with mode := .stopped, fault := 0 } ∧ (∀ m, m ≠ n.val → u.strm m = s.strm m) ∧
      s.Frame u { s with ingest := { s.ingest with streams := u.ingest.streams }, host := u.host } []) ∧
  (∀ (s : State) (n : Fin 64) (c : Instr) (cause : Nat) (rest : List Nat), s.hAnswers = true →
    ((c, cause :: rest) ∈
        [(Instr.streamStart n, s.strmCauses n ((s.strm n).mode == .stopped) ++ s.startCauses (s.roots.sdt.entries.getD n 0)),
          (.streamStop n, s.strmCauses n ((s.strm n).mode == .running)), (.streamAbort n, s.strmCauses n (s.strm n).live),
          (.streamReload n, s.strmCauses n ((s.strm n).mode == .stopped) ++
            (if sdtOk (s.readNat (s.roots.sdt.base + 64 * n.val) 64) then [] else [4])),
          (.streamClear n, s.strmCauses n ((s.strm n).mode == .faulted))] ∨
      (∃ code : BitVec 3, c = .streamCmdReserved n code ∧ ¬(1 ≤ code.toNat ∧ code.toNat ≤ 5)) ∧ cause = 9) →
    Answers (exec c s) fun u =>
      u.bit Reg.ING_STRM_STATUS 0 = true ∧ u.fld Reg.ING_STRM_STATUS 7 4 = cause ∧ u.fld Reg.ING_STRM_STATUS 13 8 = n.val ∧
      s.OnlyRegs u [Reg.ING_STRM_STATUS]) ∧
  (∀ (s : State), s.hAnswers = true →
    Answers (exec .ingClr s) fun u =>
      (∀ a ∈ (List.range 64).flatMap (fun n => [Reg.ING_DELIV n, Reg.ING_DROP n, Reg.ING_LOSS n]) ++ (List.range 8).map Reg.ING_CSI_STAT ++
        (List.range 2).flatMap (fun m => [Reg.ING_ETH_UNM m, Reg.ING_ETH_BAD m, Reg.ING_CAN_UNM m]), u.reg a = 0#32) ∧
      s.OnlyRegs u ((List.range 64).flatMap (fun n => [Reg.ING_DELIV n, Reg.ING_DROP n, Reg.ING_LOSS n]) ++
        (List.range 8).map Reg.ING_CSI_STAT ++ (List.range 2).flatMap (fun m => [Reg.ING_ETH_UNM m, Reg.ING_ETH_BAD m, Reg.ING_CAN_UNM m]))) ∧
  (∀ (s : State), s.hAnswers = true →
    Answers (exec .ingClrHw s) fun u =>
      u.fld Reg.ING_BUF_STATUS 27 16 = s.fld Reg.ING_BUF_STATUS 11 0 ∧ u.fld Reg.ING_BUF_STATUS 11 0 = s.fld Reg.ING_BUF_STATUS 11 0 ∧
      s.OnlyRegs u [Reg.ING_BUF_STATUS])

/-- SOURCE_ENABLE, SOURCE_DISABLE, FRAME_START, LONG_PACKET, FRAME_END: a frame is admitted, written line by line
and closed. A write that enables a source is ignored with CTL_ACC_ERR.bad_addr while its domain is on the
oscillator, and else acts. Disabling a receiver leaves no frame in progress on its streams, and a STOPPING one
STOPPED. A Frame Start admits a frame on each RUNNING stream of the virtual channel that has a free buffer and room,
with its number and time, and counts a drop where no buffer is free, the stream FAULTED where nobuf_fault is set. A
long packet of the one stream of its data type, with memory in order, writes its bytes at the line's address and
nowhere else. A Frame End hands a frame that no rule drops to delivery with the time. (R299, R301, R305, R306, R307,
R308) -/
def Obligations.SourcesAndCameraFrames : Prop :=
  (∀ (s : State) (p : Path) (src : Source) (val : Word), s.takes (srcReg src).1 = true → srcEnables src val = true →
    srcEnables src (s.reg (srcReg src).1) = false →
    Answers (exec (.sourceEnable p src val) s) fun u =>
      (s.onPll (srcReg src).2.2 = false → u.bit Reg.CTL_ACC_ERR 0 = true ∧ s.OnlyRegs u [Reg.CTL_ACC_ERR]) ∧
      (s.onPll (srcReg src).2.2 = true → u.reg (srcReg src).1 = val &&& (srcReg src).2.1 ∧
        s.Frame u { s with ingest := { s.ingest with canRecovering := u.ingest.canRecovering, tx := u.ingest.tx }, regs := u.regs, host := u.host }
          [(srcReg src).1])) ∧
  (∀ (s : State) (p : Path) (r : Fin 8) (val : Word), s.takes (Reg.ING_CSI_CFG r) = true → val.getLsbD 4 = false →
    s.bit (Reg.ING_CSI_CFG r) 4 = true →
    Answers (exec (.sourceDisable p (.csi r) val) s) fun u =>
      u.reg (Reg.ING_CSI_CFG r) = val &&& 0x13#32 ∧
      (∀ n < 64, (s.strm n).live = true → tSrc (s.strm n).entry = 0 → tPort (s.strm n).entry = r.val →
        (u.strm n).frame = none ∧ (u.strm n).ended = [] ∧ ((s.strm n).mode = .stopping → (u.strm n).mode = .stopped)) ∧
      s.Frame u { s with ingest := { s.ingest with streams := u.ingest.streams }, regs := u.regs, host := u.host }
        ([Reg.ING_CSI_CFG r, Reg.ING_ALARM_LO, Reg.ING_ALARM_HI] ++ (List.range 64).map Reg.ING_LOSS)) ∧
  (∀ (s : State) (r : Fin 8) (vc : BitVec 4) (fnum : BitVec 16) (fixed : Bool) (kib : Fin 2049), s.srcLive 0 r = true →
    Answers (exec (.frameStart r vc fnum fixed kib) s) fun u =>
      (∀ n ∈ s.csiStreams r vc.toNat, (s.strm n).mode = .running → (s.strm n).frame = none →
        (s.bufFree (s.strm n).entry = true → tAdmit (s.strm n).entry ≤ 2048 - kib.val →
          u.strm n = { s.strm n with frame := some { fnum := fnum.toNat, tSof := s.now, digested := s.digStream n } }) ∧
        (s.bufFree (s.strm n).entry = false →
          (u.strm n).frame = none ∧ u.fld (Reg.ING_DROP n) 15 0 = min 65535 (s.fld (Reg.ING_DROP n) 15 0 + 1) ∧
          (tNobufFault (s.strm n).entry = true → (u.strm n).mode = .faulted ∧ (u.strm n).fault = 2))) ∧
      (∀ n, n ∉ s.csiStreams r vc.toNat → u.strm n = s.strm n) ∧
      s.Frame u { s with ingest := { s.ingest with streams := u.ingest.streams }, regs := u.regs, host := u.host }
        ([Reg.ING_BUF_STATUS, Reg.ING_CSI_STAT r] ++
          (s.csiStreams r vc.toNat).flatMap fun n => [Reg.ING_DROP n, Reg.ING_LOSS n, Reg.ING_ALARM_LO + n / 32])) ∧
  (∀ (s : State) (r : Fin 8) (vc : BitVec 4) (dt : BitVec 6) (data : List Byte) (hdr : Fin 3) (crcBad lost : Bool) (kib : Fin 2049)
      (n a : Nat) (f : FrameRun), s.srcLive 0 r = true → s.Quiet → hdr.val ≠ 2 → overflows lost kib data.length = false →
    (s.csiStreams r vc.toNat).filter (fun m => tDt (s.strm m).entry == dt.toNat) = [n] → (s.strm n).frame = some f →
    f.seen < tMaxUnits (s.strm n).entry → data.length ≤ tUnitStride (s.strm n).entry →
    a = (s.strm n).bufAddr + f.seen * tUnitStride (s.strm n).entry → s.Mapped [(a, data.length)] →
    Answers (exec (.longPacket r vc dt data hdr crcBad kib lost false) s) fun u =>
      u.Holds a data ∧ s.BytesBut u [(a, data.length)] ∧
      u.strm n = { s.strm n with frame := some { f with
        seen := f.seen + 1, units := f.units + 1, bytes := (f.bytes + data.length) % 2 ^ 32, crc := f.crc || crcBad
        digest := if f.digested then (f.digest + rowHash f.seen data) % 2 ^ 64 else 0 } } ∧
      (∀ m, m ≠ n → u.strm m = s.strm m) ∧
      s.Frame u { s with mem := u.mem, links := u.links, ingest := { s.ingest with streams := u.ingest.streams }, regs := u.regs, host := u.host }
        [Reg.ING_BUF_STATUS, Reg.ING_CSI_STAT r]) ∧
  (∀ (s : State) (r : Fin 8) (vc : BitVec 4) (fixed : Bool), s.srcLive 0 r = true →
    Answers (exec (.frameEnd r vc fixed) s) fun u =>
      (∀ n ∈ s.csiStreams r vc.toNat, ∀ f, (s.strm n).frame = some f → f.broken = false →
        (tErrDrop (s.strm n).entry && (f.crc || f.ecc || f.long)) = false →
        u.strm n = { s.strm n with frame := none, ended := (s.strm n).ended ++ [{ f with tEof := s.now, gap := false }] }) ∧
      (∀ n, n ∉ s.csiStreams r vc.toNat → u.strm n = s.strm n) ∧
      s.Frame u { s with ingest := { s.ingest with streams := u.ingest.streams }, regs := u.regs, host := u.host }
        (Reg.ING_CSI_STAT r :: (s.csiStreams r vc.toNat).flatMap fun n => [Reg.ING_LOSS n, Reg.ING_ALARM_LO + n / 32]))

/-- FRAME_DELIVER, FRAME_GAP_TIMEOUT, ETHERNET_FRAME_RX, CAN_MESSAGE_RX: the frame record, the frame counter, the
packet's slot. With memory in order and an SOT valid: delivery of the oldest ended frame writes its 64-byte record
at the record's address and nothing else, counts it, adds 1 to frame_ctr, and the stream goes on to its next frame.
The gap breaks a camera frame, and closes a packet frame with gap flagged. An Ethernet frame with a bad FCS or more
than 9,216 bytes, or one that no stream matches, is only counted. A packet of a stream whose frame is open and not
yet at its last slot is written to the slot behind a 16-byte header (Ethernet), or as its 80-byte record (CAN), and
no other byte changes. (R296, R300, R301, R302, R308, R312, R313) -/
def Obligations.DeliveryAndPackets : Prop :=
  (∀ (s : State) (n : Fin 64) (f : FrameRun) (t : List FrameRun) (a : Nat), s.mainUp = true → s.Quiet → s.sotValid = true →
    s.frozen = false → (s.strm n).ended = f :: t → (f.digested && s.digHold) = false → tFrameCtr (s.strm n).entry < 0x1000 →
    a = tRecBase (s.strm n).entry + 64 * ((s.strm n).d % tNbuf (s.strm n).entry) → s.Mapped [(a, 64)] →
    Answers (exec (.frameDeliver n) s) fun u =>
      u.Holds a (toBytes 64 (frameRecord n (s.strm n) f)) ∧ s.BytesBut u [(a, 64)] ∧
      (u.strm n).d = ((s.strm n).d + 1) % 2 ^ 32 ∧ (u.strm n).run = 0 ∧ (u.strm n).drops = 0 ∧ (u.strm n).ended = t ∧
      (u.reg (Reg.ING_DELIV n)).toNat = ((s.reg (Reg.ING_DELIV n)).toNat + 1) % 2 ^ 32 ∧
      (u.ctr (tFrameCtr (s.strm n).entry)).v = min ctrMax ((s.ctr (tFrameCtr (s.strm n).entry)).v + 1) ∧
      (f.digested = false → u.safety = s.safety) ∧
      (f.digested = true → u.safety = { s.safety with forming := s.safety.forming ++
        [{ d := f.digest, index := (s.strm n).d, id := n.val, kind := 1, sat := false, rows := f.units % 2 ^ 24 }] }) ∧
      s.Frame u { s with mem := u.mem, links := u.links, ingest := { s.ingest with streams := u.ingest.streams }, safety := u.safety
                         sched := { s.sched with ctxs := u.sched.ctxs }, sync := { s.sync with ctrs := u.sync.ctrs }, avs := u.avs
                         regs := u.regs, host := u.host } (Reg.ING_DELIV n :: addRegs)) ∧
  (∀ (s : State) (n : Fin 64) (f : FrameRun), s.mainUp = true → (s.strm n).live = true → tGap (s.strm n).entry ≠ 0 →
    (s.strm n).frame = some f → f.broken = false →
    Answers (exec (.frameGapTimeout n) s) fun u =>
      (tSrc (s.strm n).entry = 0 → (u.strm n).frame = none ∧
        u.fld (Reg.ING_LOSS n) 15 0 = min 65535 (s.fld (Reg.ING_LOSS n) 15 0 + 1)) ∧
      (tSrc (s.strm n).entry ≠ 0 → (tErrDrop (s.strm n).entry && (f.crc || f.ecc || f.long)) = false →
        u.strm n = { s.strm n with frame := none, ended := (s.strm n).ended ++ [{ f with tEof := s.now, gap := true }] }) ∧
      (∀ m, m ≠ n.val → u.strm m = s.strm m) ∧
      s.Frame u { s with ingest := { s.ingest with streams := u.ingest.streams }, regs := u.regs, host := u.host }
        [Reg.ING_LOSS n, Reg.ING_ALARM_LO + n.val / 32]) ∧
  (∀ (s : State) (m : Fin 2) (data : List Byte) (fcsOk lost ue : Bool) (age : Nat) (kib : Fin 2049) (r : Nat), s.srcLive 1 m = true →
    (r = Reg.ING_ETH_BAD m ∧ (fcsOk = false ∨ 9216 < data.length) ∨
      r = Reg.ING_ETH_UNM m ∧ fcsOk = true ∧ data.length ≤ 9216 ∧ ethPause data = false ∧
        s.packetStream? 1 m (fun e => ethMatches e data) = none) →
    Answers (exec (.ethernetFrameRx m data fcsOk age kib lost ue) s) fun u =>
      (u.reg r).toNat = min 0xFFFFFFFF ((s.reg r).toNat + 1) ∧ s.OnlyRegs u [Reg.ING_BUF_STATUS, r]) ∧
  (∀ (s : State) (c : Instr) (bs row : List Byte) (kib : Fin 2049) (n a payload : Nat) (f : FrameRun) (rs : List Nat),
    ((∃ (m : Fin 2) (data : List Byte) (age : Nat) (lost : Bool), c = .ethernetFrameRx m data true age kib lost false ∧
        s.srcLive 1 m = true ∧ data.length ≤ 9216 ∧ ethPause data = false ∧ row = data ∧ payload = data.length ∧
        bs = toBytes 16 (s.before (age + s.fld (Reg.ING_ETH_CFG m) 15 8) + data.length * 2 ^ 64 + b2n (ethTagged data) * 2 ^ 78) ++ data ∧
        overflows lost kib (16 + data.length) = false ∧ s.packetStream? 1 m (fun e => ethMatches e data) = some n ∧ rs = []) ∨
      (∃ (m : Fin 2) (id : BitVec 29) (ide fdf brs rtr esi lost : Bool) (dlc : BitVec 4) (data : List Byte) (age i : Nat),
        c = .canMessageRx m id ide fdf brs rtr esi dlc data age kib lost false ∧ s.srcLive 2 m = true ∧
        s.fld (Reg.ING_CAN_STATUS m) 1 0 ≠ 2 ∧ (fdf = false ∨ s.bit (Reg.ING_CAN_CTRL m) 2 = true) ∧
        i = (if ide then id.toNat else id.toNat % 2 ^ 11) ∧ bs = canRecord (s.before age) i ide fdf brs rtr esi dlc.toNat data ∧
        row = bs.drop 16 ∧ payload = canLen fdf rtr dlc.toNat ∧ overflows lost kib 80 = false ∧
        s.packetStream? 2 m (fun e => canMatches e i ide) = some n ∧ rs = [Reg.ING_CAN_STATUS m])) →
    s.Quiet → (s.strm n).frame = some f → f.broken = false → f.seen + 1 < tMaxUnits (s.strm n).entry →
    a = (s.strm n).bufAddr + f.seen * tUnitStride (s.strm n).entry → s.Mapped [(a, bs.length)] →
    Answers (exec c s) fun u =>
      u.Holds a bs ∧ s.BytesBut u [(a, bs.length)] ∧
      u.strm n = { s.strm n with frame := some { f with
        seen := f.seen + 1, units := f.units + 1, bytes := (f.bytes + payload) % 2 ^ 32
        digest := if f.digested then (f.digest + rowHash f.seen row) % 2 ^ 64 else 0 } } ∧
      (∀ m, m ≠ n → u.strm m = s.strm m) ∧ (rs = [] → u.freeCtr = s.freeCtr) ∧
      s.Frame u { s with mem := u.mem, links := u.links, ingest := { s.ingest with streams := u.ingest.streams }, freeCtr := u.freeCtr
                         regs := u.regs, host := u.host }
        (Reg.ING_BUF_STATUS :: rs))

/-- TX_DESCRIPTOR_SEND, TX_COMPLETE, CAN_RECOVER, CAN_BUS_OFF_RECOVERY, CAN_BUS_ERROR, ETHERNET_LINK_CHANGE: rings
and bus states. With memory in order: a submitted descriptor that keeps R311 is sent, its bytes going out in order;
one that breaks R311 in mapped memory is written back with done and err and not sent. Completion writes the
descriptor back with done, the time where asked, adds 1 to the done counter and goes on to the next, a CAN message
sent lowering the transmit count; one received lowers a receive count of 1 to 127, and one of no stream is counted.
recover begins a controller's bus-off recovery only in bus-off; its end returns it to error-active with both counts
0. A bus error sets the counts and the state they imply, entering bus-off sets the flag. A link change shows in
ING_ETHm_STAT. (R311, R312, R326) -/
def Obligations.TransmitAndBusState : Prop :=
  (∀ (s : State) (t : Fin 4) (i a d : Nat), s.txPort t = true → s.Quiet → s.bit (Reg.ING_TX_CFG t) 31 = true →
    (s.txRing t).sending = none → i = (s.txRing t).next → i < (s.ctr (s.txSubmit t)).v → a = s.txAddr t i → s.Mapped [(a, 32)] →
    d = s.readNat a 32 →
    Answers (exec (.txDescriptorSend t) s) fun u =>
      (s.txDescOk t d = true →
        u.ingest.txOut = s.ingest.txOut ++ [(t.val, s.readBytes (nfld d 63 0) (nfld d 77 64))] ∧
        u.txRing t = { next := i, sending := some i } ∧ (∀ r, r ≠ t.val → u.txRing r = s.txRing r) ∧
        s.Frame u { s with ingest := { s.ingest with tx := u.ingest.tx, txOut := u.ingest.txOut }, host := u.host } []) ∧
      (s.txDescOk t d = false → s.Mapped [(nfld d 63 0, nfld d 77 64)] →
        u.Holds a (toBytes 32 (nset (nset d 96 96 1) 97 97 1)) ∧ s.BytesBut u [(a, 32)] ∧ u.txRing t = { next := i + 1 } ∧
        u.ingest.txOut = s.ingest.txOut ∧ s.RegsBut u (addRegs ++ s.latchRegs))) ∧
  (∀ (s : State) (t : Fin 4) (ok : Bool) (age i a d : Nat), s.mainUp = true → s.Quiet → s.sotValid = true → s.frozen = false →
    (s.txRing t).sending = some i → a = s.txAddr t i → s.Mapped [(a, 32)] → d = s.readNat a 32 → (ok = true ∨ t.val < 2) →
    Answers (exec (.txComplete t ok age) s) fun u =>
      (d.testBit 80 = false → u.Holds a (toBytes 32 (nset (nset d 96 96 1) 97 97 0))) ∧
      (d.testBit 80 = true → u.Holds a (toBytes 32 (nset (nset (nset d 96 96 1) 97 97 0) 191 128
        (s.before (age - (if t.val < 2 then s.fld (Reg.ING_ETH_CFG t) 23 16 else 0)))))) ∧
      s.BytesBut u [(a, 32)] ∧ u.txRing t = { next := i + 1 } ∧
      (u.ctr (s.txDone t)).v = min ctrMax ((s.ctr (s.txDone t)).v + 1) ∧
      (2 ≤ t.val → s.fld (Reg.ING_CAN_STATUS (t.val - 2)) 1 0 ≠ 2 →
        u.fld (Reg.ING_CAN_STATUS (t.val - 2)) 15 8 = s.fld (Reg.ING_CAN_STATUS (t.val - 2)) 15 8 - 1) ∧
      s.Frame u { s with mem := u.mem, links := u.links, ingest := { s.ingest with tx := u.ingest.tx }, sched := { s.sched with ctxs := u.sched.ctxs }
                         sync := { s.sync with ctrs := u.sync.ctrs }, avs := u.avs, regs := u.regs, host := u.host }
        (if t.val < 2 then addRegs else Reg.ING_CAN_STATUS (t.val - 2) :: addRegs)) ∧
  (∀ (s : State) (c : Fin 2) (id : BitVec 29) (ide fdf brs rtr esi lost ue : Bool) (dlc : BitVec 4) (data : List Byte) (age rec : Nat)
      (kib : Fin 2049), s.srcLive 2 c = true → s.fld (Reg.ING_CAN_STATUS c) 1 0 ≠ 2 → (fdf = false ∨ s.bit (Reg.ING_CAN_CTRL c) 2 = true) →
    rec = s.fld (Reg.ING_CAN_STATUS c) 23 16 →
    s.packetStream? 2 c (fun e => canMatches e (if ide then id.toNat else id.toNat % 2 ^ 11) ide) = none →
    Answers (exec (.canMessageRx c id ide fdf brs rtr esi dlc data age kib lost ue) s) fun u =>
      (u.reg (Reg.ING_CAN_UNM c)).toNat = min 0xFFFFFFFF ((s.reg (Reg.ING_CAN_UNM c)).toNat + 1) ∧
      (rec ≤ 127 → u.fld (Reg.ING_CAN_STATUS c) 23 16 = rec - 1) ∧
      (127 < rec → 119 ≤ u.fld (Reg.ING_CAN_STATUS c) 23 16 ∧ u.fld (Reg.ING_CAN_STATUS c) 23 16 ≤ 127) ∧
      (s.fld (Reg.ING_CAN_STATUS c) 15 8 ≤ 127 → u.fld (Reg.ING_CAN_STATUS c) 1 0 = 0) ∧
      s.Frame u { s with freeCtr := u.freeCtr, regs := u.regs, host := u.host }
        [Reg.ING_BUF_STATUS, Reg.ING_CAN_STATUS c, Reg.ING_CAN_UNM c]) ∧
  (∀ (s : State) (c : Fin 2), s.takes (Reg.ING_CAN_CTRL c) = true →
    Answers (exec (.canRecover c) s) fun u =>
      (s.fld (Reg.ING_CAN_STATUS c) 1 0 = 2 → c.val ∈ u.ingest.canRecovering) ∧
      (s.fld (Reg.ING_CAN_STATUS c) 1 0 ≠ 2 → u.ingest = s.ingest) ∧
      s.Frame u { s with ingest := { s.ingest with canRecovering := u.ingest.canRecovering }, host := u.host } []) ∧
  (∀ (s : State) (c : Fin 2), s.mainUp = true → c.val ∈ s.ingest.canRecovering →
    Answers (exec (.canBusOffRecovery c) s) fun u =>
      u.fld (Reg.ING_CAN_STATUS c) 1 0 = 0 ∧ u.fld (Reg.ING_CAN_STATUS c) 15 8 = 0 ∧ u.fld (Reg.ING_CAN_STATUS c) 23 16 = 0 ∧
      u.bit (Reg.ING_CAN_STATUS c) 24 = s.bit (Reg.ING_CAN_STATUS c) 24 ∧ c.val ∉ u.ingest.canRecovering ∧
      s.Frame u { s with ingest := { s.ingest with canRecovering := u.ingest.canRecovering }, regs := u.regs, host := u.host }
        [Reg.ING_CAN_STATUS c]) ∧
  (∀ (s : State) (c : Fin 2) (tec rec : Fin 257), s.srcLive 2 c = true → s.fld (Reg.ING_CAN_STATUS c) 1 0 ≠ 2 →
    Answers (exec (.canBusError c tec rec) s) fun u =>
      u.fld (Reg.ING_CAN_STATUS c) 1 0 = (if tec.val = 256 then 2 else if 127 < tec.val ∨ 127 < rec.val then 1 else 0) ∧
      u.fld (Reg.ING_CAN_STATUS c) 15 8 = min tec.val 255 ∧ u.fld (Reg.ING_CAN_STATUS c) 23 16 = min rec.val 255 ∧
      u.bit (Reg.ING_CAN_STATUS c) 24 = (decide (tec.val = 256) || s.bit (Reg.ING_CAN_STATUS c) 24) ∧
      (tec.val = 256 → s.bit (Reg.ING_CAN_CTRL c) 3 = true → c.val ∈ u.ingest.canRecovering) ∧
      s.Frame u { s with ingest := { s.ingest with canRecovering := u.ingest.canRecovering }, regs := u.regs, host := u.host }
        [Reg.ING_CAN_STATUS c]) ∧
  (∀ (s : State) (m : Fin 2) (up : Bool) (rate : BitVec 2), s.mainUp = true →
    Answers (exec (.ethernetLinkChange m up rate) s) fun u =>
      u.bit (Reg.ING_ETH_STAT m) 0 = up ∧ u.fld (Reg.ING_ETH_STAT m) 2 1 = rate.toNat ∧ s.OnlyRegs u [Reg.ING_ETH_STAT m])

/-- TIME_STEP, OFFSET_COMMIT, TIMEBASE_CYCLE, TSI_EDGE, TSI_POP, PAIR_CAPTURE: the time, its corrections and what
captures it. A step, where none has been taken and the nanoseconds are below 10^9, sets seconds and nanoseconds with
the fraction and remainder 0; else it is refused. An offset replaces the remainder, and beyond the limit sets
diverged. A cycle adds exactly 10 ns on the oscillator, on the PLL 2 ns with rate and slew, which leaves the
remainder; it carries at 10^9 ns. A taken edge whose level has held as long as the filter asks is queued with its
time, the filter's length before it was accepted (the synchroniser's delay is in the command's age: log entry 69),
or sets the overflow bit on a full FIFO; one that has not is not taken. pop shows and removes the head. A pair
capture shows RTC and timebase of one instant. (R314, R315, R316, R317, R318, R321, R450, R14) -/
def Obligations.TheTimebase : Prop :=
  (∀ (s : State) (p : Path) (val : Word) (ws : List Word) (sec : Nat), s.takes Reg.TIM_STEP_NS = true →
    ws = s.commitWords Reg.TIM_STEP_NS 3 p val → sec = (ws.getD 1 0#32).toNat + (ws.getD 2 0#32).toNat * 2 ^ 32 →
    Answers (exec (.timeStep p val) s) fun u =>
      (s.bit Reg.TIM_STATUS 1 = false → wfld (ws.getD 0 0#32) 29 0 < 10 ^ 9 →
        u.time = { s.time with sec := sec, ns := wfld (ws.getD 0 0#32) 29 0, frac := 0, rem := 0, ko := u.time.ko } ∧
        u.fld Reg.TIM_STEP_NS 29 0 = wfld (ws.getD 0 0#32) 29 0 ∧ u.fld Reg.TIM_STEP_NS 31 30 = s.fld Reg.TIM_STEP_NS 31 30 ∧
        u.bit Reg.TIM_STATUS 1 = true ∧ u.bit Reg.TIM_STATUS 2 = s.bit Reg.TIM_STATUS 2 ∧
        (∀ i < 32, (s.kick i).armed = true → s.time.abs < (s.kick i).target → (s.kick i).target < u.time.abs → (u.kick i).lateNext = true)) ∧
      ((s.bit Reg.TIM_STATUS 1 = true ∨ 10 ^ 9 ≤ wfld (ws.getD 0 0#32) 29 0) → u.time = s.time ∧ u.bit Reg.TIM_STATUS 2 = true) ∧
      s.Frame u { s with time := u.time, wide := u.wide, regs := u.regs, host := u.host }
        [Reg.TIM_STEP_NS, Reg.TIM_STEP_SEC_LO, Reg.TIM_STEP_SEC_HI, Reg.TIM_STATUS]) ∧
  (∀ (s : State) (p : Path) (val : Word) (ws : List Word) (off : Int), s.takes Reg.TIM_OFFSET_LO = true →
    ws = s.commitWords Reg.TIM_OFFSET_LO 2 p val → off = sgn 64 ((ws.getD 0 0#32).toNat + (ws.getD 1 0#32).toNat * 2 ^ 32) →
    Answers (exec (.offsetCommit p val) s) fun u =>
      u.time = { s.time with rem := off * 2 ^ 32 } ∧
      u.bit Reg.TIM_STATUS 3 = (decide ((s.reg Reg.TIM_DIV_LIM).toNat < off.natAbs) || s.bit Reg.TIM_STATUS 3) ∧
      s.Frame u { s with time := u.time, wide := u.wide, regs := u.regs, host := u.host }
        [Reg.TIM_OFFSET_LO, Reg.TIM_OFFSET_HI, Reg.TIM_STATUS]) ∧
  (∀ (s : State) (d : Nat) (wrap : Nat), s.mainUp = true → s.time.counting = true → s.domHeld 17 = false →
    d = (if s.tbPll then (2 * 2 ^ 32 + s.rateAdj + s.slewNow).toNat else 10 * 2 ^ 32) → wrap = 2 ^ 64 * 10 ^ 9 * 2 ^ 32 →
    Answers (exec .timebaseCycle s) fun u =>
      ((u.time.sec * 10 ^ 9 + u.time.ns) * 2 ^ 32 + u.time.frac) % wrap = ((s.time.sec * 10 ^ 9 + s.time.ns) * 2 ^ 32 + s.time.frac + d) % wrap ∧
      u.time.ns < 10 ^ 9 ∧ u.time.frac < 2 ^ 32 ∧ u.time.rem = (if s.tbPll then s.time.rem - s.slewNow else s.time.rem) ∧
      s.Frame u { s with time := { s.time with sec := u.time.sec, ns := u.time.ns, frac := u.time.frac, rem := u.time.rem }, host := u.host } []) ∧
  (∀ (s : State) (i : Fin 16) (level : Bool) (held age : Nat), s.mainUp = true → s.time.counting = true →
    edgeTaken (s.fld (Reg.TIM_TSI_CFG i) 1 0) level = true → s.fld (Reg.TIM_TSI_CFG i) 15 8 ≤ held →
    Answers (exec (.tsiEdge i ⟨level, held⟩ age) s) fun u =>
      ((s.tsiFifo i).length < 8 → u.tsiFifo i = s.tsiFifo i ++
          [{ time := s.before (age + s.fld (Reg.TIM_TSI_CFG i) 15 8 * (if s.tbPll then 2 else 10)), level := level }] ∧
        u.reg Reg.TIM_TSI_INFO = s.reg Reg.TIM_TSI_INFO) ∧
      (8 ≤ (s.tsiFifo i).length → u.tsiFifo i = s.tsiFifo i ∧ u.bit Reg.TIM_TSI_INFO (16 + i.val) = true) ∧
      (∀ j, j ≠ i.val → u.tsiFifo j = s.tsiFifo j) ∧
      (s.bit (Reg.TIM_TSI_CFG i) 31 = false → u.sync = s.sync) ∧
      (s.bit (Reg.TIM_TSI_CFG i) 31 = true → s.sotValid = true → s.frozen = false →
        (u.ctr (s.fld (Reg.TIM_TSI_CFG i) 27 16)).v = min ctrMax ((s.ctr (s.fld (Reg.TIM_TSI_CFG i) 27 16)).v + 1)) ∧
      s.Frame u { s with time := { s.time with tsi := u.time.tsi }, sched := { s.sched with ctxs := u.sched.ctxs }, sync := u.sync
                         avs := u.avs, regs := u.regs, host := u.host } (Reg.TIM_TSI_INFO :: addRegs)) ∧
  (∀ (s : State) (i : Fin 16) (level : Bool) (held age : Nat), held < s.fld (Reg.TIM_TSI_CFG i) 15 8 →
    Answers (exec (.tsiEdge i ⟨level, held⟩ age) s) fun u => s.OnlyRegs u []) ∧
  (∀ (s : State) (i : Fin 16), s.takes Reg.TIM_TSI_SEL = true →
    Answers (exec (.tsiPop i) s) fun u =>
      u.reg Reg.TIM_TSI_SEL = BitVec.ofNat 32 i.val ∧ u.fld Reg.TIM_TSI_INFO 31 16 = s.fld Reg.TIM_TSI_INFO 31 16 ∧
      (s.tsiFifo i = [] → u.fld Reg.TIM_TSI_INFO 11 0 = 0 ∧ u.time = s.time) ∧
      (∀ e t, s.tsiFifo i = e :: t → u.tsiFifo i = t ∧ u.reg64 Reg.TIM_TSI_LO = e.time % 2 ^ 64 ∧ u.bit Reg.TIM_TSI_INFO 0 = true ∧
        u.bit Reg.TIM_TSI_INFO 1 = e.level ∧ u.fld Reg.TIM_TSI_INFO 11 8 = t.length % 16) ∧
      s.Frame u { s with time := { s.time with tsi := u.time.tsi }, regs := u.regs, host := u.host }
        [Reg.TIM_TSI_SEL, Reg.TIM_TSI_LO, Reg.TIM_TSI_HI, Reg.TIM_TSI_INFO]) ∧
  (∀ (s : State), s.hAnswers = true →
    Answers (exec .pairCapture s) fun u =>
      u.reg64 Reg.CLK_PAIR_RTC_LO = s.rtc % 2 ^ 64 ∧ u.reg64 Reg.CLK_PAIR_TB_LO = s.now % 2 ^ 64 ∧
      s.OnlyRegs u [Reg.CLK_PAIR_RTC_LO, Reg.CLK_PAIR_RTC_HI, Reg.CLK_PAIR_TB_LO, Reg.CLK_PAIR_TB_HI])

/-- KICKOFF_ARM, KICKOFF_DISARM, KICKOFF_FIRE, TRIGGER_PULSE_END, PLL_ENABLE, PLL_LOCK, CLK_SRC_SWITCH,
PLL_LOSS_OF_LOCK. Arming takes the slot's target, late where it is not after the present; nanoseconds of 10^9 or
more set cfg_err instead. Disarming empties the slot, and where it is due it fires first. The lowest due slot fires:
its output is set, cleared or pulsed, its count rises, the time shows; without a period it disarms, with one its
next target lies after now, at most a period later where the old one had passed. A pulse ends low. Outside an
automatic resume: PLL enables take the bits that software has; a lock sets its bit, for PLL 2 with domain 10;
CLK_SRC puts a domain written 0 on the oscillator and one written 1 on its PLL where that is locked, else sets
cfg_err. Loss of a selected PLL's lock sets lol and presents source 0x04. (R322, R323, R324, R332, R443, R444) -/
def Obligations.KickoffsAndClocks : Prop :=
  (∀ (s : State) (n : Fin 32) (val : Word) (t : Nat), s.takes Reg.TIM_KO_EVT = true → val.getLsbD 0 = true →
    t = s.reg64 (Reg.TIM_KO_SEC_LO n) * 10 ^ 9 + s.fld (Reg.TIM_KO_NS n) 29 0 →
    Answers (exec (.kickoffArm n val) s) fun u =>
      (s.fld (Reg.TIM_KO_NS n) 29 0 < 10 ^ 9 →
        u.kick n = { armed := true, target := t, lateNext := decide (t ≤ s.time.abs) } ∧ (∀ i, i ≠ n.val → u.kick i = s.kick i) ∧
        u.reg (Reg.TIM_KO_CFG n) = val &&& 0xFF3FFFF7#32 ∧ u.fld (Reg.TIM_KO_STAT n) 31 8 = 0 ∧
        s.Frame u { s with time := { s.time with ko := u.time.ko }, regs := u.regs, host := u.host } [Reg.TIM_KO_CFG n, Reg.TIM_KO_STAT n]) ∧
      (10 ^ 9 ≤ s.fld (Reg.TIM_KO_NS n) 29 0 → u.bit Reg.TIM_STATUS 7 = true ∧ s.OnlyRegs u [Reg.TIM_STATUS])) ∧
  (∀ (s : State) (n : Fin 32) (val : Word), s.takes Reg.TIM_KO_EVT = true → val.getLsbD 0 = false →
    Answers (exec (.kickoffDisarm n val) s) fun u =>
      u.kick n = {} ∧ u.reg (Reg.TIM_KO_CFG n) = val &&& 0xFF3FFFF7#32 ∧
      (s.kickDue n = true → u.bit (Reg.TIM_KO_STAT n) 0 = true ∧
        u.fld (Reg.TIM_KO_STAT n) 31 16 = (s.fld (Reg.TIM_KO_STAT n) 31 16 + 1) % 65536 ∧
        u.reg64 (Reg.TIM_KO_FIRE_LO n) = s.now % 2 ^ 64) ∧
      (s.kickDue n = false → (∀ i, i ≠ n.val → u.kick i = s.kick i) ∧
        s.Frame u { s with time := { s.time with ko := u.time.ko }, regs := u.regs, host := u.host } [Reg.TIM_KO_CFG n])) ∧
  (∀ (s : State) (n : Fin 32) (o : Nat), s.mainUp = true → s.kickDue n = true → (∀ i < n.val, s.kickDue i = false) →
    o = s.fld (Reg.TIM_KO_CFG n) 7 4 →
    Answers (exec (.kickoffFire n) s) fun u =>
      (s.fld (Reg.TIM_KO_CFG n) 2 1 = 0 → u.time.trg = s.time.trg) ∧ (s.fld (Reg.TIM_KO_CFG n) 2 1 = 1 → u.trigger o = { level := true }) ∧
      (s.fld (Reg.TIM_KO_CFG n) 2 1 = 2 → u.trigger o = {}) ∧
      (s.fld (Reg.TIM_KO_CFG n) 2 1 = 3 → (u.trigger o).level = true ∧ (u.trigger o).pulseEnd ≠ none) ∧
      (∀ p, p ≠ o → u.trigger p = s.trigger p) ∧ (∀ i, i ≠ n.val → u.kick i = s.kick i) ∧
      u.bit (Reg.TIM_KO_STAT n) 0 = true ∧ u.fld (Reg.TIM_KO_STAT n) 31 16 = (s.fld (Reg.TIM_KO_STAT n) 31 16 + 1) % 65536 ∧
      u.reg64 (Reg.TIM_KO_FIRE_LO n) = s.now % 2 ^ 64 ∧
      u.bit Reg.TIM_KO_EVT n = (s.bit (Reg.TIM_KO_CFG n) 9 || s.bit Reg.TIM_KO_EVT n) ∧
      ((s.reg (Reg.TIM_KO_PER n)).toNat = 0 → u.kick n = {} ∧ u.bit (Reg.TIM_KO_CFG n) 0 = false) ∧
      ((s.reg (Reg.TIM_KO_PER n)).toNat ≠ 0 → (u.kick n).armed = true ∧
        ((s.kick n).target ≤ s.time.abs → s.time.abs < (u.kick n).target ∧ (u.kick n).target ≤ s.time.abs + (s.reg (Reg.TIM_KO_PER n)).toNat)) ∧
      s.Frame u { s with time := { s.time with ko := u.time.ko, trg := u.time.trg }, sched := { s.sched with ctxs := u.sched.ctxs }
                         sync := u.sync, avs := u.avs, regs := u.regs, host := u.host }
        ([Reg.TIM_KO_EVT, Reg.TIM_KO_STAT n, Reg.TIM_KO_FIRE_LO n, Reg.TIM_KO_FIRE_HI n, Reg.TIM_KO_CFG n] ++ addRegs)) ∧
  (∀ (s : State) (o : Fin 16) (e : Nat), s.mainUp = true → (s.trigger o).pulseEnd = some e → e ≤ s.time.abs →
    Answers (exec (.triggerPulseEnd o) s) fun u =>
      u.trigger o = {} ∧ (∀ p, p ≠ o.val → u.trigger p = s.trigger p) ∧
      s.Frame u { s with time := { s.time with trg := u.time.trg }, host := u.host } []) ∧
  (∀ (s : State) (val : Word), s.hAnswers = true →
    (∀ n < 7, s.bit Reg.CLK_PLL_STATUS n = true → (if n = 2 ∨ n = 6 then s.bit Reg.CLK_PLL_CTRL n else val.getLsbD n) = true) →
    Answers (exec (.pllEnable val) s) fun u =>
      (∀ n < 7, u.bit Reg.CLK_PLL_CTRL n = (if n = 2 ∨ n = 6 then s.bit Reg.CLK_PLL_CTRL n else val.getLsbD n)) ∧
      s.OnlyRegs u [Reg.CLK_PLL_CTRL]) ∧
  (∀ (s : State) (n : Fin 7), s.mainUp = true → s.bit Reg.CLK_PLL_CTRL n = true → s.bit Reg.CLK_PLL_STATUS n = false →
    s.power.resuming = false →
    Answers (exec (.pllLock n true) s) fun u =>
      u.bit Reg.CLK_PLL_STATUS n = true ∧ (n.val = 2 → u.bit Reg.CLK_SRC 10 = true) ∧
      s.OnlyRegs u (if n.val = 2 then [Reg.CLK_PLL_STATUS, Reg.CLK_SRC] else [Reg.CLK_PLL_STATUS])) ∧
  (∀ (s : State) (val : Word), s.hAnswers = true →
    Answers (exec (.clkSrcSwitch val) s) fun u =>
      (∀ d < 23, u.bit Reg.CLK_SRC d =
        (if Nat.testBit srcMask d then val.getLsbD d && (s.bit Reg.CLK_SRC d || s.bit Reg.CLK_PLL_STATUS (domPll d))
         else s.bit Reg.CLK_SRC d)) ∧
      ((∃ d < 23, val.getLsbD d = true ∧ Nat.testBit srcMask d = true ∧ s.bit Reg.CLK_SRC d = false ∧
        s.bit Reg.CLK_PLL_STATUS (domPll d) = false) → u.bit Reg.CLK_PLL_STATUS 15 = true) ∧
      u.fld Reg.CLK_PLL_STATUS 14 0 = s.fld Reg.CLK_PLL_STATUS 14 0 ∧ s.OnlyRegs u [Reg.CLK_SRC, Reg.CLK_PLL_STATUS]) ∧
  (∀ (s : State) (n : Fin 7), s.mainUp = true → s.bit Reg.CLK_PLL_STATUS n = true →
    Answers (exec (.pllLossOfLock n) s) fun u =>
      u.bit Reg.CLK_PLL_STATUS n = false ∧
      (s.pllSelected n = true → u.bit Reg.CLK_PLL_STATUS (8 + n.val) = true ∧ u.safety = { s.safety with inbox := s.safety.inbox ++ [{ src := 4 }] }) ∧
      (s.pllSelected n = false → u.safety = s.safety) ∧
      s.Frame u { s with safety := u.safety, regs := u.regs, host := u.host } [Reg.CLK_PLL_STATUS])

/-- VIB_MODE_WRITE, VIB_SAMPLE, BIAS_CHECK, BLANK_EDGE, BLANK_HOLDOFF_END: samples in their rings, the bias, the
blank window. A mode write takes its implemented bits, a reserved code sets cfg_err, and one that changes rate or
mode restarts acquisition: indices 0, sample 0 to come; a change of mode turns a burst's excitation off, and where
the mode was 0 due times before now are dropped. A sample is stored at its index modulo 4,096 as the calibrated
code, or at full scale as the clamped one with ovr, with the gain, blank (also in the cycle in which the window
closes) and fault flags; the index rises by 1, other slots stay, and the first sample after a restart takes the RTC.
A bias reading is shown and classified, open from 20 V, short up to 1 V. An accepted BLANK level opens or closes the
window that MSR_STATUS.blank shows, and marks a sample of the cycle in which it opens; the end of its holdoff,
holdoff x 10 ms after the last active level, closes it. (R338, R339, R340, R342, R354, R355, R365) -/
def Obligations.VibrationAndBlanking : Prop :=
  (∀ (s : State) (val : Word), s.power.tileUp = true →
    Answers (exec (.vibModeWrite val) s) fun u =>
      u.reg Reg.MSR_VIB_MODE = val &&& 0x0000FF3F#32 ∧
      u.bit Reg.MSR_STATUS 2 = (decide (0xB ≤ wfld val 3 0) || wfld val 5 4 == 3 || s.bit Reg.MSR_STATUS 2) ∧
      (wfld (s.reg Reg.MSR_VIB_MODE) 5 0 = wfld val 5 0 → s.OnlyRegs u [Reg.MSR_VIB_MODE, Reg.MSR_STATUS]) ∧
      (wfld (s.reg Reg.MSR_VIB_MODE) 5 0 ≠ wfld val 5 0 → u.meas.vibFresh = true ∧
        (∀ v < 4, u.reg (Reg.MSR_VIB_WIDX v) = 0#32 ∧ u.vib v = { s.vib v with run := 0, xrLeft := 0 }) ∧
        u.meas.excited = (s.meas.excited && decide (wfld (s.reg Reg.MSR_VIB_MODE) 5 4 = wfld val 5 4)) ∧
        u.learn.since = (if s.vibMode = 0 ∧ (wfld val 5 4 = 1 ∨ wfld val 5 4 = 2) then (s.rtcTicks : Int) else s.learn.since) ∧
        s.Frame u { s with
          meas := { s.meas with vib := u.meas.vib, vibFresh := true, excited := u.meas.excited }
          learn := { s.learn with since := u.learn.since, burst := { s.learn.burst with first := [0, 0, 0, 0] } }
          regs := u.regs, host := u.host }
          ([Reg.MSR_VIB_MODE, Reg.MSR_STATUS] ++ (List.range 4).map Reg.MSR_VIB_WIDX))) ∧
  (∀ (s : State) (v : Fin 4) (raw : BitVec 24) (full ovr : Bool) (n : Nat) (code : Int), s.vibSampling = true → s.vibLive v = true →
    n = (s.reg (Reg.MSR_VIB_WIDX v)).toNat → ovr = (full || (calCode s.calImg (640 + 64 * v.val) (sgn 24 raw.toNat)).2) →
    code = (if ovr then (if sgn 24 raw.toNat < 0 then -8388607 else 8388607) else (calCode s.calImg (640 + 64 * v.val) (sgn 24 raw.toNat)).1) →
    Answers (exec (.vibSample v raw full) s) fun u =>
      let w := (u.vib v).ring.look 0#32 (n % 4096)
      sgn 24 w.toNat = code ∧ wfld w 25 24 = s.vibGain v ∧ w.getLsbD 28 = (s.blankOpen || s.meas.blankShut == some s.power.up) ∧ w.getLsbD 29 = ovr ∧
      w.getLsbD 30 = ((s.vib v).openNow || (s.vib v).shortNow) ∧
      (∀ j, j ≠ n % 4096 → (u.vib v).ring.look 0#32 j = (s.vib v).ring.look 0#32 j) ∧ (u.vib v).run = (s.vib v).run + 1 ∧
      (u.vib v).gain = s.vibGain v ∧ (u.vib v).tick = some s.power.up ∧ (∀ k, k ≠ v.val → u.vib k = s.vib k) ∧
      u.reg (Reg.MSR_VIB_WIDX v) = BitVec.ofNat 32 (n + 1) ∧ u.meas.vibFresh = false ∧
      (s.meas.vibFresh = true → u.reg64 Reg.MSR_VIB_TSTART_LO = s.rtc % 2 ^ 64) ∧
      (s.meas.vibFresh = false → u.reg64 Reg.MSR_VIB_TSTART_LO = s.reg64 Reg.MSR_VIB_TSTART_LO) ∧
      (ovr = true → u.bit (Reg.MSR_VIB_STAT v) 19 = true) ∧
      s.Frame u { s with meas := { s.meas with vib := u.meas.vib, vibFresh := false }, regs := u.regs, host := u.host }
        ([Reg.MSR_VIB_WIDX v, Reg.MSR_VIB_TSTART_LO, Reg.MSR_VIB_TSTART_HI] ++ if ovr then [Reg.MSR_VIB_STAT v] else [])) ∧
  (∀ (s : State) (v : Fin 4) (mv : BitVec 16), s.vibExcited v = true →
    Answers (exec (.biasCheck v mv) s) fun u =>
      u.vib v = { s.vib v with openNow := decide (20000 ≤ mv.toNat), shortNow := decide (mv.toNat ≤ 1000) } ∧
      u.fld (Reg.MSR_VIB_STAT v) 15 0 = mv.toNat ∧
      u.bit (Reg.MSR_VIB_STAT v) 16 = (decide (20000 ≤ mv.toNat) || s.bit (Reg.MSR_VIB_STAT v) 16) ∧
      u.bit (Reg.MSR_VIB_STAT v) 17 = (decide (mv.toNat ≤ 1000) || s.bit (Reg.MSR_VIB_STAT v) 17) ∧ (∀ k, k ≠ v.val → u.vib k = s.vib k) ∧
      s.Frame u { s with meas := { s.meas with vib := u.meas.vib }, regs := u.regs, host := u.host } [Reg.MSR_VIB_STAT v]) ∧
  (∀ (s : State) (level on hold : Bool), s.tileRuns = true →
    on = (s.bit Reg.MSR_BLANK_CFG 0 && (level == s.bit Reg.MSR_BLANK_CFG 1) || s.bit Reg.MSR_BLANK_CFG 2) →
    hold = (!on && (if s.meas.blankActive then s.fld Reg.MSR_BLANK_CFG 15 8 != 0 else s.meas.blankHold)) →
    Answers (exec (.blankEdge level) s) fun u =>
      u.bit Reg.MSR_STATUS 3 = (on || hold) ∧
      ((on && !s.blankOpen) = false → u.meas.vib = s.meas.vib) ∧
      ((on && !s.blankOpen) = true → ∀ v < 4,
        ((s.vib v).tick = some s.power.up →
          (u.vib v).ring.look 0#32 (((s.vib v).run - 1) % 4096) = (s.vib v).ring.look 0#32 (((s.vib v).run - 1) % 4096) ||| 0x10000000#32) ∧
        (∀ j, (s.vib v).tick ≠ some s.power.up ∨ j ≠ ((s.vib v).run - 1) % 4096 →
          (u.vib v).ring.look 0#32 j = (s.vib v).ring.look 0#32 j)) ∧
      s.Frame u { s with
        meas := { s.meas with blankBall := level, blankActive := on, blankHold := hold, vib := u.meas.vib
                              blankAt := if s.meas.blankActive && !on then s.power.up else s.meas.blankAt
                              blankShut := if s.blankOpen && !on && !hold then some s.power.up else s.meas.blankShut
                              prec := { s.meas.prec with blanked := s.meas.prec.blanked || (on || hold) && s.meas.prec.converting } }
        regs := u.regs, host := u.host } [Reg.MSR_STATUS]) ∧
  (∀ (s : State), s.tileRuns = true → s.meas.blankHold = true →
    Answers (exec .blankHoldoffEnd s) fun u =>
      (s.fld Reg.MSR_BLANK_CFG 15 8 * 163840 ≤ s.power.up - s.meas.blankAt → u.bit Reg.MSR_STATUS 3 = s.meas.blankActive ∧
        s.Frame u { s with meas := { s.meas with blankHold := false, blankShut := some s.power.up, prec := u.meas.prec }
                           regs := u.regs, host := u.host } [Reg.MSR_STATUS]) ∧
      (s.power.up - s.meas.blankAt < s.fld Reg.MSR_BLANK_CFG 15 8 * 163840 → s.OnlyRegs u []))

/-- The precision scan's steps, BURNOUT_TRIP, PULSE_EDGE, PULSE_RATE_TIMEOUT, RUN_DWELL_END. After discharge a slot
settles; after settle it converts, flagged open when the comparator is tripped. The main conversion of a 3-wire slot
is kept; any other conversion publishes its slot's value, code, flags and the next sequence number, valid. A trip
flags the slot open. A counted pulse adds 1 to its 64-bit count, and from the second on shows the period and the
rate it gives. No edge for the timeout makes the rate 0. An engine whose run has lasted its dwell starts or stops,
dated to the run's start; its record falls due, behind every earlier one and in the order of the type codes within
one cycle, and a checkpoint is written. (R344, R347, R348, R356, R357, R367, R374) -/
def Obligations.PrecisionAndPulses : Prop :=
  (∀ (s : State), s.precOn = true → s.meas.prec.phase = .discharge →
    Answers (exec .precisionDischargeEnd s) fun u =>
      s.Frame u { s with meas := { s.meas with prec := { s.meas.prec with phase := .settle } }, host := u.host } []) ∧
  (∀ (s : State), s.precOn = true → s.meas.prec.phase = .settle →
    Answers (exec .precisionSettleEnd s) fun u =>
      s.Frame u { s with
        meas := { s.meas with prec := { s.meas.prec with
          phase := .convert, main := none, opened := s.meas.prec.opened || s.meas.prec.tripped, blanked := s.blankOpen } }
        host := u.host } []) ∧
  (∀ (s : State) (on : Bool), s.precOn = true → s.meas.prec.cfg0.getLsbD 28 = true →
    (s.meas.prec.phase = .settle ∨ s.meas.prec.phase = .convert ∨ s.meas.prec.phase = .lead) →
    Answers (exec (.burnoutTrip on) s) fun u =>
      s.Frame u { s with meas := { s.meas with prec := { s.meas.prec with tripped := on, opened := s.meas.prec.opened || on } }, host := u.host } []) ∧
  (∀ (s : State) (raw : BitVec 24) (full : Bool) (p : Prec) (g : Nat) (c : Int × Bool) (o : PrecOut), s.precOn = true → p = s.meas.prec →
    p.slot < 16 → p.phase = .convert → g = (p.slots.look {} p.slot).gain → c = calCode s.calImg (128 + 64 * g) (sgn 24 raw.toNat) →
    o = s.precValue p.cfg0 p.cfg1 g c.1 0 →
    Answers (exec (.precisionConversionEnd raw full) s) fun u =>
      (threeWire p.cfg0 = true →
        s.Frame u { s with meas := { s.meas with prec := { p with phase := .lead, main := some (c.1, full || c.2) } }, host := u.host } []) ∧
      (threeWire p.cfg0 = false →
        u.reg (Reg.MSR_PCH_VAL p.slot) = BitVec.ofNat 32 (uns 32 o.value) ∧
        sgn 24 (u.reg (Reg.MSR_PCH_RAW p.slot)).toNat = c.1 ∧ u.bit (Reg.MSR_PCH_RAW p.slot) 27 = p.opened ∧
        u.bit (Reg.MSR_PCH_RAW p.slot) 28 = (full || c.2) ∧ u.bit (Reg.MSR_PCH_RAW p.slot) 30 = p.blanked ∧
        u.bit (Reg.MSR_PCH_RAW p.slot) 31 = o.range ∧
        u.fld (Reg.MSR_PCH_SEQ p.slot) 23 0 = (s.fld (Reg.MSR_PCH_SEQ p.slot) 23 0 + 1) % 2 ^ 24 ∧
        u.bit (Reg.MSR_PCH_SEQ p.slot) 24 = o.cjc ∧ u.bit (Reg.MSR_PCH_SEQ p.slot) 25 = true ∧
        s.Frame u { s with meas := { s.meas with prec := u.meas.prec, switches := u.meas.switches }, regs := u.regs, host := u.host }
          [Reg.MSR_PCH_VAL p.slot, Reg.MSR_PCH_RAW p.slot, Reg.MSR_PCH_SEQ p.slot, Reg.MSR_SCAN_STAT, Reg.MSR_STATUS])) ∧
  (∀ (s : State) (p : Fin 4) (rising : Bool), s.tileRuns = true → s.edgeCounts p rising = true → (s.pulse p).last ≠ some s.power.up →
    Answers (exec (.pulseEdge p rising) s) fun u =>
      u.reg64 (Reg.MSR_PLS_CNT_LO p) = (s.reg64 (Reg.MSR_PLS_CNT_LO p) + 1) % 2 ^ 64 ∧
      u.pulse p = { last := some s.power.up, sinceCal := (s.pulse p).sinceCal + 1 } ∧ (∀ k, k ≠ p.val → u.pulse k = s.pulse k) ∧
      ((s.pulse p).last = none →
        u.reg (Reg.MSR_PLS_PER p) = s.reg (Reg.MSR_PLS_PER p) ∧ u.reg (Reg.MSR_PLS_RATE p) = s.reg (Reg.MSR_PLS_RATE p)) ∧
      (∀ t, (s.pulse p).last = some t → (u.reg (Reg.MSR_PLS_PER p)).toNat = min (s.power.up - t) (2 ^ 32 - 1) ∧
        u.reg (Reg.MSR_PLS_RATE p) = BitVec.ofNat 32 (s.pulseRate p (min (s.power.up - t) (2 ^ 32 - 1)))) ∧
      s.Frame u { s with meas := { s.meas with pulses := u.meas.pulses, switches := u.meas.switches, meters := u.meas.meters }, regs := u.regs, host := u.host }
        [Reg.MSR_PLS_CNT_LO p, Reg.MSR_PLS_CNT_HI p, Reg.MSR_PLS_PER p, Reg.MSR_PLS_RATE p]) ∧
  (∀ (s : State) (p : Fin 4) (t : Nat), s.tileRuns = true → (s.pulse p).last = some t → s.rateTimeout p ≤ s.power.up - t →
    Answers (exec (.pulseRateTimeout p) s) fun u =>
      u.reg (Reg.MSR_PLS_RATE p) = 0#32 ∧
      s.Frame u { s with meas := { s.meas with switches := u.meas.switches, meters := u.meas.meters }, regs := u.regs, host := u.host }
        [Reg.MSR_PLS_RATE p]) ∧
  (∀ (s : State) (e : Fin 2) (on : Bool) (start : Nat), s.tileRuns = true → (s.meter e).run = some (on, start) →
    s.runDwell * tickHz ≤ s.power.up - start →
    Answers (exec (.runDwellEnd e) s) fun u =>
      u.meter e = (if on then { s.meter e with running := true, start := start, run := none }
        else { s.meter e with running := false, runMs := (s.meter e).runMs + (start - (s.meter e).start) / tickMs, run := none }) ∧
      (∀ k, k ≠ e.val → u.meter k = s.meter k) ∧
      u.meas.met.due = dueInsert { typ := if on then 2 else 3, eng := decide (e.val = 1), time := s.power.up } s.meas.met.due ∧
      u.meas.met.cseq = s.meas.met.cseq + 1 ∧ u.meas.met.lastCkpt = s.power.up ∧
      s.Frame u { s with meas := { s.meas with meters := u.meas.meters, switches := u.meas.switches, met := u.meas.met }, host := u.host } [])

/-- SWITCH_DWELL_TICK, SWITCH_COMMIT, SWITCH_ACK, SWO_OVERCURRENT, SWO_RETRY, CFG_SAVE, CFG_SAVE_DONE. A dwell tick
changes the state of each evaluated switch whose run has met its dwell, latching an alarm where the switch latches.
A commit takes all four registers at once, keeps the state of a switch that is evaluated and discards the run. An
acknowledgement clears the latches it names, but for one that sets in the same cycle. An overcurrent releases the
output, which then does not conduct; a retry ends the release. save_cfg takes every RW MSR register for the image
and shows busy, or sets cfg_err while busy; when it is written the image is the newest valid one, with the next
sequence number. (R335, R358, R359, R360, R554) -/
def Obligations.ThresholdSwitchesAndImage : Prop :=
  (∀ (s : State), s.swOn = true →
    Answers (exec .switchDwellTick s) fun u =>
      (∀ k < 8, u.sw k = if (s.sw k).live then (s.sw k).tick s.power.up else s.sw k) ∧
      (∀ k < 8, ∀ t start, (s.sw k).live = true → (s.sw k).run = some (t, start) →
        (s.sw k).dwell.toNat % 65536 * tickMs ≤ s.power.up - start →
        (u.sw k).alarm = t ∧ (u.sw k).run = none ∧ (u.sw k).latched = ((s.sw k).latched || t && (s.sw k).cfg.getLsbD 9) ∧
        ((t && (s.sw k).cfg.getLsbD 9) = true → (u.sw k).latchAt = some s.power.up)) ∧
      s.Frame u { s with meas := { s.meas with switches := u.meas.switches }, host := u.host } []) ∧
  (∀ (s : State) (k : Fin 8) (val : Word) (y : Switch), s.power.tileUp = true →
    y = { s.sw k with cfg := val &&& 0xFFF#32, set := s.reg (Reg.MSR_SW_SET k), rst := s.reg (Reg.MSR_SW_RST k)
                      dwell := s.reg (Reg.MSR_SW_DWELL k), run := none, committed := true } →
    Answers (exec (.switchCommit k val) s) fun u =>
      u.sw k = { y with alarm := y.alarm && y.live } ∧ (∀ j, j ≠ k.val → u.sw j = s.sw j) ∧ u.reg (Reg.MSR_SW_CFG k) = val &&& 0xFFF#32 ∧
      s.Frame u { s with meas := { s.meas with switches := u.meas.switches }, regs := u.regs, host := u.host } [Reg.MSR_SW_CFG k]) ∧
  (∀ (s : State) (mask : BitVec 8), s.power.tileUp = true →
    Answers (exec (.switchAck mask) s) fun u =>
      (∀ k < 8, u.sw k =
        if mask.getLsbD k ∧ (s.sw k).latchAt ≠ some s.power.up then { s.sw k with latched := false } else s.sw k) ∧
      s.Frame u { s with meas := { s.meas with switches := u.meas.switches }, host := u.host } []) ∧
  (∀ (s : State) (k : Fin 8) (c : Instr) (b : Bool), s.tileRuns = true → (c, b) ∈ [(Instr.swoOvercurrent k, true), (.swoRetry k, false)] →
    Answers (exec c s) fun u =>
      u.sw k = { s.sw k with released := b } ∧ (b = true → u.swConducts k = false) ∧ (∀ j, j ≠ k.val → u.sw j = s.sw j) ∧
      s.Frame u { s with meas := { s.meas with switches := u.meas.switches }, host := u.host } []) ∧
  (∀ (s : State), s.power.tileUp = true →
    Answers (exec .cfgSave s) fun u =>
      (s.bit Reg.MSR_STATUS 1 = true → u.bit Reg.MSR_STATUS 2 = true ∧ s.OnlyRegs u [Reg.MSR_STATUS]) ∧
      (s.bit Reg.MSR_STATUS 1 = false → u.bit Reg.MSR_STATUS 1 = true ∧
        s.Frame u { s with meas := { s.meas with met := { s.meas.met with saving := some (msrRw.map fun a => (a, s.reg a)) } }
                           regs := u.regs, host := u.host } [Reg.MSR_STATUS])) ∧
  (∀ (s : State) (regs : List (Nat × Word)), s.power.tileUp = true → s.meas.met.saving = some regs →
    Answers (exec .cfgSaveDone s) fun u =>
      u.meas.met.image = some ((match s.meas.met.image with | some x => x.1 + 1 | none => 0), regs) ∧ u.meas.met.saving = none ∧
      u.bit Reg.MSR_STATUS 1 = false ∧
      s.Frame u { s with meas := { s.meas with met := { s.meas.met with saving := none, img0 := u.meas.met.img0, img1 := u.meas.met.img1 } }
                         regs := u.regs, host := u.host } [Reg.MSR_STATUS])

/-- The calibration session, the metrology log's commands and the checkpoint ring's. CAL_EN opens a session. An
image that fails a check is rejected: the calibration in force stays and a CAL_REJECT record falls due with the
code; one that passes and is written comes into force with the next seal counter, the fuel totals become the bases
and the counts begin anew. PERIODIC falls due. A record that is written and reads back stands at the write position
and LOG_HEAD shows it; one that fails is tried at the next position, and is kept after 8. The selections search and
their ends capture the record asked for, or show there is none. Every 60 s the state goes to the next checkpoint
slot. (R361, R362, R363, R366, R367, R368, R369, R370) -/
def Obligations.SealLogAndCheckpoints : Prop :=
  (∀ (s : State), s.tileRuns = true → s.meas.met.session = false →
    Answers (exec .calSessionOpen s) fun u =>
      u.bit Reg.MSR_SEAL 1 = true ∧
      s.Frame u { s with meas := { s.meas with met := { s.meas.met with session := true } }, regs := u.regs, host := u.host }
        ([Reg.MSR_SEAL, Reg.MSR_CAL_CRC, Reg.MSR_DEVID_LO, Reg.MSR_DEVID_HI] ++ (List.range 64).map Reg.MSR_CAL_WIN)) ∧
  (∀ (s : State) (ack : Bool) (img : BitVec 2048) (okA okB : Bool) (code : Nat), s.tileRuns = true → s.meas.met.session = true →
    code = s.meas.met.calCheck ack img.toNat →
    Answers (exec (.calImageRead ack img okA okB) s) fun u =>
      u.meas.met.session = false ∧
      (code ≠ 1 → u.meas.met.cal = s.meas.met.cal ∧ u.meas.met.due = dueInsert { typ := 5, detail := code, time := s.power.up } s.meas.met.due ∧
        u.fld Reg.MSR_CAL_STATUS 7 0 = code ∧ u.meas.meters = s.meas.meters) ∧
      (code = 1 → okA = true → okB = true → u.meas.met.cal = some (img.toNat, s.meas.met.sealCtr + 1) ∧
        u.meas.met.calA = u.meas.met.cal ∧ u.meas.met.calB = u.meas.met.cal ∧ u.meas.met.fuse = (s.meas.met.fuse || img.getLsbD 48) ∧
        (∀ e < 2, (u.meter e).base = s.netFuel e) ∧ (∀ p < 4, (u.pulse p).sinceCal = 0) ∧
        u.meas.met.due = dueInsert { typ := 4, aux := s.meas.met.calCrc, time := s.power.up } s.meas.met.due ∧ u.fld Reg.MSR_CAL_STATUS 7 0 = 1) ∧
      (code = 1 → (okA = false ∨ okB = false) → u.meas.met.cal = s.meas.met.cal ∧ u.fld Reg.MSR_CAL_STATUS 7 0 = 9 ∧
        u.meas.met.due = dueInsert { typ := 5, detail := 9, time := s.power.up } s.meas.met.due) ∧
      s.Frame u { s with meas := { s.meas with met := u.meas.met, meters := u.meas.meters, pulses := u.meas.pulses, switches := u.meas.switches }, regs := u.regs, host := u.host }
        ([Reg.MSR_CAL_STATUS, Reg.MSR_SEAL, Reg.MSR_CAL_CRC, Reg.MSR_DEVID_LO, Reg.MSR_DEVID_HI] ++ (List.range 64).map Reg.MSR_CAL_WIN)) ∧
  (∀ (s : State), s.tileRuns = true → nfld s.calImg 1175 1160 * 60 * tickHz ≤ s.power.up - s.meas.met.lastPeriodic →
    Answers (exec .logPeriodic s) fun u =>
      s.Frame u { s with meas := { s.meas with met := { s.meas.met with
        lastPeriodic := s.power.up, due := dueInsert { typ := 1, time := s.power.up } s.meas.met.due } }, host := u.host } []) ∧
  (∀ (s : State) (ok : Bool) (d : LogDue) (t : List LogDue) (r : Nat), s.tileRuns = true → s.meas.met.cur = none → s.meas.met.kept = none →
    s.meas.met.due = d :: t → r = s.logRecord d →
    Answers (exec (.logRecordWrite ok) s) fun u =>
      u.meas.met.log.look 0 (s.meas.met.wpos % 7168) = (if ok then r else 0) ∧ u.meas.met.wpos = s.meas.met.wpos + 1 ∧
      u.meas.met.seq = s.meas.met.seq + 1 ∧ u.meas.met.due = t ∧ (ok = true → u.reg Reg.MSR_LOG_HEAD = BitVec.ofNat 32 (nfld r 31 0)) ∧
      u.meas.met.cur = (if ok then none else some (r, 1)) ∧
      (∀ k, k ≠ s.meas.met.wpos % 7168 → u.meas.met.log.look 0 k = s.meas.met.log.look 0 k) ∧
      s.Frame u { s with meas := { s.meas with met := u.meas.met }, regs := u.regs, host := u.host } [Reg.MSR_LOG_HEAD]) ∧
  (∀ (s : State) (r : Nat), s.tileRuns = true → s.meas.met.cur = some (r, 7) →
    Answers (exec (.logRecordWrite false) s) fun u =>
      u.meas.met.cur = none ∧ u.meas.met.kept = some r ∧ u.bit Reg.MSR_STATUS 4 = true ∧
      s.Frame u { s with meas := { s.meas with met := u.meas.met }, regs := u.regs, host := u.host } [Reg.MSR_STATUS]) ∧
  (∀ (s : State) (seq : Word), s.power.tileUp = true →
    Answers (exec (.logSelect seq) s) fun u =>
      u.reg Reg.MSR_LOG_SEL = seq ∧ u.bit Reg.MSR_LOG_CAPST 1 = true ∧
      s.Frame u { s with meas := { s.meas with met := { s.meas.met with search := some seq.toNat } }, regs := u.regs, host := u.host }
        [Reg.MSR_LOG_SEL, Reg.MSR_LOG_CAPST]) ∧
  (∀ (s : State) (n : Nat), s.tileRuns = true → s.meas.met.search = some n →
    Answers (exec .logSearchDone s) fun u =>
      (∀ r, n ≤ (s.reg Reg.MSR_LOG_HEAD).toNat → s.meas.met.find n = some r →
        (∀ j < 16, u.reg (Reg.MSR_LOG_DATA j) = BitVec.ofNat 32 (r / 2 ^ (32 * j))) ∧ u.fld Reg.MSR_LOG_CAPST 1 0 = 1) ∧
      (s.meas.met.find n = none → u.fld Reg.MSR_LOG_CAPST 1 0 = 0) ∧
      s.Frame u { s with meas := { s.meas with met := { s.meas.met with search := none } }, regs := u.regs, host := u.host }
        (Reg.MSR_LOG_CAPST :: (List.range 16).map Reg.MSR_LOG_DATA)) ∧
  (∀ (s : State), s.tileRuns = true → 60 * tickHz ≤ s.power.up - s.meas.met.lastCkpt →
    Answers (exec .checkpointTimer s) fun u =>
      u.meas.met.ckpt.look 0 (s.meas.met.cseq % 768) = s.ckptRecord ∧
      s.Frame u { s with meas := { s.meas with met := { s.meas.met with
        ckpt := u.meas.met.ckpt, cseq := s.meas.met.cseq + 1, lastCkpt := s.power.up } }, host := u.host } []) ∧
  (∀ (s : State), s.power.tileUp = true →
    Answers (exec .checkpointSelect s) fun u =>
      u.bit Reg.MSR_CKPT_CAPST 1 = true ∧
      s.Frame u { s with meas := { s.meas with met := { s.meas.met with ckptSearch := true } }, regs := u.regs, host := u.host }
        [Reg.MSR_CKPT_CAPST]) ∧
  (∀ (s : State), s.tileRuns = true → s.meas.met.ckptSearch = true →
    Answers (exec .checkpointSearchDone s) fun u =>
      (∀ e, s.meas.met.newestCkpt = some e → (∀ j < 16, u.reg (Reg.MSR_CKPT_DATA j) = BitVec.ofNat 32 (e.2 / 2 ^ (32 * j))) ∧
        u.reg Reg.MSR_CKPT_CAPST = BitVec.ofNat 32 (1 + e.1 * 2 ^ 16)) ∧
      (s.meas.met.newestCkpt = none → u.fld Reg.MSR_CKPT_CAPST 1 0 = 0) ∧
      s.Frame u { s with meas := { s.meas with met := { s.meas.met with ckptSearch := false } }, regs := u.regs, host := u.host }
        (Reg.MSR_CKPT_CAPST :: (List.range 16).map Reg.MSR_CKPT_DATA))

/-- PWR_REQ_RUN, PWR_REQ_DUGOUT, PWR_REQ_DORMANT, the HOLD and DUGOUT timers, HOLD's exit, WAKE_EDGE, WAKE_CAN,
HWAKE. The HOLD timer starts the entry to HOLD from RUN when the H-die is idle and the gated crossings are empty; in
HOLD it is ignored, elsewhere it sets cfg_err. An activity or a request starts the return to RUN. A request for
DUGOUT in RUN or HOLD, or the DUGOUT timer in HOLD, takes the main dies down. A request for DORMANT also stops the
sentinel and ends its epoch unless a commit runs. In DUGOUT and DORMANT a request for RUN, or an enabled wake
source, starts an exit with its wake record; from DORMANT the tile restarts, and a request for DUGOUT starts that
transition. In RUN and HOLD a wake changes nothing. In a transition a request is latched; a newer one for another
state replaces it and is reported, and of those of one cycle a wake counts as older than a write to PWR_REQ (how a
cycle is told is the model's choice, log entry 83). The register file is assumed canonical where the main dies are
lost; event messages are off where an entry to HOLD latches. (R425, R426, R428, R434, R435, R437, R438, R440, R441,
R455) -/
def Obligations.PowerRequestsAndWakes : Prop :=
  (∀ (s : State), s.power.tileUp = true → s.fld Reg.PWR_CFG 15 0 ≠ 0 →
    Answers (exec .holdTimer s) fun u =>
      (s.power.state = .run → s.hAnswers = true → s.hIdle = true → s.gateable = true →
        s.Frame u { s with power := { s.power with state := .toHold }, host := u.host } []) ∧
      (s.power.state = .run → s.hAnswers = false ∨ s.hIdle = false ∨ s.gateable = false → s.OnlyRegs u []) ∧
      (s.power.state = .hold → s.OnlyRegs u []) ∧
      (s.power.state ≠ .run → s.power.state ≠ .hold → u.bit Reg.PWR_STATUS 3 = true ∧ s.OnlyRegs u [Reg.PWR_STATUS])) ∧
  (∀ (s : State) (c : Instr), s.power.state = .hold → s.power.tileUp = true → c ∈ [Instr.holdExitActivity, .pwrReqRun] →
    Answers (exec c s) fun u =>
      s.Frame u { s with power := { s.power with state := .fromHold, pending := if c = .pwrReqRun then none else s.power.pending }
                         host := u.host } []) ∧
  (∀ (s : State) (c : Instr), Regs.wf s.regs = true → s.power.tileUp = true →
    (c = .pwrReqDugout ∧ (s.power.state = .run ∨ s.power.state = .hold) ∨
      c = .dugoutTimer ∧ s.power.state = .hold ∧ s.fld Reg.PWR_CFG 31 16 ≠ 0 ∧ (∀ e ∈ s.sched.ctxs, e.2.mode = .idle)) →
    Answers (exec c s) fun u =>
      s.LosesMain u [] ∧ u.meas = s.meas ∧ u.learn = s.learn ∧ u.subCopy = s.subCopy ∧ u.pending = s.pending ∧
      u.power = { s.power with state := .toDugout, pending := none, seen := 0, enables := false, minOff := false
                               bootExit := false, resuming := false, resumed := false, hiZ := true }) ∧
  (∀ (s : State), Regs.wf s.regs = true → s.power.tileUp = true →
    (s.power.state = .run ∨ s.power.state = .hold ∨ s.power.state = .dugout) →
    Answers (exec .pwrReqDormant s) fun u =>
      u.power.state = .toDormant ∧ u.power.pending = none ∧ u.meas = s.meas ∧ u.subCopy = s.subCopy ∧ u.pending = s.pending ∧
      (s.reg Reg.LRN_STEP = 0#32 ∨ s.learn.commitRuns = true → u.learn = { s.learn with burst := {} }) ∧
      (∀ v : Save, v = { kind := .journal, epoch := (s.reg Reg.LRN_EPOCH).toNat, steps := (s.reg Reg.LRN_STEP).toNat, start := s.power.up } →
        s.reg Reg.LRN_STEP ≠ 0#32 → s.learn.commitRuns = false →
        u.learn = { s.learn with
          burst := {}, sweepDue := true, commitStart := s.power.up
          save := if s.learn.save.isSome then s.learn.save else some v
          waiting := if s.learn.save.isSome then some v else s.learn.waiting } ∧
        u.reg Reg.LRN_EPOCH = s.reg Reg.LRN_EPOCH + 1#32 ∧ u.reg Reg.LRN_STEP = 0#32) ∧
      (s.power.state ≠ .dugout → s.LosesMain u [Reg.LRN_EPOCH, Reg.LRN_STEP]) ∧
      (s.power.state = .dugout →
        s.Frame u { s with power := { s.power with state := .toDormant, pending := none, seen := 0 }
                           learn := u.learn, regs := u.regs, host := u.host } [Reg.LRN_EPOCH, Reg.LRN_STEP])) ∧
  (∀ (s : State) (c : Instr) (code : Nat) (cmd rising : Bool), s.power.tileUp = true →
    (c = .pwrReqRun ∧ code = 1 ∧ cmd = true ∨ c = .wakeEdge rising ∧ code = 3 ∧ cmd = false ∧ edgeWakes s 2 8 rising = true ∨
      c = .wakeCan rising ∧ code = 5 ∧ cmd = false ∧ edgeWakes s 4 9 rising = true ∨
      c = .hwake rising ∧ code = 6 ∧ cmd = false ∧ edgeWakes s 5 10 rising = true) →
    Answers (exec c s) fun u =>
      (s.power.state = .dugout → s.ExitStarts u code cmd 2 ∧ u.power.seen = s.power.seen ||| 2 ^ (code - 1) ∧
        s.Frame u { s with power := u.power, regs := u.regs, host := u.host } wakeRegs) ∧
      (s.power.state = .dormant → s.ExitStarts u code cmd 3 ∧ u.learn = { s.learn.fresh with recovering := true } ∧
        u.meas.met = { s.meas.met with due := dueInsert { typ := 9, time := s.power.up } s.meas.met.due } ∧
        s.Frame u { s with power := u.power, learn := u.learn, meas := { s.meas with met := u.meas.met, prec := u.meas.prec }
                           regs := u.regs, host := u.host } (wakeRegs ++ [Reg.MSR_STATUS, Reg.MSR_SCAN_STAT])) ∧
      (s.power.state = .run → s.power.pending = none → s.Frame u { s with host := u.host } []) ∧
      (s.power.state = .hold → cmd = false → s.Frame u { s with host := u.host } [])) ∧
  (∀ (s : State), s.power.tileUp = true → s.power.state = .dormant →
    Answers (exec .pwrReqDugout s) fun u =>
      u.power.state = .dormantToDugout ∧ u.power.pending = none ∧ u.power.enables = s.power.enables ∧
      u.fld Reg.PWR_WAKE_CAUSE 3 0 = 1 ∧ u.bit Reg.PWR_WAKE_CAUSE 4 = true ∧ u.fld Reg.PWR_WAKE_CAUSE 17 16 = 3 ∧
      u.learn = { s.learn.fresh with recovering := true }) ∧
  (∀ (s : State) (c : Instr) (n : Nat) (r : PwrReq), s.power.tileUp = true → s.power.state.stable = false →
    (s.power.state = .toHold → s.reg Reg.CTL_EVT_EN = 0#32) → s.power.slotTick ≠ some s.power.up →
    (c, n) ∈ [(Instr.pwrReqDugout, 2), (.pwrReqDormant, 3)] →
    r = { target := n, src := 8, cmd := true, time := s.rtc, during := s.entering } →
    Answers (exec c s) fun u =>
      (∀ x : Option PwrReq, u.power.pending = x →
        u.power = { s.power with pending := x, slotTick := some s.power.up, slotWas := s.power.pending, slotReqs := [r] }) ∧
      (s.power.pending = none → u.power.pending = some r ∧ s.Frame u { s with power := u.power, host := u.host } []) ∧
      (∀ q, s.power.pending = some q → q.target = n →
        u.power.pending = some q ∧ s.Frame u { s with power := u.power, host := u.host } []) ∧
      (∀ q, s.power.pending = some q → q.target ≠ n →
        u.power.pending = some r ∧ u.bit Reg.PWR_STATUS 2 = true ∧ u.fld Reg.PWR_STATUS 5 4 = q.target % 4 ∧
        u.fld Reg.PWR_STATUS 9 6 = q.src % 16 ∧
        s.Frame u { s with power := u.power, regs := u.regs, host := u.host } [Reg.PWR_STATUS])) ∧
  (∀ (s : State) (rising : Bool) (q : PwrReq), s.power.state.stable = false → s.runOrHold = false → edgeWakes s 5 10 rising = true →
    s.power.slotTick = some s.power.up → s.power.slotWas = none → s.power.slotReqs = [q] → q.src = 8 → q.target ≠ 1 →
    Answers (exec (.hwake rising) s) fun u =>
      u.power.pending = some q ∧ u.bit Reg.PWR_STATUS 2 = true ∧ u.fld Reg.PWR_STATUS 5 4 = 1 ∧ u.fld Reg.PWR_STATUS 9 6 = 6 ∧
      s.Frame u { s with power := u.power, regs := u.regs, host := u.host } [Reg.PWR_STATUS, Reg.PWR_WAKE_CAUSE])

/-- PG_MAIN_LOW, MIN_OFF_EXPIRY, PG_MAIN_HIGH, PG_TIMEOUT, DORMANT_ENTRY_COMPLETE, TILE_POWER_ON_RESET,
TILE_RAIL_LOSS. PG_MAIN falling in RUN or HOLD takes the main dies down. On an entry to DUGOUT, with the enables
released, the later of PG_MAIN's fall and min_off ends it, and a pending request for RUN starts its exit. PG_MAIN
high in an exit releases isolation, and the reset too where PERST# is high. A timeout in an exit sets pg_fail and
takes the supply away. Entry to DORMANT ends with a checkpoint and its log record. Tile power-on samples the straps,
keeps the non-volatile cells and begins recovery; with BOOT_RUN high the exit starts. Loss of a tile rail resets
tile and main dies; cells and host memory stay. The register file is assumed canonical where the main dies are lost;
the tile power-on clause is for a tile with no saved configuration image. (R429, R432, R441, R442, R447, R506, R540,
R542, R543, R544) -/
def Obligations.MainSupplyAndTileRails : Prop :=
  (∀ (s : State), Regs.wf s.regs = true → s.power.tileUp = true → s.power.pgMain = true → (s.power.state = .run ∨ s.power.state = .hold) →
    Answers (exec .pgMainLow s) fun u =>
      s.LosesMain u [] ∧ u.meas = s.meas ∧ u.learn = s.learn ∧ u.subCopy = s.subCopy ∧ u.pending = s.pending ∧
      u.power = { s.power with state := .toDugout, pgMain := false, seen := 0, enables := false, minOff := false
                               bootExit := false, resuming := false, resumed := false, hiZ := true }) ∧
  (∀ (s : State) (c : Instr) (p : Power), s.power.tileUp = true → s.power.state = .toDugout → s.power.enables = false →
    (c = .pgMainLow ∧ s.power.pgMain = true ∧ p = { s.power with pgMain := false } ∨
      c = .minOffExpiry ∧ p = { s.power with minOff := true }) →
    Answers (exec c s) fun u =>
      ((p.pgMain = true ∨ p.minOff = false) → s.Frame u { s with power := p, host := u.host } []) ∧
      (p.pgMain = false → p.minOff = true → p.pending = none →
        s.Frame u { s with power := { p with state := .dugout, slotTick := none }, host := u.host } []) ∧
      (∀ r, p.pgMain = false → p.minOff = true → p.pending = some r → r.target = 1 → r.wake < 16 →
        u.power.state = .toRun ∧ u.power.enables = true ∧ u.power.pending = none ∧ u.bit Reg.PWR_WAKE_CAUSE 5 = r.during ∧
        s.Frame u { s with power := u.power, regs := u.regs, host := u.host } wakeRegs)) ∧
  (∀ (s : State), s.power.state = .toRun → s.power.enables = true →
    Answers (exec .pgMainHigh s) fun u =>
      s.Frame u { s with power := { s.power with pgMain := true }
                         align := { s.align with inReset := true, line := !s.power.perst }, regs := u.regs, host := u.host } []) ∧
  (∀ (s : State), Regs.wf s.regs = true → s.power.state = .toRun → s.power.enables = true → s.power.pgMain = false →
    Answers (exec .pgTimeout s) fun u =>
      u.bit Reg.PWR_STATUS 0 = true ∧ s.LosesMain u [Reg.PWR_STATUS] ∧ u.power.state = .toRun ∧ u.power.pending = s.power.pending ∧ u.power.hiZ = true ∧
      u.meas = s.meas ∧ u.learn = s.learn ∧ u.subCopy = s.subCopy ∧ u.pending = s.pending) ∧
  (∀ (s : State), s.power.state = .toDormant → s.power.pgMain = false → s.power.minOff = true → s.power.pending = none → s.learn.idle = true →
    s.meas.met.due = [] → s.meas.met.cur = none → s.meas.met.kept = none →
    Answers (exec .dormantEntryComplete s) fun u =>
      u.meas.met.ckpt.look 0 (s.meas.met.cseq % 768) = s.ckptRecord ∧
      u.meas.met.log.look 0 (s.meas.met.wpos % 7168) = s.checkpoint.logRecord { typ := 8 } ∧
      u.meas.met.seq = s.meas.met.seq + 1 ∧ u.meas.met.wpos = s.meas.met.wpos + 1 ∧ u.meas.met.cseq = s.meas.met.cseq + 1 ∧
      s.Frame u { s with power := { s.power with state := .dormant, slotTick := none }
                         meas := { s.meas with met := u.meas.met, excited := false, prec := { s.meas.prec with phase := .idle } }
                         regs := u.regs, host := u.host } [Reg.MSR_LOG_HEAD]) ∧
  (∀ (s : State) (h m : BitVec 7) (boot : Bool), s.meas.met.img0 = none → s.meas.met.img1 = none →
    Answers (exec (.tilePowerOnReset h m boot) s) fun u =>
      u.fld Reg.CTL_RI_ADDR 6 0 = h.toNat ∧ u.fld Reg.CTL_RI_ADDR 14 8 = m.toNat ∧
      u.bit Reg.CTL_RI_ADDR 16 = (decide (h = 0#7 ∨ h = 0x7F#7) || h == m) ∧ u.bit Reg.CTL_RI_ADDR 17 = decide (m = 0#7 ∨ m = 0x7F#7) ∧
      u.bit Reg.PWR_CFG1 16 = boot ∧ u.mainUp = false ∧ u.learn.recovering = true ∧ u.learn.nvs = s.learn.nvs ∧
      u.meas.met.log = s.meas.met.log ∧ u.meas.met.calA = s.meas.met.calA ∧ u.meas.met.calB = s.meas.met.calB ∧
      u.meas.met.due = [{ typ := 6, gap := true, aux := 0xFFFFFFFF }] ∧ u.pending = s.pending ∧ u.power.tileUp = true ∧ u.rtcTicks = 0 ∧
      u.power.pgMain = s.power.pgMain ∧ u.power.perst = s.power.perst ∧
      (boot = false → u.power.state = .dugout ∧ u.power.enables = false) ∧
      (boot = true → u.power.state = .toRun ∧ u.power.enables = true ∧ u.reg Reg.PWR_RST_CAUSE = 1#32 ∧
        u.fld Reg.PWR_WAKE_CAUSE 3 0 = 0)) ∧
  (∀ (s : State),
    Answers (exec .tileRailLoss s) fun u =>
      u.regs = mainResets ++ tileResets ∧ u.mainUp = false ∧ u.power = { tileUp := false, pgMain := s.power.pgMain, perst := s.power.perst } ∧
      u.learn = { nvs := s.learn.nvs, ballHigh := s.learn.ballHigh, recovering := false } ∧ u.tap = s.tap.off ∧ u.meas.met.log = s.meas.met.log ∧ u.meas.met.ckpt = s.meas.met.ckpt ∧
      u.meas.met.calA = s.meas.met.calA ∧ u.meas.met.calB = s.meas.met.calB ∧ u.meas.met.fuse = s.meas.met.fuse ∧
      (∀ a, 0x8000000000000000 ≤ a → u.byte a = s.byte a) ∧ (∀ a, a < 0x8000000000000000 → u.byte a = 0#8) ∧
      u.sched = {} ∧ u.sync = {} ∧ u.pending = s.pending)

/-- RTC_ALARM, ALARM_ARM, RTC_SET. An armed alarm whose target the RTC has reached fires once: arm clears, fired
sets, late sets where it fires late. In RUN and HOLD nothing more happens; in DUGOUT the exit starts with source
0x4; in DORMANT with to_dugout = 1 the tile restarts on its way to DUGOUT. A write to PWR_ALARM_CFG clears fired and
late where written 1, takes to_dugout, and arms or disarms; arming with a tick field out of range sets cfg_err
instead. RTC_SET commits its two words: with a tick field in range the RTC takes the value, rtc_ok sets, a TIME_SET
record with the difference in seconds falls due, and T0 and MSR_VIB_TSTART move by the difference; otherwise the RTC
and PWR_RTC_SET stay and cfg_err sets. The sentinel's times move with T0. (R438, R440, R446, R449, R459) -/
def Obligations.ClockAndAlarm : Prop :=
  (∀ (s : State), s.power.tileUp = true → s.bit Reg.PWR_ALARM_CFG 0 = true → rtcCount s.alarmTarget ≤ s.rtcTicks →
    Answers (exec .rtcAlarm s) fun u =>
      u.bit Reg.PWR_ALARM_CFG 0 = false ∧ u.bit Reg.PWR_ALARM_CFG 2 = true ∧
      u.bit Reg.PWR_ALARM_CFG 3 = (s.power.alarmLate || s.bit Reg.PWR_ALARM_CFG 3) ∧ u.power.alarmLate = false ∧
      ((s.power.state = .run ∨ s.power.state = .hold) →
        s.Frame u { s with power := { s.power with alarmLate := false }, regs := u.regs, host := u.host } [Reg.PWR_ALARM_CFG]) ∧
      (s.power.state = .dugout → s.ExitStarts u 4 false 2 ∧
        s.Frame u { s with power := u.power, regs := u.regs, host := u.host } (Reg.PWR_ALARM_CFG :: wakeRegs)) ∧
      (s.power.state = .dormant → s.bit Reg.PWR_ALARM_CFG 1 = true →
        u.power.state = .dormantToDugout ∧ u.power.enables = s.power.enables ∧ u.fld Reg.PWR_WAKE_CAUSE 3 0 = 4 ∧
        u.fld Reg.PWR_WAKE_CAUSE 17 16 = 3 ∧ u.learn = { s.learn.fresh with recovering := true } ∧
        u.meas.met = { s.meas.met with due := dueInsert { typ := 9, time := s.power.up } s.meas.met.due })) ∧
  (∀ (s : State) (val : Word), s.power.tileUp = true →
    Answers (exec (.alarmArm val) s) fun u =>
      u.bit Reg.PWR_ALARM_CFG 1 = val.getLsbD 1 ∧ u.bit Reg.PWR_ALARM_CFG 2 = (s.bit Reg.PWR_ALARM_CFG 2 && !val.getLsbD 2) ∧
      u.bit Reg.PWR_ALARM_CFG 3 = (s.bit Reg.PWR_ALARM_CFG 3 && !val.getLsbD 3) ∧
      (val.getLsbD 0 = false → u.bit Reg.PWR_ALARM_CFG 0 = false ∧ s.OnlyRegs u [Reg.PWR_ALARM_CFG]) ∧
      (val.getLsbD 0 = true → tickHz ≤ s.alarmTarget % 2 ^ 24 →
        u.bit Reg.PWR_ALARM_CFG 0 = s.bit Reg.PWR_ALARM_CFG 0 ∧ u.bit Reg.PWR_STATUS 3 = true ∧
        s.OnlyRegs u [Reg.PWR_ALARM_CFG, Reg.PWR_STATUS]) ∧
      (val.getLsbD 0 = true → s.alarmTarget % 2 ^ 24 < tickHz →
        u.bit Reg.PWR_ALARM_CFG 0 = true ∧
        s.Frame u { s with power := { s.power with alarmLate := decide (rtcCount s.alarmTarget ≤ s.rtcTicks) }
                           regs := u.regs, host := u.host } [Reg.PWR_ALARM_CFG])) ∧
  (∀ (s : State) (p : Path) (val : Word) (v : Nat) (d : Int), s.power.tileUp = true →
    v = ((s.commitWords Reg.PWR_RTC_SET_LO 2 p val).getD 0 0#32).toNat + val.toNat * 2 ^ 32 →
    d = (rtcCount v : Int) - s.rtcTicks →
    Answers (exec (.rtcSet p val) s) fun u =>
      (tickHz ≤ v % 2 ^ 24 → u.bit Reg.PWR_STATUS 3 = true ∧
        s.Frame u { s with wide := u.wide, regs := u.regs, host := u.host } [Reg.PWR_STATUS]) ∧
      (v % 2 ^ 24 < tickHz → u.reg64 Reg.PWR_RTC_SET_LO = v ∧
        u.power.rtcSec = v / 2 ^ 24 ∧ u.power.rtcTick = v % 2 ^ 24 ∧ u.bit Reg.PWR_STATUS 10 = true ∧
        u.reg64 Reg.MSR_VIB_TSTART_LO = rtcOf ((rtcCount (s.reg64 Reg.MSR_VIB_TSTART_LO) : Int) + d) ∧
        s.Frame u { s with
          power := { s.power with rtcSec := v / 2 ^ 24, rtcTick := v % 2 ^ 24, alarmLate := u.power.alarmLate }
          learn := { s.learn with t0 := s.learn.t0 + d, lastDue := s.learn.lastDue.map (· + d), since := s.learn.since + d }
          meas := { s.meas with met := { s.meas.met with
            due := dueInsert { typ := 7, aux := uns 32 (((v / 2 ^ 24 : Nat) : Int) - s.power.rtcSec), time := s.power.up } s.meas.met.due } }
          wide := u.wide, regs := u.regs, host := u.host }
          [Reg.PWR_RTC_SET_LO, Reg.PWR_RTC_SET_HI, Reg.PWR_STATUS, Reg.MSR_VIB_TSTART_LO, Reg.MSR_VIB_TSTART_HI]))

/-- rna takes the magnitude to the nearest integer, a tie away from zero, and keeps the sign. For an exact quotient
n / d, with d above 0, the magnitude of rna is the floor of |n / d| + 1/2: twice d times it is at most 2|n| + d, and
twice d times its successor is above that. It is not negative for n at least 0 and not positive for n below 0. The
rule's four examples hold. (R77) -/
def Obligations.RoundToInteger : Prop :=
  (∀ (n : Int) (d : Nat), 0 < d →
    2 * d * (rna ⟨n, d⟩).natAbs ≤ 2 * n.natAbs + d ∧ 2 * n.natAbs + d < 2 * d * ((rna ⟨n, d⟩).natAbs + 1) ∧
    (0 ≤ n → 0 ≤ rna ⟨n, d⟩) ∧ (n < 0 → rna ⟨n, d⟩ ≤ 0)) ∧
  rna ⟨25, 10⟩ = 3 ∧ rna ⟨-25, 10⟩ = -3 ∧ rna ⟨24999, 10000⟩ = 2 ∧ rna ⟨-5, 10⟩ = -1

/-- At the first step of an epoch every group's LFSR is loaded from the seed and the epoch. When EVENT_CORE_STEP
runs the first step of epoch E, each L[g] is loaded with (seed + 0x9E37 (16 E + g)) mod 65,536, a value of 0 being
replaced by 0x0001; the step's own draws then advance it: after the step it is the loaded value advanced some number
of times, and exactly the loaded value in a group that has no synapse to draw for. (R389) -/
def Obligations.LfsrsLoadedAtEpochStart : Prop :=
  ∀ (s : State) (ovf : Bool), s.tileRuns = true → s.learn.burst.phase = .window → s.learn.burst.step < s.learn.burst.w →
    s.reg Reg.LRN_STEP = 0#32 →
    Answers (exec (.eventCoreStep ovf) s) fun u =>
      ∀ g < 16, ∀ v l : Nat, v = (s.fld Reg.LRN_SEED 15 0 + 0x9E37 * (16 * (s.reg Reg.LRN_EPOCH).toNat + g)) % 65536 →
        l = (if v = 0 then 1 else v) →
        (∃ k : Nat, u.learn.lfsr.getD g 0 = (List.range k).foldl (fun x _ => lfsrNext x) l) ∧
        ((∀ e ∈ s.learn.syn, e.1 / 16384 ≠ g) → u.learn.lfsr.getD g 0 = l)

/-- SENTINEL_RUN, BURST_DUE, EXCITATION_ON, BURST_COMPLETE, FEATURES_READY, EVENTS_READY, SCORE_COMPARE,
RESULT_PUBLISH, RESULT_SELECT. run set starts the schedule. A due time is T0 + n x period, after the last one and
not before the sentinel could run. A due burst is taken with its settings and the period of now, a reserved setting
reported, or skipped and counted. Its last sample judges it: any blank sample makes it blanked; else a missing
channel or a flagged sample makes it faulted. A band past L / 2 sets cfg_err; the RMS of a channel lies within one
of its rounded exact value. A valid burst is presented, or faulted where nothing can score it. The comparison counts
scores at or past its levels and changes at its counts; a rise sets anom and, with wake_en, wakes the package from
DUGOUT. A record goes to its slot with the next sequence number; a selection captures the record of a number still
held, or shows none. (R377, R379, R380, R381, R386, R397, R398, R399, R400, R401) -/
def Obligations.SentinelCycle : Prop :=
  (∀ (s : State) (val : Word), s.tileRuns = true →
    Answers (exec (.sentinelRun val) s) fun u =>
      u.reg Reg.LRN_CTRL = val &&& 7#32 ∧
      (val.getLsbD 0 = true → s.bit Reg.LRN_CTRL 0 = false →
        s.Frame u { s with learn := { s.learn with t0 := s.rtcTicks, lastDue := none }, regs := u.regs, host := u.host } [Reg.LRN_CTRL]) ∧
      (val.getLsbD 0 = false ∨ s.bit Reg.LRN_CTRL 0 = true → s.OnlyRegs u [Reg.LRN_CTRL])) ∧
  (∀ (s : State), s.sentinelOn = true → s.nextDue ≤ (s.rtcTicks : Int) →
    Answers (exec .burstDue s) fun u =>
      u.learn.lastDue = some s.nextDue ∧
      u.learn.period = s.fld Reg.LRN_SENT_CFG 15 0 ∧
      (s.learn.burst.phase = .none →
        u.bit Reg.LRN_STATUS 2 = (s.bit Reg.LRN_STATUS 2 || decide (s.fld Reg.LRN_SENT_CFG 17 16 = 3 ∨ s.fld Reg.LRN_WIN 7 0 < 8 ∨
          s.fld Reg.LRN_WIN 15 8 = 0 ∨ s.fld Reg.LRN_WIN 7 0 < s.fld Reg.LRN_WIN 15 8)) ∧
        u.learn.burst.phase = .sampling ∧ u.learn.burst.t = s.rtc ∧ u.learn.burst.sent = s.reg Reg.LRN_SENT_CFG ∧
        u.learn.burst.win = s.reg Reg.LRN_WIN ∧
        u.learn.burst.first = ((List.range 4).map fun v => (s.reg (Reg.MSR_VIB_WIDX v)).toNat) ∧
        s.Frame u { s with learn := { s.learn with lastDue := some s.nextDue, period := u.learn.period, burst := u.learn.burst }
                           regs := u.regs, host := u.host } [Reg.LRN_STATUS]) ∧
      (s.learn.burst.phase ≠ .none →
        u.fld Reg.LRN_EVCNT 31 16 = min 65535 (s.fld Reg.LRN_EVCNT 31 16 + 1) ∧ u.fld Reg.LRN_EVCNT 15 0 = s.fld Reg.LRN_EVCNT 15 0 ∧
        s.Frame u { s with learn := { s.learn with lastDue := some s.nextDue, period := u.learn.period }
                           regs := u.regs, host := u.host } [Reg.LRN_EVCNT])) ∧
  (∀ (s : State), (s.nextDue - s.learn.t0) % (s.burstPeriod : Int) = 0 ∧ (s.learn.lastDue = none → s.learn.t0 ≤ s.nextDue) ∧ s.learn.since ≤ s.nextDue ∧
    (∀ d, s.learn.lastDue = some d → d < s.nextDue)) ∧
  (∀ (s : State), s.sentinelOn = true → s.burstMode = true →
    s.nextDue ≤ (s.rtcTicks : Int) + ((s.fld Reg.MSR_VIB_MODE 15 8 * 163840 : Nat) : Int) →
    Answers (exec .excitationOn s) fun u => s.Frame u { s with meas := { s.meas with excited := true }, host := u.host } []) ∧
  (∀ (s : State) (xs : List (Nat × List Word)) (missing blanked : Bool), s.tileRuns = true → s.learn.burst.phase = .sampling →
    (∀ v ∈ s.burstLive, s.burstHas v = true) → xs = (s.burstLive.map fun v => (v, s.burstSamples v)) →
    missing = (s.learn.burst.chan.isEmpty || decide (xs.length < s.learn.burst.chan.length)) →
    blanked = (xs.any fun x => x.2.any fun w => w.getLsbD 28) →
    Answers (exec .burstComplete s) fun u =>
      u.learn.burst = { s.learn.burst with
        phase := .judged, samples := xs, blanked := blanked
        fault := !blanked && (missing || xs.any fun x => x.2.any fun w => w.getLsbD 29 || w.getLsbD 30) } ∧
      u.bit Reg.LRN_STATUS 2 = (missing && !blanked || s.bit Reg.LRN_STATUS 2) ∧
      s.Frame u { s with learn := { s.learn with burst := u.learn.burst }
                         meas := { s.meas with excited := s.meas.excited && !s.burstMode }, regs := u.regs, host := u.host } [Reg.LRN_STATUS]) ∧
  (∀ (s : State), s.tileRuns = true → s.learn.burst.phase = .judged → s.learn.burst.blanked = false → s.learn.burst.samples ≠ [] →
    Answers (exec .featuresReady s) fun u =>
      u.learn.burst.phase = .features ∧ (∃ l, u.learn.burst.lines = l ++ s.learn.burst.lines) ∧
      u.bit Reg.LRN_STATUS 2 = (s.learn.burst.band.any (fun w => decide (s.learn.burst.l / 2 < wfld w 23 12)) || s.bit Reg.LRN_STATUS 2) ∧
      (∀ v < 4, ∀ (x : Nat × List Word) (m : Moments) (r : Nat), s.learn.burst.samples.find? (fun y => y.1 == v) = some x →
        m = momentsOf (x.2.map sampleUnits) → r = rnaSqrt m.rms2.1 m.rms2.2 → r < 2 ^ 32 →
        u.learn.burst.rms.getD v 0 ≤ r + 1 ∧ r ≤ u.learn.burst.rms.getD v 0 + 1) ∧
      s.Frame u { s with learn := { s.learn with burst := { s.learn.burst with
                           phase := .features, lines := u.learn.burst.lines, rms := u.learn.burst.rms } }
                         meas := { s.meas with switches := u.meas.switches }, regs := u.regs, host := u.host } [Reg.LRN_STATUS]) ∧
  (∀ (s : State), s.tileRuns = true → s.learn.burst.phase = .features → s.learn.burst.fault = false →
    Answers (exec .eventsReady s) fun u =>
      (s.scorable = true → u.learn.burst.phase = .window ∧ u.learn.burst.step = 0 ∧ u.learn.burst.nsp = 0 ∧
        s.Frame u { s with learn := { s.learn with neurons := [], spikes := [], burst := { s.learn.burst with
          phase := .window, step := 0, nsp := 0, events := u.learn.burst.events } }, host := u.host } []) ∧
      (s.scorable = false →
        s.Frame u { s with learn := { s.learn with burst := { s.learn.burst with fault := true } }, host := u.host } [])) ∧
  (∀ (s : State) (up down nset nreset x : Nat), s.tileRuns = true → s.learn.burst.phase = .window → s.learn.burst.w ≤ s.learn.burst.step →
    up = s.fld Reg.LRN_SCORE_CFG 15 0 → down = s.fld Reg.LRN_SCORE_CFG 31 16 → nset = max 1 (s.fld Reg.LRN_SCORE_CFG1 3 0) →
    nreset = max 1 (s.fld Reg.LRN_SCORE_CFG1 7 4) → x = s.score →
    Answers (exec .scoreCompare s) fun u =>
      u.learn.burst.phase = .compared ∧ u.learn.burst.score = x ∧ u.learn.burst.changed = (u.learn.anomaly != s.learn.anomaly) ∧
      (up ≤ down → u.learn.anomaly = false ∧ u.learn.run = 0 ∧ u.bit Reg.LRN_STATUS 2 = true) ∧
      (down < up → s.learn.anomaly = false → (u.learn.anomaly, u.learn.run) =
        if x < up then (false, 0) else if nset ≤ s.learn.run + 1 then (true, 0) else (false, s.learn.run + 1)) ∧
      (down < up → s.learn.anomaly = true → (u.learn.anomaly, u.learn.run) =
        if down < x then (true, 0) else if nreset ≤ s.learn.run + 1 then (false, 0) else (true, s.learn.run + 1)) ∧
      u.bit Reg.LRN_STATUS 0 = (u.learn.anomaly && !s.learn.anomaly || s.bit Reg.LRN_STATUS 0) ∧
      (u.learn.anomaly = true → s.learn.anomaly = false → s.bit Reg.LRN_CTRL 2 = true → s.power.state = .dugout →
        u.learn.burst.wake = true ∧ s.ExitStarts u 2 false 2) ∧
      (s.bit Reg.LRN_CTRL 2 = false ∨ u.learn.anomaly = false ∨ s.learn.anomaly = true ∨ s.power.state = .run ∨ s.power.state = .hold →
        s.Frame u { s with learn := { s.learn with anomaly := u.learn.anomaly, run := u.learn.run, burst := u.learn.burst }
                           meas := { s.meas with switches := u.meas.switches }, regs := u.regs, host := u.host } [Reg.LRN_STATUS])) ∧
  (∀ (s : State), s.tileRuns = true → s.learn.burst.unpresented = true →
    Answers (exec .scoreCompare s) fun u =>
      (s.learn.burst.blanked = true → u.meas = s.meas) ∧
      s.Frame u { s with learn := { s.learn with burst := { s.learn.burst with phase := .compared } }
                         meas := { s.meas with switches := u.meas.switches }, host := u.host } []) ∧
  (∀ (s : State) (n : Nat), s.tileRuns = true → s.learn.burst.phase = .compared → n = (s.reg Reg.LRN_RES_HEAD).toNat + 1 →
    Answers (exec .resultPublish s) fun u =>
      u.learn.results.look 0 (n % 64) = s.resultRecord n ∧ nfld (s.resultRecord n) 31 0 = n % 2 ^ 32 ∧
      (∀ k, k ≠ n % 64 → u.learn.results.look 0 k = s.learn.results.look 0 k) ∧ u.reg Reg.LRN_RES_HEAD = BitVec.ofNat 32 n ∧
      s.Frame u { s with learn := { s.learn with results := u.learn.results, burst := {} }, regs := u.regs, host := u.host }
        [Reg.LRN_RES_HEAD]) ∧
  (∀ (s : State) (seq : Word) (head : Nat), s.tileRuns = true → head = (s.reg Reg.LRN_RES_HEAD).toNat →
    Answers (exec (.resultSelect seq) s) fun u =>
      u.reg Reg.LRN_RES_SEL = seq ∧
      (seq = 0#32 ∨ head < seq.toNat ∨ seq.toNat + 63 < head → u.reg Reg.LRN_RES_CAPST = 0#32 ∧
        s.OnlyRegs u [Reg.LRN_RES_SEL, Reg.LRN_RES_CAPST]) ∧
      (seq ≠ 0#32 → seq.toNat ≤ head → head ≤ seq.toNat + 63 → u.reg Reg.LRN_RES_CAPST = 1#32 ∧
        (∀ j < 16, u.reg (Reg.LRN_RES_DATA j) = BitVec.ofNat 32 (s.learn.results.look 0 (seq.toNat % 64) / 2 ^ (32 * j))) ∧
        s.OnlyRegs u ([Reg.LRN_RES_SEL, Reg.LRN_RES_CAPST] ++ (List.range 16).map Reg.LRN_RES_DATA)))

/-- EVENT_CORE_STEP, CONFIRM_WRITE, CONFIRM_MINUTE, CONFIRM_BALL, SYN_SELECT, SYN_DATA_WRITE, SRC_DATA_WRITE. A step
is counted in its window and its epoch, adds the spikes of the input lines placed at it, all dated to it, counts an
overrun, and ends the epoch after its n_steps and min_s while no commit runs: the commit of the epoch is then to
begin, behind a header being written, and the next epoch has no steps. A confirmation write takes the minutes up to
1,440 and ball_en; a minute takes one; the ball's level is held. A synapse selection shows the synapse, committed
first if a sweep is due; while run = 0 a write gives the synapse its w, d and en and clears its trace and shadows,
LRN_SYN_DATA keeping the captured e and sw, and a source entry its bits; while run = 1, or with a source above
4,353, it sets cfg_err instead. (R386, R387, R391, R393, R394, R395, R414, R415, R421, R422) -/
def Obligations.EventCoreAndModelAccess : Prop :=
  (∀ (s : State) (ovf : Bool) (t n : Nat) (ends : Bool), s.tileRuns = true → s.learn.burst.phase = .window → t = s.learn.burst.step →
    t < s.learn.burst.w → n = min (2 ^ 32 - 1) ((s.reg Reg.LRN_STEP).toNat + 1) →
    ends = (decide (max 1 (wfld s.params.epochCfg 15 0) ≤ n) &&
      decide (wfld s.params.epochCfg 31 16 * tickHz ≤ s.power.up - s.learn.commitStart) && !s.learn.commitRuns) →
    Answers (exec (.eventCoreStep ovf) s) fun u =>
      u.learn.burst.step = t + 1 ∧ u.learn.burst.epoch = (s.reg Reg.LRN_EPOCH).toNat ∧ u.learn.params = s.params ∧
      (∃ new, u.learn.spikes = new ++ s.learn.spikes ∧ (∀ e ∈ new, e.2 = t) ∧
        (∀ e ∈ s.learn.burst.events, e.2 = t → (4096 + e.1, t) ∈ new)) ∧
      u.fld Reg.LRN_EVCNT 15 0 = min 65535 (s.fld Reg.LRN_EVCNT 15 0 + b2n ovf) ∧
      u.fld Reg.LRN_EVCNT 31 16 = s.fld Reg.LRN_EVCNT 31 16 ∧
      (ends = true → u.reg Reg.LRN_STEP = 0#32 ∧ u.reg Reg.LRN_EPOCH = s.reg Reg.LRN_EPOCH + 1#32 ∧ u.learn.sweepDue = true ∧
        u.learn.commitStart = s.power.up ∧
        (∀ v : Save, v = { kind := .journal, epoch := (s.reg Reg.LRN_EPOCH).toNat, steps := n, start := s.power.up } →
          (u.learn.save, u.learn.waiting) =
            if s.learn.save.isSome then (s.learn.save, some v) else (some v, s.learn.waiting))) ∧
      (ends = false → u.reg Reg.LRN_STEP = BitVec.ofNat 32 n ∧ u.reg Reg.LRN_EPOCH = s.reg Reg.LRN_EPOCH ∧ u.learn.sweepDue = false ∧
        u.learn.commitStart = s.learn.commitStart ∧ u.learn.save = s.learn.save ∧ u.learn.waiting = s.learn.waiting) ∧
      s.Frame u { s with learn := { s.learn with
          syn := u.learn.syn, lfsr := u.learn.lfsr, neurons := u.learn.neurons, spikes := u.learn.spikes, burst := u.learn.burst
          params := s.params, sweepDue := u.learn.sweepDue, commitStart := u.learn.commitStart, save := u.learn.save
          waiting := u.learn.waiting }
                         regs := u.regs, host := u.host } [Reg.LRN_STEP, Reg.LRN_EPOCH, Reg.LRN_SATCNT, Reg.LRN_EVCNT]) ∧
  (∀ (s : State) (val : Word), s.tileRuns = true →
    Answers (exec (.confirmWrite val) s) fun u =>
      u.fld Reg.LRN_CONFIRM 10 0 = min 1440 (wfld val 10 0) ∧ u.bit Reg.LRN_CONFIRM 16 = val.getLsbD 16 ∧
      s.OnlyRegs u [Reg.LRN_CONFIRM]) ∧
  (∀ (s : State), s.tileRuns = true →
    Answers (exec .confirmMinute s) fun u =>
      u.fld Reg.LRN_CONFIRM 10 0 = s.fld Reg.LRN_CONFIRM 10 0 - 1 ∧ u.bit Reg.LRN_CONFIRM 16 = s.bit Reg.LRN_CONFIRM 16 ∧
      s.OnlyRegs u [Reg.LRN_CONFIRM]) ∧
  (∀ (s : State) (high : Bool), s.tileRuns = true →
    Answers (exec (.confirmBall high) s) fun u => s.Frame u { s with learn := { s.learn with ballHigh := high }, host := u.host } []) ∧
  (∀ (s : State) (i : BitVec 18) (x : Synapse), s.tileRuns = true →
    x = (let y := s.learn.syn.look {} i.toNat; if s.learn.sweepDue then y.commit else y) →
    Answers (exec (.synSelect i) s) fun u =>
      u.reg Reg.LRN_SYN_SEL = BitVec.ofNat 32 i.toNat ∧ u.fld Reg.LRN_SYN_DATA 7 0 = uns 8 x.w ∧
      u.fld Reg.LRN_SYN_DATA 13 8 = x.d % 64 ∧ u.bit Reg.LRN_SYN_DATA 14 = x.en ∧ u.fld Reg.LRN_SYN_DATA 22 15 = uns 8 x.e ∧
      u.fld Reg.LRN_SYN_DATA 30 23 = uns 8 x.sw ∧
      s.Frame u { s with learn := s.sweep.learn, regs := u.regs, host := u.host } [Reg.LRN_SYN_SEL, Reg.LRN_SYN_DATA]) ∧
  (∀ (s : State) (val : Word) (i : Nat), s.tileRuns = true → i = s.fld Reg.LRN_SYN_SEL 17 0 →
    Answers (exec (.synDataWrite val) s) fun u =>
      (s.bit Reg.LRN_CTRL 0 = true → u.bit Reg.LRN_STATUS 2 = true ∧ s.OnlyRegs u [Reg.LRN_STATUS]) ∧
      (s.bit Reg.LRN_CTRL 0 = false →
        u.learn.syn.look {} i = { s.sweep.learn.syn.look {} i with
          w := sgn 8 (wfld val 7 0), d := wfld val 13 8, en := val.getLsbD 14, e := 0, sw := 0, sd := 0 } ∧
        (∀ j, j ≠ i → u.learn.syn.look {} j = s.sweep.learn.syn.look {} j) ∧
        u.fld Reg.LRN_SYN_DATA 14 0 = wfld val 14 0 ∧ u.fld Reg.LRN_SYN_DATA 30 15 = s.fld Reg.LRN_SYN_DATA 30 15 ∧
        s.Frame u { s with learn := { s.sweep.learn with syn := u.learn.syn }, regs := u.regs, host := u.host } [Reg.LRN_SYN_DATA])) ∧
  (∀ (s : State) (val : Word) (k : Nat), s.tileRuns = true → k = 64 * s.fld Reg.LRN_SRC_SEL 3 0 + s.fld Reg.LRN_SRC_SEL 9 4 →
    Answers (exec (.srcDataWrite val) s) fun u =>
      (s.bit Reg.LRN_CTRL 0 = true ∨ 4353 < wfld val 12 0 → u.bit Reg.LRN_STATUS 2 = true ∧ s.OnlyRegs u [Reg.LRN_STATUS]) ∧
      (s.bit Reg.LRN_CTRL 0 = false → wfld val 12 0 ≤ 4353 →
        u.learn.src.look 0 k = val.toNat &&& 0x9FFF ∧ (∀ j, j ≠ k → u.learn.src.look 0 j = s.learn.src.look 0 j) ∧
        s.Frame u { s with learn := { s.learn with src := u.learn.src }, host := u.host } []))

/-- EPOCH_COMMIT, NVS_WRITE_DONE, MODEL_RECOVERY_DONE, COMMIT_MODEL, END_EPOCH, RELEARN, LRN_SAVE_CFG, LRN_CLR. A
commit sweeps and takes the journal unless its records would not fit or a compaction is forced. A change record goes
to the head with its entries' chg cleared; the end record commits the epoch; a write that fails is made again, in
the journal at the next position, and after the third failure wr_fail sets and, but for a header of save_cfg, the
next commit compacts. A row of an image or a header goes to its place; the header's last row puts it in force and
ends the save; a compaction clears the failure bits of banks relearned before it. What waited is written next.
Recovery takes the last committed epoch, the head and the banks without an image from the cells, or finds no model.
commit_model and end_epoch begin their saves or set cmd_ref; save_cfg writes its header now or after what runs, and
is refused only without a model; relearn starts the failed banks of its mask anew; clr clears the counts. The
clauses on an end leave out a pending DORMANT entry. (R393, R394, R405, R406, R407, R409, R411, R412, R414, R418) -/
def Obligations.LearningStore : Prop :=
  (∀ (s : State) (v : Save) (l : Learn), s.tileRuns = true → s.learn.save = some v → v.begun = false → l = s.sweep.learn →
    Answers (exec .epochCommit s) fun u =>
      u.learn.syn = l.syn ∧ u.learn.sweepDue = false ∧
      ((l.forceCompact = true ∨ 29088 < l.held + ((l.changed.length + 11) / 12 + 1)) →
        s.Frame u { s with learn := { l with
          save := some { v with kind := .compaction, begun := true, relearned := l.relearned }
          relearned := 0, forceCompact := false }, host := u.host } []) ∧
      (l.forceCompact = false → l.held + ((l.changed.length + 11) / 12 + 1) ≤ 29088 →
        s.Frame u { s with learn := { l with save := some { v with kind := .journal, begun := true, todo := l.changed } }
                           host := u.host } [])) ∧
  (∀ (s : State) (v : Save) (l : Learn), s.tileRuns = true → l = s.learn → l.save = some v → v.begun = true → v.kind = .journal →
    (v.todo ≠ [] → Answers (exec (.nvsWriteDone true) s) fun u =>
      u.learn.nvs.look 0 (18560 + l.head) = changeRecord l.syn v.epoch v.part l.jseq (v.todo.take 12) ∧
      (∀ i ∈ v.todo.take 12, u.learn.syn.look {} i = { l.syn.look {} i with chg := false }) ∧
      u.reg64 Reg.NVS_WEAR_LO = (s.reg64 Reg.NVS_WEAR_LO + 1) % 2 ^ 64 ∧
      s.Frame u { s with learn := { l with
        nvs := u.learn.nvs, syn := u.learn.syn, head := (l.head + 1) % 38784, jseq := (l.jseq + 1) % 2 ^ 32
        save := some { v with part := v.part + 1, todo := v.todo.drop 12, tries := 0 } }, regs := u.regs, host := u.host }
        [Reg.NVS_WEAR_LO, Reg.NVS_WEAR_HI, Reg.NVS_JFILL]) ∧
    (v.todo = [] → s.power.state ≠ .toDormant → Answers (exec (.nvsWriteDone true) s) fun u =>
      u.learn.nvs.look 0 (18560 + l.head) = endRecord v.epoch v.part l.jseq v.steps ∧
      u.reg Reg.NVS_COMMITTED = BitVec.ofNat 32 v.epoch ∧ l.Continues u.learn ∧
      s.Frame u { s with learn := { l with
        nvs := u.learn.nvs, head := (l.head + 1) % 38784, jseq := (l.jseq + 1) % 2 ^ 32
        save := u.learn.save, waiting := u.learn.waiting, cfgReq := u.learn.cfgReq }, regs := u.regs, host := u.host }
        [Reg.NVS_WEAR_LO, Reg.NVS_WEAR_HI, Reg.NVS_JFILL, Reg.NVS_COMMITTED]) ∧
    (v.tries < 2 → Answers (exec (.nvsWriteDone false) s) fun u =>
      s.Frame u { s with learn := { l with
        nvs := u.learn.nvs, head := (l.head + 1) % 38784, save := some { v with tries := v.tries + 1 } }, host := u.host } []) ∧
    (2 ≤ v.tries → s.power.state ≠ .toDormant → Answers (exec (.nvsWriteDone false) s) fun u =>
      u.bit Reg.NVS_STATUS 4 = true ∧ l.Continues u.learn ∧
      s.Frame u { s with learn := { l with
        nvs := u.learn.nvs, head := (l.head + 1) % 38784, forceCompact := true, relearned := l.relearned ||| v.relearned
        save := u.learn.save, waiting := u.learn.waiting, cfgReq := u.learn.cfgReq }, regs := u.regs, host := u.host }
        [Reg.NVS_STATUS])) ∧
  (∀ (s : State) (v : Save) (l : Learn) (n : Nat), s.tileRuns = true → l = s.learn → l.save = some v → v.begun = true →
    (v.kind = .header ∧ n = 0 ∨ (v.kind = .compaction ∨ v.kind = .model) ∧ n = 9216) →
    (v.part < n → Answers (exec (.nvsWriteDone true) s) fun u =>
      u.learn.nvs.look 0 (imgUnit (v.part / 576) (1 - nfld l.slots (v.part / 576) (v.part / 576)) + v.part % 576) =
        imageRow l.syn (v.part / 576) v.epoch (v.part % 576) ∧
      s.Frame u { s with learn := { l with nvs := u.learn.nvs, save := u.learn.save }, host := u.host } [] ∧
      (u.learn.save.map Save.part) = some (v.part + 1)) ∧
    (v.part + 1 = n + 64 → s.power.state ≠ .toDormant → Answers (exec (.nvsWriteDone true) s) fun u =>
      u.learn.hgen = (l.hgen + 1) % 2 ^ 32 ∧ l.Continues u.learn ∧
      (v.kind ≠ .header → u.learn.ec = v.epoch ∧ u.learn.tailPos = l.head ∧ u.learn.tailJseq = l.jseq ∧
        u.reg Reg.NVS_COMMITTED = BitVec.ofNat 32 v.epoch ∧ (∀ i, (u.learn.syn.look {} i).chg = false)) ∧
      (v.kind = .compaction → u.learn.forceCompact = l.forceCompact ∧
        (∀ b < 16, u.bit Reg.NVS_BANK_FAIL b = (s.bit Reg.NVS_BANK_FAIL b && !(v.relearned.testBit b && !l.relearned.testBit b)))) ∧
      (v.kind = .model → u.learn.noModel = false ∧ u.reg Reg.LRN_EPOCH = BitVec.ofNat 32 (v.epoch + 1) ∧ u.reg Reg.LRN_STEP = 0#32 ∧
        u.reg Reg.NVS_BANK_FAIL = 0#32 ∧ u.learn.commitStart = v.start) ∧
      s.Frame u { s with learn := u.learn, regs := u.regs, host := u.host }
        [Reg.NVS_COMMITTED, Reg.NVS_BANK_FAIL, Reg.NVS_JFILL, Reg.NVS_COMPACTS, Reg.LRN_EPOCH, Reg.LRN_STEP]) ∧
    (2 ≤ v.tries → s.power.state ≠ .toDormant → Answers (exec (.nvsWriteDone false) s) fun u =>
      u.bit Reg.NVS_STATUS 4 = true ∧ l.Continues u.learn ∧
      s.Frame u { s with learn := { l with
        nvs := u.learn.nvs, save := u.learn.save, waiting := u.learn.waiting, cfgReq := u.learn.cfgReq
        forceCompact := l.forceCompact || v.kind != .header
        relearned := if v.kind = .header then l.relearned else l.relearned ||| v.relearned }, regs := u.regs, host := u.host }
        [Reg.NVS_STATUS])) ∧
  (∀ (s : State), s.tileRuns = true → s.learn.recovering = true →
    Answers (exec .modelRecoveryDone s) fun u =>
      u.learn.recovering = false ∧ u.learn.t0 = s.rtcTicks ∧ u.learn.commitStart = s.power.up ∧ u.learn.cfgReq = false ∧
      (s.learn.cfgReq = false ∨ s.learn.pickHeader = none → u.learn.save = none) ∧
      (s.learn.cfgReq = true → s.learn.pickHeader ≠ none →
        u.learn.save = some { kind := .header, epoch := u.learn.ec, begun := true }) ∧
      (s.learn.pickHeader = none → u.learn.noModel = true ∧ u.learn.syn = [] ∧ u.learn.nvs = s.learn.nvs ∧
        (s.learn.cfgReq = true → u.bit Reg.LRN_STATUS 4 = true) ∧
        (∀ a, 0x3400 ≤ a → a < 0x3600 → a ≠ Reg.NVS_JFILL → a ≠ Reg.LRN_STATUS ∨ s.learn.cfgReq = false →
          u.reg a = resetValue a)) ∧
      (∀ (h : Nat) (c1 : Bool) (p : Pass1), s.learn.pickHeader = some (h, c1) →
        p = s.learn.pass1 38787 (nfld h 143 128) (nfld h 175 144) 0 0 { c := nfld h 127 96, head := nfld h 143 128, jhead := nfld h 175 144 } →
        u.learn.noModel = false ∧ u.learn.ec = nfld h 127 96 ∧ u.learn.head = p.head ∧ u.learn.jseq = p.jhead ∧
        u.reg Reg.NVS_COMMITTED = BitVec.ofNat 32 p.c ∧ u.reg Reg.LRN_EPOCH = BitVec.ofNat 32 (p.c + 1) ∧
        (∀ b < 16, u.bit Reg.NVS_BANK_FAIL b = (s.learn.pickSlot (nfld h 127 96) p.c b).isNone)) ∧
      s.Frame u { s with learn := u.learn, regs := u.regs, host := u.host }
        (Reg.PWR_WAKE_INFO :: (List.range 0x200).map (0x3400 + ·))) ∧
  (∀ (s : State), s.tileRuns = true →
    Answers (exec .commitModel s) fun u =>
      (s.bit Reg.LRN_CTRL 0 = true ∨ s.learn.idle = false ∨ s.learn.recovering = true →
        u.bit Reg.LRN_STATUS 4 = true ∧ s.OnlyRegs u [Reg.LRN_STATUS]) ∧
      (s.bit Reg.LRN_CTRL 0 = false → s.learn.idle = true → s.learn.recovering = false →
        s.Frame u { s with learn := { s.sweep.learn with
          save := some { kind := .model, epoch := (s.reg Reg.LRN_EPOCH).toNat, begun := true, relearned := s.learn.relearned
                         start := s.power.up }
          relearned := 0, forceCompact := false }, host := u.host } [])) ∧
  (∀ (s : State), s.tileRuns = true →
    Answers (exec .endEpoch s) fun u =>
      (s.learn.commitRuns = true → u.bit Reg.LRN_STATUS 4 = true ∧ s.OnlyRegs u [Reg.LRN_STATUS]) ∧
      (s.learn.commitRuns = false → s.reg Reg.LRN_STEP = 0#32 → s.OnlyRegs u []) ∧
      (∀ v : Save, v = { kind := .journal, epoch := (s.reg Reg.LRN_EPOCH).toNat, steps := (s.reg Reg.LRN_STEP).toNat, start := s.power.up } →
        s.learn.commitRuns = false → s.reg Reg.LRN_STEP ≠ 0#32 →
        u.reg Reg.LRN_STEP = 0#32 ∧ u.reg Reg.LRN_EPOCH = s.reg Reg.LRN_EPOCH + 1#32 ∧
        s.Frame u { s with learn := { s.learn with
          sweepDue := true, commitStart := s.power.up
          save := if s.learn.save.isSome then s.learn.save else some v
          waiting := if s.learn.save.isSome then some v else s.learn.waiting }
                           regs := u.regs, host := u.host } [Reg.LRN_EPOCH, Reg.LRN_STEP])) ∧
  (∀ (s : State), s.tileRuns = true →
    Answers (exec .relearn s) fun u =>
      (∀ b < 16, ∀ i < 16384, u.learn.syn.look {} (16384 * b + i) =
        if s.bit Reg.LRN_RELEARN b && s.bit Reg.NVS_BANK_FAIL b then { en := true } else s.learn.syn.look {} (16384 * b + i)) ∧
      ((∃ b < 16, s.bit Reg.LRN_RELEARN b = true ∧ s.bit Reg.NVS_BANK_FAIL b = true) → u.learn.forceCompact = true) ∧
      (∀ b < 16, u.learn.relearned.testBit b =
        (s.learn.relearned.testBit b || s.bit Reg.LRN_RELEARN b && s.bit Reg.NVS_BANK_FAIL b)) ∧
      s.Frame u { s with learn := { s.learn with
        syn := u.learn.syn, forceCompact := u.learn.forceCompact, relearned := u.learn.relearned }, host := u.host } []) ∧
  (∀ (s : State), s.tileRuns = true →
    Answers (exec .lrnSaveCfg s) fun u =>
      (s.learn.noModel = true → u.bit Reg.LRN_STATUS 4 = true ∧ s.OnlyRegs u [Reg.LRN_STATUS]) ∧
      (s.learn.noModel = false → s.learn.save.isSome = true ∨ s.learn.recovering = true →
        s.Frame u { s with learn := { s.learn with cfgReq := true }, host := u.host } []) ∧
      (s.learn.noModel = false → s.learn.save = none → s.learn.waiting = none → s.learn.recovering = false →
        s.Frame u { s with learn := { s.learn with
          save := some { kind := .header, epoch := s.learn.ec, begun := true }, cfgReq := false }, host := u.host } [])) ∧
  (∀ (s : State), s.tileRuns = true →
    Answers (exec .lrnClr s) fun u =>
      u.reg Reg.LRN_EVCNT = 0#32 ∧ u.reg Reg.LRN_SATCNT = 0#32 ∧ s.OnlyRegs u [Reg.LRN_EVCNT, Reg.LRN_SATCNT])

/-- DANGEROUS_FAULT, OVER_TEMPERATURE, BIST_SLICE, BIST_PERIOD_END, DIAGNOSTIC_BIST_DONE, RECOVERY_READY,
REPLAY_DONE, FULL_DIE_RESET. A fault that reaches the monitor alone is counted; the first is recorded with source,
place and time, a later one sets more. With stop_on_fault the queues it affects are FAULTED. One that needs a full
die reset sets the state to 0x5; otherwise one with suspects starts the sequence, its queues stopping, where
auto_sub allows. Over-temperature presents 0x0E. A failed BIST slice presents 0x0D, and spoils the unused spare that
the unit is or belongs to; a period's end counts the starved engines. With no failed unit the fault was transient,
and so it is where only an unused spare failed, which is then spoilt; a failed engine is replaced by its core's free
spare, as the map, the count and the class show. Ready clears the substitutes, match table and suspects; done ends
it. SAF_RESET without its key is refused; with key and go it resets the main dies, keeping the record of
substitution. (R462, R464, R466, R481, R482, R483, R484, R485, R488, R489, R497, R499) -/
def Obligations.DangerousFaultsAndRecovery : Prop :=
  (∀ (s : State) (f : FaultReport) (t : List FaultReport), s.mainUp = true → s.safety.inbox = f :: t →
    Answers (exec (.dangerousFault 0) s) fun u =>
      u.safety.inbox = t ∧ (u.reg Reg.SAF_FAULT_CNT).toNat = min (2 ^ 32 - 1) ((s.reg Reg.SAF_FAULT_CNT).toNat + 1) ∧
      u.bit Reg.SAF_FAULT 0 = true ∧
      (s.bit Reg.SAF_FAULT 0 = false → u.fld Reg.SAF_FAULT 15 8 = f.src % 256 ∧ u.reg Reg.SAF_FAULT_LOC = BitVec.ofNat 32 f.loc ∧
        u.reg64 Reg.SAF_FAULT_TIME_LO = s.now % 2 ^ 64) ∧
      (s.bit Reg.SAF_FAULT 0 = true → u.bit Reg.SAF_FAULT 1 = true ∧ u.fld Reg.SAF_FAULT 15 8 = s.fld Reg.SAF_FAULT 15 8 ∧
        u.reg Reg.SAF_FAULT_LOC = s.reg Reg.SAF_FAULT_LOC) ∧
      (s.bit Reg.SAF_CTRL 6 = true → ∀ q ∈ s.affected f, s.bound q = true → (u.ctx (qLead (s.qdt q))).mode = .faulted) ∧
      (s.needsDieReset f = true → u.reg Reg.SAF_REC_STATUS = 37#32) ∧
      (s.needsDieReset f = false → s.bit Reg.SAF_CTRL 5 = true → s.suspectsOf f ≠ [] → s.recState ≠ 5 →
        u.reg Reg.SAF_REC_STATUS = 1#32 ∧ ∀ x ∈ s.suspectsOf f, x ∈ u.safety.suspects) ∧
      (s.needsDieReset f = false → (s.suspectsOf f = [] ∨ s.bit Reg.SAF_CTRL 5 = false ∨ s.recState = 5) →
        u.reg Reg.SAF_REC_STATUS = s.reg Reg.SAF_REC_STATUS) ∧
      (s.bit Reg.SAF_CTRL 6 = false →
        s.Frame u { s with safety := u.safety, subCopy := u.subCopy, regs := u.regs, host := u.host }
          ([Reg.SAF_FAULT, Reg.SAF_FAULT_LOC, Reg.SAF_FAULT_TIME_LO, Reg.SAF_FAULT_TIME_HI, Reg.SAF_FAULT_CNT, Reg.SAF_REC_STATUS,
            Reg.SAF_SPARE_STAT] ++ (List.range 8).map Reg.SAF_REC_QMASK))) ∧
  (∀ (s : State), s.mainUp = true →
    Answers (exec .overTemperature s) fun u =>
      s.Frame u { s with safety := { s.safety with inbox := s.safety.inbox ++ [{ src := 0x0E }] }, host := u.host } []) ∧
  (∀ (s : State) (x : BitVec 12) (last : Bool) (dn : List Nat), s.mainUp = true → s.power.state ≠ .hold → s.bit Reg.SAF_CTRL 4 = true →
    s.bistUnit x.toNat = true → s.bistIdle x.toNat = true →
    dn = (if last && decide (uEng x.toNat ≤ 16) then addNew s.safety.bistDone [x.toNat] else s.safety.bistDone) →
    Answers (exec (.bistSlice x last false) s) (fun u =>
      s.Frame u { s with safety := { s.safety with bistDone := dn }, host := u.host } []) ∧
    Answers (exec (.bistSlice x last true) s) (fun u =>
      u.safety.bistDone = dn ∧ u.safety.inbox = s.safety.inbox ++ [{ src := 0x0D, unit := some x.toNat }] ∧
      (∀ y, s.spareOf? x.toNat = some y → y ∈ u.safety.failedSpares) ∧
      (s.spareOf? x.toNat = none → u.safety.failedSpares = s.safety.failedSpares) ∧
      s.Frame u { s with safety := { s.safety with bistDone := dn, inbox := u.safety.inbox, failedSpares := u.safety.failedSpares }
                         subCopy := u.subCopy, regs := u.regs, host := u.host } [Reg.SAF_SPARE_STAT])) ∧
  (∀ (s : State), s.mainUp = true → s.bit Reg.SAF_CTRL 4 = true →
    Answers (exec .bistPeriodEnd s) fun u =>
      u.fld Reg.SAF_BIST_STAT 7 0 = (s.fld Reg.SAF_BIST_STAT 7 0 + 1) % 256 ∧
      u.fld Reg.SAF_BIST_STAT 15 8 = min (allEngines.filter fun e => !s.safety.bistDone.contains e).length 255 ∧
      s.Frame u { s with safety := { s.safety with bistDone := [] }, regs := u.regs, host := u.host } [Reg.SAF_BIST_STAT]) ∧
  (∀ (s : State) (fails : List (BitVec 12)), s.mainUp = true → (s.recState = 1 ∨ s.recState = 2) → s.fld Reg.SAF_REC_STATUS 5 3 = 0 →
    s.safety.failedUnits = [] → (∀ x ∈ fails, x.toNat ∉ s.safety.suspects) →
    Answers (exec (.diagnosticBistDone fails) s) fun u =>
      u.reg Reg.SAF_REC_STATUS = 26#32 ∧
      (∀ a, a < 0x10000000 ∨ 0x12000000 ≤ a → u.byte a = s.byte a) ∧
      s.Frame u { s with safety := { s.safety with substitutes := [], failedUnits := [] }, links := u.links, mem := u.mem
                         engines := u.engines, regs := u.regs, host := u.host } [Reg.SAF_REC_STATUS]) ∧
  (∀ (s : State) (x : BitVec 12) (n j : Nat), s.mainUp = true → (s.recState = 1 ∨ s.recState = 2) → s.fld Reg.SAF_REC_STATUS 5 3 = 0 →
    s.safety.failedUnits = [] → s.safety.suspects = [x.toNat] → uEng x.toNat ≠ 0x1F → s.coreAt x.toNat = some n → j < 16 →
    s.engAt x.toNat = some (16 * n + j) → s.safety.heldCores.contains n = false → s.spareEngFree n = true →
    Answers (exec (.diagnosticBistDone [x]) s) fun u =>
      u.reg (Reg.SCH_ENG_SUB n) = BitVec.ofNat 32 (j + 16 + s.physCore n * 256) ∧
      u.fld Reg.SAF_SPARE_STAT 6 0 = min 127 (s.fld Reg.SAF_SPARE_STAT 6 0 + 1) ∧ u.reg Reg.SAF_REC_STATUS = 11#32 ∧
      u.safety.suspects = [x.toNat] ∧ u.safety.substitutes = [s.place n 16] ∧ u.safety.failedUnits = [] ∧
      s.Frame u { s with safety := u.safety, subCopy := u.subCopy, links := u.links, mem := u.mem, engines := u.engines, regs := u.regs, host := u.host }
        [Reg.SCH_ENG_SUB n, Reg.SAF_SPARE_STAT, Reg.SAF_REC_STATUS]) ∧
  (∀ (s : State) (x : BitVec 12) (y : Nat), s.mainUp = true → (s.recState = 1 ∨ s.recState = 2) → s.fld Reg.SAF_REC_STATUS 5 3 = 0 →
    s.safety.failedUnits = [] → s.safety.suspects = [x.toNat] → s.idleUnit x.toNat = true → s.spareOf? x.toNat = some y →
    (∀ n, s.coreAt x.toNat = some n → s.safety.heldCores.contains n = false) →
    Answers (exec (.diagnosticBistDone [x]) s) fun u =>
      y ∈ u.safety.failedSpares ∧ u.reg Reg.SAF_REC_STATUS = 26#32 ∧
      s.Frame u { s with safety := u.safety, subCopy := u.subCopy, links := u.links, mem := u.mem, engines := u.engines, regs := u.regs, host := u.host }
        [Reg.SAF_SPARE_STAT, Reg.SAF_REC_STATUS]) ∧
  (∀ (s : State), s.mainUp = true → (s.recState = 2 ∨ s.recState = 3) → s.fld Reg.SAF_REC_STATUS 5 3 ≠ 0 →
    Answers (exec .recoveryReady s) fun u =>
      u.recState = 4 ∧ u.fld Reg.SAF_REC_STATUS 5 3 = s.fld Reg.SAF_REC_STATUS 5 3 ∧
      s.Frame u { s with safety := { s.safety with suspects := [], substitutes := [], table := [] }, links := u.links, mem := u.mem
                         engines := u.engines, regs := u.regs, host := u.host } [Reg.SAF_REC_STATUS]) ∧
  (∀ (s : State), s.takes Reg.SAF_REC_STATUS = true →
    Answers (exec .replayDone s) fun u =>
      (s.recState = 4 → u.recState = 0 ∧ s.OnlyRegs u [Reg.SAF_REC_STATUS]) ∧ (s.recState ≠ 4 → s.OnlyRegs u [])) ∧
  (∀ (s : State) (p : Path) (val : Word), s.takes Reg.SAF_RESET = true →
    Answers (exec (.fullDieReset p val) s) fun u =>
      (wfld val 15 0 ≠ 0x0D1E → u.bit Reg.CTL_ACC_ERR 0 = true ∧ s.OnlyRegs u [Reg.CTL_ACC_ERR]) ∧
      (wfld val 15 0 = 0x0D1E → val.getLsbD 16 = false → s.OnlyRegs u []) ∧
      (wfld val 15 0 = 0x0D1E → val.getLsbD 16 = true → u.mainUp = false ∧ u.reg Reg.PWR_RST_CAUSE = 2#32 ∧ u.sched = {} ∧
        u.safety.failedSpares = s.safety.failedSpares ∧ u.safety.heldCores = s.safety.heldCores ∧
        (∀ i < 3, s.bit (Reg.LNK_STATUS i) 1 = true → i ∈ u.safety.linkFails) ∧ u.meas = s.meas ∧ u.learn = s.learn ∧
        u.power = s.activity.power ∧ (∀ a, 0x8000000000000000 ≤ a → u.byte a = s.byte a)))

/-- DIGEST_RECORD_READY, PEER_RECORD_RECEIVE, MATCH_TABLE_SCAN, GOLDEN_CHECK, SAF_MODE_WRITE, TST_KEY_WRITE,
TST_DIG_ARM, TST_FAULT, TST_ECC_ARM. A ready record, inverted where TST_DIG is armed, awaits its golden check if
enabled, and in Doubles goes to the peer, while the pair link is up, and, unmatched, to the table. A peer's record
meets its partner: equal, both leave and the match is counted; unequal, or a key twice from one side, a fault is
presented; alone it waits. Each scan ages the table and presents 0x09, once, for what has waited timeout_ms. A
golden check compares 32 bytes, counts and presents 0x0C on a difference; captures them; or counts a skip. A mode
write takes mode and enables, an unused code reported, and empties the table. The two keys in order from one path
unlock the TST_ registers; while locked a write to one is refused. The golden clauses assume no flipped word and no
armed injection. (R470, R471, R472, R473, R480, R492, R494, R496, R498) -/
def Obligations.DoublesGoldenAndTest : Prop :=
  (∀ (s : State) (r x : DigestRec) (t g : List DigestRec), s.mainUp = true → s.safety.forming = r :: t →
    x = (if s.bit Reg.TST_DIG 31 then { r with d := r.d ^^^ 1 } else r) →
    g = (if s.bit Reg.SAF_CTRL 3 && r.kind == 0 then s.safety.golden ++ [x] else s.safety.golden) →
    Answers (exec .digestRecordReady s) fun u =>
      u.bit Reg.TST_DIG 31 = false ∧
      (s.inDoubles = false → s.Frame u { s with safety := { s.safety with forming := t, golden := g }, regs := u.regs, host := u.host } [Reg.TST_DIG]) ∧
      (s.inDoubles = true → (∀ m ∈ s.safety.table, m.dig.sameKey r = false) →
        s.Frame u { s with safety := { s.safety with
            forming := t, golden := g, sent := if s.modeAct = 2 then s.safety.sent ++ [x] else s.safety.sent
            table := s.safety.table ++ [{ dig := x, peer := false }] }
                           regs := u.regs, host := u.host } [Reg.TST_DIG])) ∧
  (∀ (s : State) (d : BitVec 64) (index : BitVec 48) (id : BitVec 8) (kind sat : Bool) (rows : BitVec 24) (r : DigestRec) (q : Option Nat),
    s.mainUp = true → s.modeAct = 2 →
    r = { d := d.toNat, index := index.toNat, id := id.toNat, kind := b2n kind, sat := sat, rows := rows.toNat } →
    q = (if kind then none else some id.toNat) →
    Answers (exec (.peerRecordReceive d index id kind sat rows) s) fun u =>
      ((∃ m ∈ s.safety.table, m.peer = true ∧ m.dig.sameKey r = true) →
        s.Frame u { s with safety := { s.safety with peerSeen := true, inbox := s.safety.inbox ++ [{ src := 7, queue := q }] }
                           regs := u.regs, host := u.host } [Reg.SAF_DBL_KEY_LO, Reg.SAF_DBL_KEY_HI]) ∧
      ((∀ m ∈ s.safety.table, m.dig.sameKey r = true → m.peer = false) →
        (∀ m, s.safety.table.find? (fun m => m.dig.sameKey r) = some m → m.dig.agrees r = true →
          u.reg Reg.SAF_DBL_MATCH = s.reg Reg.SAF_DBL_MATCH + 1#32 ∧
          s.Frame u { s with safety := { s.safety with peerSeen := true, table := s.safety.table.filter fun y => y != m }
                             regs := u.regs, host := u.host } [Reg.SAF_DBL_MATCH]) ∧
        (∀ m, s.safety.table.find? (fun m => m.dig.sameKey r) = some m → m.dig.agrees r = false →
          s.Frame u { s with safety := { s.safety with
              peerSeen := true, table := s.safety.table ++ [{ dig := r, peer := true }]
              inbox := s.safety.inbox ++ [{ src := if kind then 8 else 7, queue := q }] }
                             regs := u.regs, host := u.host } [Reg.SAF_DBL_KEY_LO, Reg.SAF_DBL_KEY_HI]) ∧
        (s.safety.table.find? (fun m => m.dig.sameKey r) = none →
          s.Frame u { s with safety := { s.safety with peerSeen := true, table := s.safety.table ++ [{ dig := r, peer := true }] }
                             host := u.host } []))) ∧
  (∀ (s : State) (old : MatchEntry → Bool), s.mainUp = true → s.modeAct = 2 → old = (fun m => decide (10 * s.dblTimeout ≤ m.scans + 1)) →
    Answers (exec .matchTableScan s) fun u =>
      s.Frame u { s with safety := { s.safety with
          table := s.safety.table.map fun m => { m with scans := m.scans + 1, late := m.late || old m }
          inbox := s.safety.inbox ++ (s.safety.table.filter fun m => old m && !m.late).map fun m =>
            { src := 9, queue := if m.dig.kind = 0 then some m.dig.id else none } }
                         regs := u.regs, host := u.host } [Reg.SAF_DBL_KEY_LO, Reg.SAF_DBL_KEY_HI]) ∧
  (∀ (s : State) (r : DigestRec) (t : List DigestRec) (a : Nat), s.mainUp = true → s.safety.golden = r :: t → a = s.goldAddr r.index → s.Quiet →
    Answers (exec .goldenCheck s) fun u =>
      (∀ f, s.rangeFault a 32 = some f →
        u.bit Reg.MEM_ADDR_FAULT 0 = true ∧ u.fld Reg.SAF_GOLD_CNT 31 16 = min 65535 (s.fld Reg.SAF_GOLD_CNT 31 16 + 1) ∧
        s.Frame u { s with safety := { s.safety with golden := t }, regs := u.regs, host := u.host }
          [Reg.MEM_ADDR_FAULT, Reg.MEM_ADDR_FAULT_LO, Reg.MEM_ADDR_FAULT_HI, Reg.SAF_GOLD_CNT]) ∧
      (s.rangeFault a 32 = none → s.bit Reg.SAF_GOLD_CFG 8 = true →
        u.Holds a (toBytes 32 r.bits) ∧ s.BytesBut u [(a, 32)] ∧
        s.Frame u { s with mem := u.mem, links := u.links, safety := { s.safety with golden := t }, host := u.host } []) ∧
      (s.rangeFault a 32 = none → s.bit Reg.SAF_GOLD_CFG 8 = false → (recOf (s.readNat a 32)).sameKey r = true →
        u.fld Reg.SAF_GOLD_CNT 15 0 = min 65535 (s.fld Reg.SAF_GOLD_CNT 15 0 + 1) ∧
        s.Frame u { s with safety := { s.safety with
            golden := t
            inbox := s.safety.inbox ++ if (recOf (s.readNat a 32)).agrees r then [] else [{ src := 0x0C, queue := some r.id }] }
                           regs := u.regs, host := u.host } [Reg.SAF_GOLD_CNT]) ∧
      (s.rangeFault a 32 = none → s.bit Reg.SAF_GOLD_CFG 8 = false → (recOf (s.readNat a 32)).sameKey r = false →
        u.fld Reg.SAF_GOLD_CNT 31 16 = min 65535 (s.fld Reg.SAF_GOLD_CNT 31 16 + 1) ∧
        s.Frame u { s with safety := { s.safety with golden := t }, regs := u.regs, host := u.host } [Reg.SAF_GOLD_CNT])) ∧
  (∀ (s : State) (val : Word), s.takes Reg.SAF_CTRL = true →
    Answers (exec (.safModeWrite val) s) fun u =>
      u.reg Reg.SAF_CTRL = (if wfld val 1 0 = 3 then val &&& 0x7C#32 else val &&& 0x7F#32) ∧
      (wfld val 1 0 = 3 → u.bit Reg.SAF_STATUS 1 = true) ∧ u.bit Reg.SAF_STATUS 4 = false ∧
      s.Frame u { s with safety := { s.safety with table := [], peerSeen := false, dblCfg := s.reg Reg.SAF_DBL_CFG }
                         regs := u.regs, host := u.host } [Reg.SAF_CTRL, Reg.SAF_STATUS]) ∧
  (∀ (s : State) (p : Path) (val : Word), s.takes Reg.TST_KEY = true →
    Answers (exec (.tstKeyWrite p val) s) fun u =>
      s.Frame u { s with safety := { s.safety with
        tstUnlocked := decide (wfld val 15 0 = 0x0A11) && decide (s.safety.tstFirst = some p)
        tstFirst := if wfld val 15 0 = 0x7E57 then some p else none }, host := u.host } []) ∧
  (∀ (s : State) (p : Path) (c : Instr) (a : Nat) (val : Word),
    (c = .tstDigArm p ∧ a = Reg.TST_DIG ∧ val = 0x80000000#32 ∨ c = .tstEccArm p val ∧ a = Reg.TST_ECC) → s.takes a = true →
    Answers (exec c s) fun u =>
      (s.safety.tstUnlocked = true → u.reg a = (val &&& 0xFFFF#32 ||| 0x80000000#32) ∧ s.OnlyRegs u [a]) ∧
      (s.safety.tstUnlocked = false → u.bit Reg.CTL_ACC_ERR 0 = true ∧ s.OnlyRegs u [Reg.CTL_ACC_ERR])) ∧
  (∀ (s : State) (p : Path), s.takes Reg.TST_FAULT = true →
    Answers (exec (.tstFault p) s) fun u =>
      (s.safety.tstUnlocked = true →
        s.Frame u { s with safety := { s.safety with inbox := s.safety.inbox ++ [{ src := 0x0F }] }, host := u.host } []) ∧
      (s.safety.tstUnlocked = false → u.bit Reg.CTL_ACC_ERR 0 = true ∧ s.OnlyRegs u [Reg.CTL_ACC_ERR]))

/-- RIATH_READ, RIATH_WRITE, RIATH_IDENT, RIATH_RESERVED, RIATH_FRAMING_ERROR, RIATH_FRAME_TIMEOUT, RIATH_RESPONSE,
RI_STAT_CLR. An intact request that reaches a listener, the H-die's being an activity, and is not the one it keeps,
is executed and answered with its tag and address and kept: a read with the register's value, a write with its
effect and its data, IDENT with the device's and listener's identity, an access refused under R8 with status 1 and a
record. A reserved code is answered with status 2 and not kept. The kept request again gets the kept response with
rep = 1 and counts. A wrong CRC counts and has no effect. A request that reaches no listener wakes the package from
DUGOUT where it is the H-die's and the wake is enabled. A framing error or timeout counts at every listener, or the
one addressed. The oldest response is sent over RO in the line code: each bit changes one wire of the pair, D taking
its value, and the pair is parked at (0, 0). A clear zeroes the counts. (R501, R503, R505, R506, R507, R510, R511,
R513, R524, R531) -/
def Obligations.RiathPort : Prop :=
  (∀ (s : State) (dest : BitVec 7) (tag : BitVec 4) (addr : BitVec 16) (data : Word) (crc : BitVec 8) (tile : Bool) (c : Instr) (cmd : Nat)
      (q : RiathReq), s.riTarget dest.toNat = some tile →
    ((c, cmd) ∈ [(Instr.riathRead dest tag addr data crc, 1), (.riathWrite dest tag addr data crc, 2), (.riathIdent dest tag addr data crc, 3)]) →
    q = { cmd := cmd, tag := tag.toNat, addr := addr.toNat, data := data } → ({ dest := dest.toNat, req := q, crc := crc.toNat } : RiathFrame).ok = true →
    Answers (exec c s) fun u =>
      (∀ r : RiathResp, (s.listener tile).kept ≠ some (q, r)) →
      (cmd = 1 → s.regThere tile .riath addr.toNat = true → ∀ r : RiathResp,
        r = { status := 0, rep := false, tag := tag.toNat, addr := addr.toNat
              data := ((if tile then s else s.activity).readReg .riath addr.toNat).1 } →
        (s.setListener tile { kept := some (q, r), out := (s.listener tile).out ++ [r] }).Frame u { s with wide := u.wide, host := u.host } []) ∧
      (cmd = 2 → s.regThere tile .riath addr.toNat = true → ∀ (t : State) (r : RiathResp), t = ((if tile then s else s.activity).write tile .riath addr.toNat data).2 →
        r = { status := 0, rep := false, tag := tag.toNat, addr := addr.toNat, data := data } →
        u = (t.setListener tile { kept := some (q, r), out := (t.listener tile).out ++ [r] }).settle) ∧
      (cmd = 3 → ∀ r : RiathResp,
        r = { status := 0, rep := false, tag := tag.toNat, addr := addr.toNat, data := if tile then 0x01B09160#32 else 0x00B09160#32 } →
        (s.setListener tile { kept := some (q, r), out := (s.listener tile).out ++ [r] }).Frame u { s with host := u.host } []) ∧
      (cmd ≠ 3 → s.regThere tile .riath addr.toNat = false → ∀ r : RiathResp,
        r = { status := 1, rep := false, tag := tag.toNat, addr := addr.toNat, data := 0#32 } →
        u.bit (if tile then Reg.CTL_TACC_ERR else Reg.CTL_ACC_ERR) 0 = true ∧
        (s.setListener tile { kept := some (q, r), out := (s.listener tile).out ++ [r] }).Frame u { s with regs := u.regs, host := u.host }
          [if tile then Reg.CTL_TACC_ERR else Reg.CTL_ACC_ERR])) ∧
  (∀ (s : State) (dest : BitVec 7) (code tag : BitVec 4) (addr : BitVec 16) (data : Word) (crc : BitVec 8) (tile : Bool) (q : RiathReq),
    s.riTarget dest.toNat = some tile → ¬(1 ≤ code.toNat ∧ code.toNat ≤ 3) →
    q = { cmd := code.toNat, tag := tag.toNat, addr := addr.toNat, data := data } →
    ({ dest := dest.toNat, req := q, crc := crc.toNat } : RiathFrame).ok = true → (∀ r : RiathResp, (s.listener tile).kept ≠ some (q, r)) →
    Answers (exec (.riathReserved dest code tag addr data crc) s) fun u =>
      (s.setListener tile { s.listener tile with
        out := (s.listener tile).out ++ [{ status := 2, rep := false, tag := tag.toNat, addr := addr.toNat, data := 0#32 }] }).Frame u
        { s with host := u.host } []) ∧
  (∀ (s : State) (dest : BitVec 7) (tag : BitVec 4) (addr : BitVec 16) (data : Word) (crc : BitVec 8) (tile : Bool) (c : Instr) (cmd : Nat)
      (q : RiathReq) (r : RiathResp) (good : Bool), s.riTarget dest.toNat = some tile →
    ((c, cmd) ∈ [(Instr.riathRead dest tag addr data crc, 1), (.riathWrite dest tag addr data crc, 2), (.riathIdent dest tag addr data crc, 3)]) →
    q = { cmd := cmd, tag := tag.toNat, addr := addr.toNat, data := data } → good = ({ dest := dest.toNat, req := q, crc := crc.toNat } : RiathFrame).ok →
    Answers (exec c s) fun u =>
      (good = true → (s.listener tile).kept = some (q, r) →
        u.fld (riStat tile) 30 24 = min 127 (s.fld (riStat tile) 30 24 + 1) ∧
        (s.setListener tile { s.listener tile with out := (s.listener tile).out ++ [{ r with rep := true }] }).Frame u
          { s with regs := u.regs, host := u.host } [riStat tile]) ∧
      (good = false → u.fld (riStat tile) 23 16 = min 255 (s.fld (riStat tile) 23 16 + 1) ∧ s.OnlyRegs u [riStat tile])) ∧
  (∀ (s : State) (dest : BitVec 7) (tag : BitVec 4) (addr : BitVec 16) (data : Word) (crc : BitVec 8),
    s.riTarget dest.toNat = none →
    ({ dest := dest.toNat, req := { cmd := 1, tag := tag.toNat, addr := addr.toNat, data := data }, crc := crc.toNat } : RiathFrame).ok = true →
    Answers (exec (.riathRead dest tag addr data crc) s) fun u =>
      (s.power.tileUp = true → s.riEnabled false = true → s.riOwn false = dest.toNat → s.power.state = .dugout → s.bit Reg.PWR_WAKE_EN 0 = true →
        s.ExitStarts u 1 false 2) ∧
      (s.riOwn false ≠ dest.toNat ∨ s.bit Reg.PWR_WAKE_EN 0 = false → s.OnlyRegs u [])) ∧
  (∀ (s : State) (dest : Option (BitVec 7)) (c : Instr) (hi lo : Nat),
    ((c, hi, lo) ∈ [(Instr.riathFramingError dest, 7, 0), (.riathFrameTimeout dest, 15, 8)]) →
    Answers (exec c s) fun u =>
      (∀ tile, u.fld (riStat tile) hi lo =
        if s.riListens tile && (match dest with | some d => decide (s.riOwn tile = d.toNat) | none => true)
        then min 255 (s.fld (riStat tile) hi lo + 1) else s.fld (riStat tile) hi lo) ∧
      s.OnlyRegs u [riStat false, riStat true]) ∧
  (∀ (s : State) (tile : Bool) (r : RiathResp) (t : List RiathResp), (s.listener tile).out = r :: t →
    Answers (exec (.riathResponse tile) s) fun u =>
      (let v := s.setListener tile { s.listener tile with out := t }
       ({ v with host := { v.host with
          sent := s.host.sent ++ [r.frame (s.riOwn tile)], ro := lineFrame (r.frame (s.riOwn tile)) } } : State).Frame u
         { s with host := u.host } [])) ∧
  (∀ (bs : List Nat) (ls : List (Bool × Bool)), bs.length = 9 → ls = lineFrame bs →
    ((ls.take 72).map Prod.fst = bs.flatMap byteBits) ∧ ls.getLast? = some (false, false) ∧ (ls.length = 72 ∨ ls.length = 74) ∧
    (∀ i < ls.length, ∀ p q, p = ((false, false) :: ls).getD i (false, false) → q = ls.getD i (false, false) →
      (p.1 = q.1 ∧ p.2 ≠ q.2) ∨ (p.1 ≠ q.1 ∧ p.2 = q.2))) ∧
  (∀ (s : State) (tile : Bool), (if tile then s.power.tileUp else s.hAnswers) = true →
    Answers (exec (.riStatClr tile) s) fun u => u.reg (riStat tile) = 0#32 ∧ s.OnlyRegs u [riStat tile])

/-- BAR2_ACCESS, PCIE_HOT_RESET, PCIE_LINK_UP, MSIX_UNMASK, EVENT_ENABLE_WRITE, PCIE_CONFIG_WRITE. A window write to
mapped device memory below the host's stores each enabled byte and no other; a read returns its bytes; any other
range is a window fault, and a read of it returns 0. A hot reset takes the link down and the endpoint's enables with
it. A link that comes up reissues the shadows owed from an outage, once host memory is reachable, each to its
address and as a message. A vector unmasked sends its pending message or counts it lost. A configuration write takes
its five values and sends what is pending on vectors that it lets go. An enable write takes the 28 event bits; what
is then raised and enabled counts as announced. The window clauses assume no flipped word and no armed injection and
open die links; memory's end is host memory. (R514, R516, R517, R518, R519, R521, R528, R529, R530, R427, names the
ASPM enable) -/
def Obligations.HostLinkCommands : Prop :=
  (∀ (s : State) (off : BitVec 28) (bs : List (Option Byte)) (n a : Nat), s.hAnswers = true → a = s.winAddr off.toNat → s.Quiet →
    Answers (exec (.bar2Access off true bs n) s) (fun u =>
      (s.rangeFault a bs.length = none → a + bs.length ≤ 2 ^ 63 →
        (∀ i b, bs[i]? = some (some b) → u.byte (a + i) = b) ∧ (∀ i, bs[i]? = some none → u.byte (a + i) = s.byte (a + i)) ∧
        s.BytesBut u [(a, bs.length)] ∧ s.Frame u { s with mem := u.mem, links := u.links, host := u.host } []) ∧
      (s.rangeFault a bs.length ≠ none ∨ 2 ^ 63 < a + bs.length →
        u.bit Reg.CTL_ACC_ERR 2 = true ∧ s.OnlyRegs u [Reg.CTL_ACC_ERR])) ∧
    Answers (exec (.bar2Access off false bs n) s) (fun u =>
      (s.rangeFault a n = none → a + n ≤ 2 ^ 63 →
        ({ s with host := { s.host with reads := s.host.reads ++ [s.readNat a n] } } : State).Frame u { s with host := u.host } []) ∧
      (s.rangeFault a n ≠ none ∨ 2 ^ 63 < a + n →
        u.bit Reg.CTL_ACC_ERR 2 = true ∧
        ({ s with host := { s.host with reads := s.host.reads ++ [0] } } : State).Frame u { s with regs := u.regs, host := u.host }
          [Reg.CTL_ACC_ERR]))) ∧
  (∀ (s : State), s.mainUp = true → s.host.up = true →
    Answers (exec .pcieHotReset s) fun u =>
      u.bit Reg.CTL_PCIE_STAT 8 = true ∧
      ({ s with host := { s.host with
          up := false, speed := 0, width := 0, d3 := false, aspm := false, bme := false, msixEn := false, fnMask := false, owed := true } } : State).Frame u
        { s with regs := u.regs, host := u.host } [Reg.CTL_PCIE_STAT]) ∧
  (∀ (s : State) (speed : BitVec 3) (width : BitVec 4) (h : HostLink), s.mainUp = true → s.domHeld 10 = false →
    h = { s.host with up := true, speed := speed.toNat, width := width.toNat } →
    Answers (exec (.pcieLinkUp speed width) s) fun u =>
      (s.host.owed = false ∨ h.reach = false → ({ s with host := h } : State).Frame u { s with host := u.host } []) ∧
      (s.host.owed = true → h.reach = true →
        (let ms := (s.sync.ctrs.filter fun e => decide (e.1 < 0x1000) && e.2.shadowEn).map fun e =>
           HostMsg.shadow e.2.shadowAddr (e.2.v + b2n e.2.sat * 2 ^ 48)
         ({ s with host := { h with owed := false, posted := h.posted ++ ms } } : State).Frame u { s with mem := u.mem, host := u.host } [] ∧
         s.BytesBut u ((s.sync.ctrs.filter fun e => decide (e.1 < 0x1000) && e.2.shadowEn).map fun e => (2 ^ 63 + e.2.shadowAddr, 8))))) ∧
  (∀ (s : State) (v : Fin 32) (one : BitVec 32) (h : HostLink), s.mainUp = true → s.host.up = true → one = BitVec.ofNat 32 (2 ^ v.val) →
    h = { s.host with vecMask := s.host.vecMask &&& ~~~one } →
    Answers (exec (.msixUnmask v true) s) (fun u =>
      ({ s with host := { s.host with vecMask := s.host.vecMask ||| one } } : State).Frame u { s with host := u.host } []) ∧
    Answers (exec (.msixUnmask v false) s) (fun u =>
      (s.host.pend.getLsbD v = false ∨ s.host.msixEn = false ∨ s.host.fnMask = true →
        ({ s with host := h } : State).Frame u { s with host := u.host } []) ∧
      (s.host.pend.getLsbD v = true → s.host.msixEn = true → s.host.fnMask = false →
        (h.reach = true → ({ s with host := { h with pend := h.pend &&& ~~~one, posted := h.posted ++ [.msix v.val] } } : State).Frame u
          { s with host := u.host } []) ∧
        (h.reach = false → ({ s with host := { h with pend := h.pend &&& ~~~one, lost := (h.lost + 1) % 65536 } } : State).Frame u
          { s with host := u.host } [])))) ∧
  (∀ (s : State) (p : Path) (val : Word), s.hAnswers = true →
    Answers (exec (.eventEnableWrite p val) s) fun u =>
      u.reg Reg.CTL_EVT_EN &&& 0x0FFFFFFF#32 = val &&& 0x0FFFFFFF#32 ∧ u.host.evtSeen = u.evtStatus &&& (val &&& 0x0FFFFFFF#32).toNat ∧
      s.OnlyRegs u [Reg.CTL_EVT_EN]) ∧
  (∀ (s : State) (bme d3 en mask aspm : Bool) (h : HostLink), s.mainUp = true → s.host.up = true → s.host.owed = false →
    h = { s.host with bme := bme, d3 := d3, msixEn := en, fnMask := mask, aspm := aspm } →
    Answers (exec (.pcieConfigWrite bme ⟨d3, aspm⟩ en mask) s) fun u =>
      (s.host.pend = 0#32 ∨ en = false ∨ mask = true → ({ s with host := h } : State).Frame u { s with host := u.host } []) ∧
      (en = true → mask = false → h.reach = true →
        (let ms := ((List.range 32).filter fun v => h.pend.getLsbD v && !h.vecMask.getLsbD v).map HostMsg.msix
         ({ s with host := { h with pend := h.pend &&& h.vecMask, posted := h.posted ++ ms } } : State).Frame u { s with host := u.host } [])))
end

