-- ==== Sys2Proof/Laws/Line.lean ====
section
/-! SUPPORT. The line code of the Riath pairs: what is sent is read back as sent. -/

namespace Sys2Proof.Machine

/-- A bit's level of D is the bit. -/
@[simp] theorem lineStep_fst (p : Bool × Bool) (b : Bool) : (lineStep p b).1 = b := rfl

/-- D follows the bits sent. -/
@[simp] theorem lineLevels_fst (p : Bool × Bool) (bs : List Bool) : (lineLevels p bs).map Prod.fst = bs := by
  induction bs generalizing p with
  | nil => rfl
  | cons b t ih => simp [lineLevels, ih]

@[simp] theorem lineLevels_length (p : Bool × Bool) (bs : List Bool) : (lineLevels p bs).length = bs.length := by
  have h := congrArg List.length (lineLevels_fst p bs)
  rwa [List.length_map] at h

@[simp] theorem byteBits_length (n : Nat) : (byteBits n).length = 8 := by simp [byteBits]

/-- The bits of a byte give the byte. -/
theorem bitsByte_byteBits (n : Nat) (h : n < 256) : bitsByte (byteBits n) = n := by
  have : ∀ k : Fin 256, bitsByte (byteBits k) = k := by decide +kernel
  exact this ⟨n, h⟩

/-- Nine bytes sent over an idle pair are read off it. -/
theorem lineRead_lineFrame (bs : List Nat) (hl : bs.length = 9) (hb : ∀ b ∈ bs, b < 256) : lineRead (lineFrame bs) = bs := by
  have key : ∀ (cs : List Nat) (t : List Bool), (∀ b ∈ cs, b < 256) →
      (List.range cs.length).map (fun i => bitsByte ((((cs.flatMap byteBits) ++ t).drop (8 * i)).take 8)) = cs := by
    intro cs t
    induction cs with
    | nil => intro _; rfl
    | cons c cs ih =>
      intro h
      rw [List.length_cons, List.range_succ_eq_map, List.map_cons, List.map_map]
      have h0 : bitsByte (((((c :: cs).flatMap byteBits) ++ t).drop (8 * 0)).take 8) = c := by
        rw [List.flatMap_cons, List.append_assoc, Nat.mul_zero, List.drop_zero, List.take_append_of_le_length (by simp)]
        rw [List.take_of_length_le (by simp), bitsByte_byteBits c (h c (by simp))]
      have h1 : ∀ i, (((c :: cs).flatMap byteBits) ++ t).drop (8 * (i + 1)) = ((cs.flatMap byteBits) ++ t).drop (8 * i) := by
        intro i
        rw [List.flatMap_cons, List.append_assoc, List.drop_append]
        simp only [byteBits_length]
        rw [List.drop_of_length_le (by rw [byteBits_length]; omega), List.nil_append]
        rfl
      rw [h0]
      congr 1
      simp only [Function.comp_def, Nat.succ_eq_add_one, h1]
      exact ih (fun b hb => h b (by simp [hb]))
  unfold lineRead lineFrame
  rw [List.map_append, lineLevels_fst, ← hl]
  exact key bs _ hb

/-- A frame's bytes before its CRC, written out. -/
theorem frameBytes_eq (b0 b1 addr : Nat) (data : Word) : frameBytes b0 b1 addr data =
    [b0, b1, addr % 256, addr / 256 % 256, data.toNat % 256, data.toNat / 256 % 256, data.toNat / 65536 % 256,
      data.toNat / 16777216 % 256] := by
  simp [frameBytes, List.range_succ]

/-- The listener reads the request that the master sent. -/
theorem riReceive_levels (f : RiathFrame) (hd : f.dest < 128) (hc : f.req.cmd < 16) (ht : f.req.tag < 16) (ha : f.req.addr < 65536)
    (hk : f.crc < 256) : riReceive f.levels = some f := by
  obtain ⟨dest, ⟨cmd, tag, addr, data⟩, crc⟩ := f
  simp only at hd hc ht ha hk
  have hx := data.isLt
  have e : lineRead (RiathFrame.levels { dest := dest, req := { cmd := cmd, tag := tag, addr := addr, data := data }, crc := crc }) =
      [dest, cmd + tag * 16, addr % 256, addr / 256 % 256, data.toNat % 256, data.toNat / 256 % 256, data.toNat / 65536 % 256,
        data.toNat / 16777216 % 256, crc] := by
    unfold RiathFrame.levels
    simp only [frameBytes_eq, List.cons_append, List.nil_append]
    apply lineRead_lineFrame
    · rfl
    · simp only [List.mem_cons, List.not_mem_nil, or_false]
      omega
  have d : BitVec.ofNat 32 (data.toNat % 256 + 256 * (data.toNat / 256 % 256) + 65536 * (data.toNat / 65536 % 256) +
      16777216 * (data.toNat / 16777216 % 256)) = data := by
    apply BitVec.eq_of_toNat_eq
    simp only [BitVec.toNat_ofNat]
    omega
  unfold riReceive
  rw [e]
  simp only [hd, if_true, d, Option.some.injEq, RiathFrame.mk.injEq, RiathReq.mk.injEq, true_and, and_true]
  refine ⟨by omega, by omega, by omega⟩

/-- So the wire adds nothing to a request whose fields fit it. -/
theorem riWire_eq (s : State) (f : RiathFrame) (hd : f.dest < 128) (hc : f.req.cmd < 16) (ht : f.req.tag < 16)
    (ha : f.req.addr < 65536) (hk : f.crc < 256) : s.riWire f = s.riath f := by
  rw [State.riWire, riReceive_levels f hd hc ht ha hk]

end Sys2Proof.Machine
end

