-- ==== Sys2Proof/Laws/Map.lean ====
section
/-! SUPPORT. The laws of sparse maps: a read after a write, and the canonical form that every operation keeps. -/

namespace Sys2Proof.Machine

open SMap

theorem smap_look_drop_same {α : Type} (d : α) (m : SMap α) (k : Nat) : look d (m.drop k) k = d := by
  induction m with
  | nil => rfl
  | cons e t ih =>
    obtain ⟨a, v⟩ := e
    by_cases h : a = k
    · subst h; simpa [SMap.drop, look] using ih
    · have h' : ¬ k = a := fun e => h e.symm
      simpa [SMap.drop, look, h, h'] using ih

theorem smap_look_drop_other {α : Type} (d : α) (m : SMap α) (k j : Nat) (hj : j ≠ k) :
    look d (m.drop k) j = look d m j := by
  induction m with
  | nil => rfl
  | cons e t ih =>
    obtain ⟨a, v⟩ := e
    by_cases h : a = k
    · subst h; simpa [SMap.drop, look, hj] using ih
    · by_cases h2 : j = a
      · simp [SMap.drop, look, h, h2]
      · simpa [SMap.drop, look, h, h2] using ih

theorem smap_look_enter_same {α : Type} (d : α) (m : SMap α) (k : Nat) (v : α) (hk : ∀ e ∈ m, e.1 ≠ k) :
    look d (m.enter k v) k = v := by
  induction m with
  | nil => simp [enter, look]
  | cons e t ih =>
    have he : ¬ k = e.1 := fun h => hk e (by simp) h.symm
    by_cases h : k < e.1
    · simp [enter, look, h]
    · simpa [enter, look, h, he] using ih fun x hx => hk x (by simp [hx])

theorem smap_look_enter_other {α : Type} (d : α) (m : SMap α) (k j : Nat) (v : α) (hj : j ≠ k) :
    look d (m.enter k v) j = look d m j := by
  induction m with
  | nil => simp [enter, look, hj]
  | cons e t ih =>
    by_cases h : k < e.1
    · simp [enter, look, h, hj]
    · by_cases h2 : j = e.1
      · simp [enter, look, h, h2]
      · simpa [enter, look, h, h2] using ih

theorem smap_drop_keys {α : Type} (m : SMap α) (k : Nat) : ∀ e ∈ m.drop k, e.1 ≠ k := by
  intro e he
  simpa using (List.mem_filter.mp he).2

/-- A read after a write of the same key gives what was written. -/
@[simp] theorem smap_look_put_same {α : Type} [DecidableEq α] (d : α) (m : SMap α) (k : Nat) (v : α) :
    look d (m.put d k v) k = v := by
  unfold SMap.put
  split
  · rename_i h; rw [smap_look_drop_same, h]
  · exact smap_look_enter_same d _ k v (smap_drop_keys m k)

/-- A write leaves every other key as it was. -/
theorem smap_look_put_other {α : Type} [DecidableEq α] (d : α) (m : SMap α) (k j : Nat) (v : α) (hj : j ≠ k) :
    look d (m.put d k v) j = look d m j := by
  unfold SMap.put
  split
  · exact smap_look_drop_other d m k j hj
  · rw [smap_look_enter_other d _ k j v hj, smap_look_drop_other d m k j hj]

/-- The same as one equation. -/
theorem smap_look_put {α : Type} [DecidableEq α] (d : α) (m : SMap α) (k j : Nat) (v : α) :
    look d (m.put d k v) j = if j = k then v else look d m j := by
  split
  · rename_i h; rw [h, smap_look_put_same]
  · rename_i h; exact smap_look_put_other d m k j v h

theorem smap_above_drop {α : Type} (b : Nat) (m : SMap α) (k : Nat) (h : above b m = true) : above b (m.drop k) = true := by
  simp only [above, List.all_eq_true] at *
  exact fun e he => h e (List.mem_filter.mp he).1

theorem smap_above_enter {α : Type} (b : Nat) (m : SMap α) (k : Nat) (v : α) (h : above b m = true) (hb : b < k) :
    above b (m.enter k v) = true := by
  induction m with
  | nil => simpa [above, enter] using hb
  | cons e t ih =>
    simp only [above, List.all_cons, Bool.and_eq_true] at h
    by_cases hk : k < e.1
    · simp only [enter, hk, if_true, above, List.all_cons, Bool.and_eq_true]
      exact ⟨by simpa using hb, h.1, h.2⟩
    · simp only [enter, hk, if_false, above, List.all_cons, Bool.and_eq_true]
      exact ⟨h.1, ih h.2⟩

theorem smap_above_mono {α : Type} (a b : Nat) (m : SMap α) (hab : a ≤ b) (h : above b m = true) : above a m = true := by
  simp only [above, List.all_eq_true, decide_eq_true_eq] at *
  exact fun e he => Nat.lt_of_le_of_lt hab (h e he)

theorem smap_wf_cons {α : Type} [DecidableEq α] (d : α) (e : Nat × α) (t : SMap α) :
    wf d (e :: t) = true ↔ above e.1 t = true ∧ e.2 ≠ d ∧ wf d t = true := by
  simp [wf, and_assoc]

theorem smap_wf_drop {α : Type} [DecidableEq α] (d : α) (m : SMap α) (k : Nat) (h : wf d m = true) : wf d (m.drop k) = true := by
  induction m with
  | nil => rfl
  | cons e t ih =>
    rw [smap_wf_cons] at h
    by_cases hk : e.1 = k
    · simpa [SMap.drop, hk] using ih h.2.2
    · have : SMap.drop (e :: t) k = e :: SMap.drop t k := by simp [SMap.drop, hk]
      rw [this, smap_wf_cons]
      exact ⟨smap_above_drop _ _ _ h.1, h.2.1, ih h.2.2⟩

theorem smap_wf_enter {α : Type} [DecidableEq α] (d : α) (m : SMap α) (k : Nat) (v : α) (h : wf d m = true)
    (hk : ∀ e ∈ m, e.1 ≠ k) (hv : v ≠ d) : wf d (m.enter k v) = true := by
  induction m with
  | nil => simp [enter, wf, above, hv]
  | cons e t ih =>
    rw [smap_wf_cons] at h
    by_cases hlt : k < e.1
    · have : enter (e :: t) k v = (k, v) :: e :: t := by simp [enter, hlt]
      rw [this, smap_wf_cons, smap_wf_cons]
      refine ⟨?_, hv, h⟩
      have h1 := smap_above_mono k e.1 t (Nat.le_of_lt hlt) h.1
      simp only [above, List.all_cons, Bool.and_eq_true] at *
      exact ⟨by simpa using hlt, h1⟩
    · have : enter (e :: t) k v = e :: enter t k v := by simp [enter, hlt]
      rw [this, smap_wf_cons]
      have hne := hk e (by simp)
      exact ⟨smap_above_enter _ _ _ _ h.1 (by omega), h.2.1, ih h.2.2 fun x hx => hk x (by simp [hx])⟩

/-- A write keeps the canonical form. -/
theorem smap_wf_put {α : Type} [DecidableEq α] (d : α) (m : SMap α) (k : Nat) (v : α) (h : wf d m = true) :
    wf d (m.put d k v) = true := by
  unfold SMap.put
  split
  · exact smap_wf_drop d m k h
  · rename_i hv
    exact smap_wf_enter d _ k v (smap_wf_drop d m k h) (smap_drop_keys m k) hv

end Sys2Proof.Machine
end

