-- ==== Sys2Proof/Laws/State.lean ====
section
/-! SUPPORT. What each update of the state leaves alone, field by field, so that no proof unfolds a record update. -/

namespace Sys2Proof.Machine

variable (s : State)

@[simp] theorem setReg_regs (a : Nat) (w : Word) : (s.setReg a w).regs = s.regs.put 0#32 a w := rfl
@[simp] theorem setReg_wide (a : Nat) (w : Word) : (s.setReg a w).wide = s.wide := rfl
@[simp] theorem setReg_mem (a : Nat) (w : Word) : (s.setReg a w).mem = s.mem := rfl
@[simp] theorem setReg_roots (a : Nat) (w : Word) : (s.setReg a w).roots = s.roots := rfl
@[simp] theorem setReg_align (a : Nat) (w : Word) : (s.setReg a w).align = s.align := rfl
@[simp] theorem setReg_avs (a : Nat) (w : Word) : (s.setReg a w).avs = s.avs := rfl
@[simp] theorem setReg_sched (a : Nat) (w : Word) : (s.setReg a w).sched = s.sched := rfl
@[simp] theorem setReg_engines (a : Nat) (w : Word) : (s.setReg a w).engines = s.engines := rfl
@[simp] theorem setReg_links (a : Nat) (w : Word) : (s.setReg a w).links = s.links := rfl
@[simp] theorem setReg_sync (a : Nat) (w : Word) : (s.setReg a w).sync = s.sync := rfl
@[simp] theorem setReg_ingest (a : Nat) (w : Word) : (s.setReg a w).ingest = s.ingest := rfl
@[simp] theorem setReg_time (a : Nat) (w : Word) : (s.setReg a w).time = s.time := rfl
@[simp] theorem setReg_safety (a : Nat) (w : Word) : (s.setReg a w).safety = s.safety := rfl
@[simp] theorem setReg_subCopy (a : Nat) (w : Word) : (s.setReg a w).subCopy = s.subCopy := rfl
@[simp] theorem setReg_host (a : Nat) (w : Word) : (s.setReg a w).host = s.host := rfl
@[simp] theorem setReg_tap (a : Nat) (w : Word) : (s.setReg a w).tap = s.tap := rfl
@[simp] theorem setReg_power (a : Nat) (w : Word) : (s.setReg a w).power = s.power := rfl
@[simp] theorem setReg_meas (a : Nat) (w : Word) : (s.setReg a w).meas = s.meas := rfl
@[simp] theorem setReg_learn (a : Nat) (w : Word) : (s.setReg a w).learn = s.learn := rfl
@[simp] theorem setReg_freeCtr (a : Nat) (w : Word) : (s.setReg a w).freeCtr = s.freeCtr := rfl
@[simp] theorem setReg_pending (a : Nat) (w : Word) : (s.setReg a w).pending = s.pending := rfl

@[simp] theorem setFld_wide (a hi lo v : Nat) : (s.setFld a hi lo v).wide = s.wide := rfl
@[simp] theorem setFld_mem (a hi lo v : Nat) : (s.setFld a hi lo v).mem = s.mem := rfl
@[simp] theorem setFld_roots (a hi lo v : Nat) : (s.setFld a hi lo v).roots = s.roots := rfl
@[simp] theorem setFld_align (a hi lo v : Nat) : (s.setFld a hi lo v).align = s.align := rfl
@[simp] theorem setFld_avs (a hi lo v : Nat) : (s.setFld a hi lo v).avs = s.avs := rfl
@[simp] theorem setFld_sched (a hi lo v : Nat) : (s.setFld a hi lo v).sched = s.sched := rfl
@[simp] theorem setFld_engines (a hi lo v : Nat) : (s.setFld a hi lo v).engines = s.engines := rfl
@[simp] theorem setFld_links (a hi lo v : Nat) : (s.setFld a hi lo v).links = s.links := rfl
@[simp] theorem setFld_sync (a hi lo v : Nat) : (s.setFld a hi lo v).sync = s.sync := rfl
@[simp] theorem setFld_ingest (a hi lo v : Nat) : (s.setFld a hi lo v).ingest = s.ingest := rfl
@[simp] theorem setFld_time (a hi lo v : Nat) : (s.setFld a hi lo v).time = s.time := rfl
@[simp] theorem setFld_safety (a hi lo v : Nat) : (s.setFld a hi lo v).safety = s.safety := rfl
@[simp] theorem setFld_subCopy (a hi lo v : Nat) : (s.setFld a hi lo v).subCopy = s.subCopy := rfl
@[simp] theorem setFld_host (a hi lo v : Nat) : (s.setFld a hi lo v).host = s.host := rfl
@[simp] theorem setFld_tap (a hi lo v : Nat) : (s.setFld a hi lo v).tap = s.tap := rfl
@[simp] theorem setFld_power (a hi lo v : Nat) : (s.setFld a hi lo v).power = s.power := rfl
@[simp] theorem setFld_meas (a hi lo v : Nat) : (s.setFld a hi lo v).meas = s.meas := rfl
@[simp] theorem setFld_learn (a hi lo v : Nat) : (s.setFld a hi lo v).learn = s.learn := rfl
@[simp] theorem setFld_freeCtr (a hi lo v : Nat) : (s.setFld a hi lo v).freeCtr = s.freeCtr := rfl
@[simp] theorem setFld_pending (a hi lo v : Nat) : (s.setFld a hi lo v).pending = s.pending := rfl

@[simp] theorem setBit_wide (a n : Nat) (b : Bool) : (s.setBit a n b).wide = s.wide := rfl
@[simp] theorem setBit_mem (a n : Nat) (b : Bool) : (s.setBit a n b).mem = s.mem := rfl
@[simp] theorem setBit_roots (a n : Nat) (b : Bool) : (s.setBit a n b).roots = s.roots := rfl
@[simp] theorem setBit_align (a n : Nat) (b : Bool) : (s.setBit a n b).align = s.align := rfl
@[simp] theorem setBit_avs (a n : Nat) (b : Bool) : (s.setBit a n b).avs = s.avs := rfl
@[simp] theorem setBit_sched (a n : Nat) (b : Bool) : (s.setBit a n b).sched = s.sched := rfl
@[simp] theorem setBit_engines (a n : Nat) (b : Bool) : (s.setBit a n b).engines = s.engines := rfl
@[simp] theorem setBit_links (a n : Nat) (b : Bool) : (s.setBit a n b).links = s.links := rfl
@[simp] theorem setBit_sync (a n : Nat) (b : Bool) : (s.setBit a n b).sync = s.sync := rfl
@[simp] theorem setBit_ingest (a n : Nat) (b : Bool) : (s.setBit a n b).ingest = s.ingest := rfl
@[simp] theorem setBit_time (a n : Nat) (b : Bool) : (s.setBit a n b).time = s.time := rfl
@[simp] theorem setBit_safety (a n : Nat) (b : Bool) : (s.setBit a n b).safety = s.safety := rfl
@[simp] theorem setBit_subCopy (a n : Nat) (b : Bool) : (s.setBit a n b).subCopy = s.subCopy := rfl
@[simp] theorem setBit_host (a n : Nat) (b : Bool) : (s.setBit a n b).host = s.host := rfl
@[simp] theorem setBit_tap (a n : Nat) (b : Bool) : (s.setBit a n b).tap = s.tap := rfl
@[simp] theorem setBit_power (a n : Nat) (b : Bool) : (s.setBit a n b).power = s.power := rfl
@[simp] theorem setBit_meas (a n : Nat) (b : Bool) : (s.setBit a n b).meas = s.meas := rfl
@[simp] theorem setBit_learn (a n : Nat) (b : Bool) : (s.setBit a n b).learn = s.learn := rfl
@[simp] theorem setBit_freeCtr (a n : Nat) (b : Bool) : (s.setBit a n b).freeCtr = s.freeCtr := rfl
@[simp] theorem setBit_pending (a n : Nat) (b : Bool) : (s.setBit a n b).pending = s.pending := rfl

@[simp] theorem setNat_wide (a v : Nat) : (s.setNat a v).wide = s.wide := rfl
@[simp] theorem setNat_mem (a v : Nat) : (s.setNat a v).mem = s.mem := rfl
@[simp] theorem setNat_roots (a v : Nat) : (s.setNat a v).roots = s.roots := rfl
@[simp] theorem setNat_align (a v : Nat) : (s.setNat a v).align = s.align := rfl
@[simp] theorem setNat_avs (a v : Nat) : (s.setNat a v).avs = s.avs := rfl
@[simp] theorem setNat_sched (a v : Nat) : (s.setNat a v).sched = s.sched := rfl
@[simp] theorem setNat_engines (a v : Nat) : (s.setNat a v).engines = s.engines := rfl
@[simp] theorem setNat_links (a v : Nat) : (s.setNat a v).links = s.links := rfl
@[simp] theorem setNat_sync (a v : Nat) : (s.setNat a v).sync = s.sync := rfl
@[simp] theorem setNat_ingest (a v : Nat) : (s.setNat a v).ingest = s.ingest := rfl
@[simp] theorem setNat_time (a v : Nat) : (s.setNat a v).time = s.time := rfl
@[simp] theorem setNat_safety (a v : Nat) : (s.setNat a v).safety = s.safety := rfl
@[simp] theorem setNat_subCopy (a v : Nat) : (s.setNat a v).subCopy = s.subCopy := rfl
@[simp] theorem setNat_host (a v : Nat) : (s.setNat a v).host = s.host := rfl
@[simp] theorem setNat_tap (a v : Nat) : (s.setNat a v).tap = s.tap := rfl
@[simp] theorem setNat_power (a v : Nat) : (s.setNat a v).power = s.power := rfl
@[simp] theorem setNat_meas (a v : Nat) : (s.setNat a v).meas = s.meas := rfl
@[simp] theorem setNat_learn (a v : Nat) : (s.setNat a v).learn = s.learn := rfl
@[simp] theorem setNat_freeCtr (a v : Nat) : (s.setNat a v).freeCtr = s.freeCtr := rfl
@[simp] theorem setNat_pending (a v : Nat) : (s.setNat a v).pending = s.pending := rfl

@[simp] theorem incFld_wide (a hi lo k : Nat) : (s.incFld a hi lo k).wide = s.wide := rfl
@[simp] theorem incFld_mem (a hi lo k : Nat) : (s.incFld a hi lo k).mem = s.mem := rfl
@[simp] theorem incFld_roots (a hi lo k : Nat) : (s.incFld a hi lo k).roots = s.roots := rfl
@[simp] theorem incFld_align (a hi lo k : Nat) : (s.incFld a hi lo k).align = s.align := rfl
@[simp] theorem incFld_avs (a hi lo k : Nat) : (s.incFld a hi lo k).avs = s.avs := rfl
@[simp] theorem incFld_sched (a hi lo k : Nat) : (s.incFld a hi lo k).sched = s.sched := rfl
@[simp] theorem incFld_engines (a hi lo k : Nat) : (s.incFld a hi lo k).engines = s.engines := rfl
@[simp] theorem incFld_links (a hi lo k : Nat) : (s.incFld a hi lo k).links = s.links := rfl
@[simp] theorem incFld_sync (a hi lo k : Nat) : (s.incFld a hi lo k).sync = s.sync := rfl
@[simp] theorem incFld_ingest (a hi lo k : Nat) : (s.incFld a hi lo k).ingest = s.ingest := rfl
@[simp] theorem incFld_time (a hi lo k : Nat) : (s.incFld a hi lo k).time = s.time := rfl
@[simp] theorem incFld_safety (a hi lo k : Nat) : (s.incFld a hi lo k).safety = s.safety := rfl
@[simp] theorem incFld_subCopy (a hi lo k : Nat) : (s.incFld a hi lo k).subCopy = s.subCopy := rfl
@[simp] theorem incFld_host (a hi lo k : Nat) : (s.incFld a hi lo k).host = s.host := rfl
@[simp] theorem incFld_tap (a hi lo k : Nat) : (s.incFld a hi lo k).tap = s.tap := rfl
@[simp] theorem incFld_power (a hi lo k : Nat) : (s.incFld a hi lo k).power = s.power := rfl
@[simp] theorem incFld_meas (a hi lo k : Nat) : (s.incFld a hi lo k).meas = s.meas := rfl
@[simp] theorem incFld_learn (a hi lo k : Nat) : (s.incFld a hi lo k).learn = s.learn := rfl
@[simp] theorem incFld_freeCtr (a hi lo k : Nat) : (s.incFld a hi lo k).freeCtr = s.freeCtr := rfl
@[simp] theorem incFld_pending (a hi lo k : Nat) : (s.incFld a hi lo k).pending = s.pending := rfl

@[simp] theorem incSat_wide (a k : Nat) : (s.incSat a k).wide = s.wide := rfl
@[simp] theorem incSat_mem (a k : Nat) : (s.incSat a k).mem = s.mem := rfl
@[simp] theorem incSat_roots (a k : Nat) : (s.incSat a k).roots = s.roots := rfl
@[simp] theorem incSat_align (a k : Nat) : (s.incSat a k).align = s.align := rfl
@[simp] theorem incSat_avs (a k : Nat) : (s.incSat a k).avs = s.avs := rfl
@[simp] theorem incSat_sched (a k : Nat) : (s.incSat a k).sched = s.sched := rfl
@[simp] theorem incSat_engines (a k : Nat) : (s.incSat a k).engines = s.engines := rfl
@[simp] theorem incSat_links (a k : Nat) : (s.incSat a k).links = s.links := rfl
@[simp] theorem incSat_sync (a k : Nat) : (s.incSat a k).sync = s.sync := rfl
@[simp] theorem incSat_ingest (a k : Nat) : (s.incSat a k).ingest = s.ingest := rfl
@[simp] theorem incSat_time (a k : Nat) : (s.incSat a k).time = s.time := rfl
@[simp] theorem incSat_safety (a k : Nat) : (s.incSat a k).safety = s.safety := rfl
@[simp] theorem incSat_subCopy (a k : Nat) : (s.incSat a k).subCopy = s.subCopy := rfl
@[simp] theorem incSat_host (a k : Nat) : (s.incSat a k).host = s.host := rfl
@[simp] theorem incSat_tap (a k : Nat) : (s.incSat a k).tap = s.tap := rfl
@[simp] theorem incSat_power (a k : Nat) : (s.incSat a k).power = s.power := rfl
@[simp] theorem incSat_meas (a k : Nat) : (s.incSat a k).meas = s.meas := rfl
@[simp] theorem incSat_learn (a k : Nat) : (s.incSat a k).learn = s.learn := rfl
@[simp] theorem incSat_freeCtr (a k : Nat) : (s.incSat a k).freeCtr = s.freeCtr := rfl
@[simp] theorem incSat_pending (a k : Nat) : (s.incSat a k).pending = s.pending := rfl

@[simp] theorem setReg64_wide (a v : Nat) : (s.setReg64 a v).wide = s.wide := rfl
@[simp] theorem setReg64_mem (a v : Nat) : (s.setReg64 a v).mem = s.mem := rfl
@[simp] theorem setReg64_roots (a v : Nat) : (s.setReg64 a v).roots = s.roots := rfl
@[simp] theorem setReg64_align (a v : Nat) : (s.setReg64 a v).align = s.align := rfl
@[simp] theorem setReg64_avs (a v : Nat) : (s.setReg64 a v).avs = s.avs := rfl
@[simp] theorem setReg64_sched (a v : Nat) : (s.setReg64 a v).sched = s.sched := rfl
@[simp] theorem setReg64_engines (a v : Nat) : (s.setReg64 a v).engines = s.engines := rfl
@[simp] theorem setReg64_links (a v : Nat) : (s.setReg64 a v).links = s.links := rfl
@[simp] theorem setReg64_sync (a v : Nat) : (s.setReg64 a v).sync = s.sync := rfl
@[simp] theorem setReg64_ingest (a v : Nat) : (s.setReg64 a v).ingest = s.ingest := rfl
@[simp] theorem setReg64_time (a v : Nat) : (s.setReg64 a v).time = s.time := rfl
@[simp] theorem setReg64_safety (a v : Nat) : (s.setReg64 a v).safety = s.safety := rfl
@[simp] theorem setReg64_subCopy (a v : Nat) : (s.setReg64 a v).subCopy = s.subCopy := rfl
@[simp] theorem setReg64_host (a v : Nat) : (s.setReg64 a v).host = s.host := rfl
@[simp] theorem setReg64_tap (a v : Nat) : (s.setReg64 a v).tap = s.tap := rfl
@[simp] theorem setReg64_power (a v : Nat) : (s.setReg64 a v).power = s.power := rfl
@[simp] theorem setReg64_meas (a v : Nat) : (s.setReg64 a v).meas = s.meas := rfl
@[simp] theorem setReg64_learn (a v : Nat) : (s.setReg64 a v).learn = s.learn := rfl
@[simp] theorem setReg64_freeCtr (a v : Nat) : (s.setReg64 a v).freeCtr = s.freeCtr := rfl
@[simp] theorem setReg64_pending (a v : Nat) : (s.setReg64 a v).pending = s.pending := rfl

@[simp] theorem putByte_regs (a : Nat) (b : Byte) : (s.putByte a b).regs = s.regs := rfl
@[simp] theorem putByte_wide (a : Nat) (b : Byte) : (s.putByte a b).wide = s.wide := rfl
@[simp] theorem putByte_mem (a : Nat) (b : Byte) : (s.putByte a b).mem = SMap.put 0#8 s.mem a b := rfl
@[simp] theorem putByte_roots (a : Nat) (b : Byte) : (s.putByte a b).roots = s.roots := rfl
@[simp] theorem putByte_align (a : Nat) (b : Byte) : (s.putByte a b).align = s.align := rfl
@[simp] theorem putByte_avs (a : Nat) (b : Byte) : (s.putByte a b).avs = s.avs := rfl
@[simp] theorem putByte_sched (a : Nat) (b : Byte) : (s.putByte a b).sched = s.sched := rfl
@[simp] theorem putByte_engines (a : Nat) (b : Byte) : (s.putByte a b).engines = s.engines := rfl
@[simp] theorem putByte_links (a : Nat) (b : Byte) : (s.putByte a b).links = s.links := rfl
@[simp] theorem putByte_sync (a : Nat) (b : Byte) : (s.putByte a b).sync = s.sync := rfl
@[simp] theorem putByte_ingest (a : Nat) (b : Byte) : (s.putByte a b).ingest = s.ingest := rfl
@[simp] theorem putByte_time (a : Nat) (b : Byte) : (s.putByte a b).time = s.time := rfl
@[simp] theorem putByte_safety (a : Nat) (b : Byte) : (s.putByte a b).safety = s.safety := rfl
@[simp] theorem putByte_subCopy (a : Nat) (b : Byte) : (s.putByte a b).subCopy = s.subCopy := rfl
@[simp] theorem putByte_host (a : Nat) (b : Byte) : (s.putByte a b).host = s.host := rfl
@[simp] theorem putByte_tap (a : Nat) (b : Byte) : (s.putByte a b).tap = s.tap := rfl
@[simp] theorem putByte_power (a : Nat) (b : Byte) : (s.putByte a b).power = s.power := rfl
@[simp] theorem putByte_meas (a : Nat) (b : Byte) : (s.putByte a b).meas = s.meas := rfl
@[simp] theorem putByte_learn (a : Nat) (b : Byte) : (s.putByte a b).learn = s.learn := rfl
@[simp] theorem putByte_freeCtr (a : Nat) (b : Byte) : (s.putByte a b).freeCtr = s.freeCtr := rfl
@[simp] theorem putByte_pending (a : Nat) (b : Byte) : (s.putByte a b).pending = s.pending := rfl

@[simp] theorem draw_regs (n : Nat) : (s.draw n).regs = s.regs := rfl
@[simp] theorem draw_wide (n : Nat) : (s.draw n).wide = s.wide := rfl
@[simp] theorem draw_mem (n : Nat) : (s.draw n).mem = s.mem := rfl
@[simp] theorem draw_roots (n : Nat) : (s.draw n).roots = s.roots := rfl
@[simp] theorem draw_align (n : Nat) : (s.draw n).align = s.align := rfl
@[simp] theorem draw_avs (n : Nat) : (s.draw n).avs = s.avs := rfl
@[simp] theorem draw_sched (n : Nat) : (s.draw n).sched = s.sched := rfl
@[simp] theorem draw_engines (n : Nat) : (s.draw n).engines = s.engines := rfl
@[simp] theorem draw_links (n : Nat) : (s.draw n).links = s.links := rfl
@[simp] theorem draw_sync (n : Nat) : (s.draw n).sync = s.sync := rfl
@[simp] theorem draw_ingest (n : Nat) : (s.draw n).ingest = s.ingest := rfl
@[simp] theorem draw_time (n : Nat) : (s.draw n).time = s.time := rfl
@[simp] theorem draw_safety (n : Nat) : (s.draw n).safety = s.safety := rfl
@[simp] theorem draw_subCopy (n : Nat) : (s.draw n).subCopy = s.subCopy := rfl
@[simp] theorem draw_host (n : Nat) : (s.draw n).host = s.host := rfl
@[simp] theorem draw_tap (n : Nat) : (s.draw n).tap = s.tap := rfl
@[simp] theorem draw_power (n : Nat) : (s.draw n).power = s.power := rfl
@[simp] theorem draw_meas (n : Nat) : (s.draw n).meas = s.meas := rfl
@[simp] theorem draw_learn (n : Nat) : (s.draw n).learn = s.learn := rfl
@[simp] theorem draw_freeCtr (n : Nat) : (s.draw n).freeCtr = s.freeCtr + n := rfl
@[simp] theorem draw_pending (n : Nat) : (s.draw n).pending = s.pending := rfl

@[simp] theorem saf_regs (f : Safety → Safety) : (s.saf f).regs = s.regs := rfl
@[simp] theorem saf_wide (f : Safety → Safety) : (s.saf f).wide = s.wide := rfl
@[simp] theorem saf_mem (f : Safety → Safety) : (s.saf f).mem = s.mem := rfl
@[simp] theorem saf_roots (f : Safety → Safety) : (s.saf f).roots = s.roots := rfl
@[simp] theorem saf_align (f : Safety → Safety) : (s.saf f).align = s.align := rfl
@[simp] theorem saf_avs (f : Safety → Safety) : (s.saf f).avs = s.avs := rfl
@[simp] theorem saf_sched (f : Safety → Safety) : (s.saf f).sched = s.sched := rfl
@[simp] theorem saf_engines (f : Safety → Safety) : (s.saf f).engines = s.engines := rfl
@[simp] theorem saf_links (f : Safety → Safety) : (s.saf f).links = s.links := rfl
@[simp] theorem saf_sync (f : Safety → Safety) : (s.saf f).sync = s.sync := rfl
@[simp] theorem saf_ingest (f : Safety → Safety) : (s.saf f).ingest = s.ingest := rfl
@[simp] theorem saf_time (f : Safety → Safety) : (s.saf f).time = s.time := rfl
@[simp] theorem saf_safety (f : Safety → Safety) : (s.saf f).safety = f s.safety := rfl
@[simp] theorem saf_subCopy (f : Safety → Safety) : (s.saf f).subCopy = s.subCopy := rfl
@[simp] theorem saf_host (f : Safety → Safety) : (s.saf f).host = s.host := rfl
@[simp] theorem saf_tap (f : Safety → Safety) : (s.saf f).tap = s.tap := rfl
@[simp] theorem saf_power (f : Safety → Safety) : (s.saf f).power = s.power := rfl
@[simp] theorem saf_meas (f : Safety → Safety) : (s.saf f).meas = s.meas := rfl
@[simp] theorem saf_learn (f : Safety → Safety) : (s.saf f).learn = s.learn := rfl
@[simp] theorem saf_freeCtr (f : Safety → Safety) : (s.saf f).freeCtr = s.freeCtr := rfl
@[simp] theorem saf_pending (f : Safety → Safety) : (s.saf f).pending = s.pending := rfl

@[simp] theorem ing_regs (f : Ingest → Ingest) : (s.ing f).regs = s.regs := rfl
@[simp] theorem ing_wide (f : Ingest → Ingest) : (s.ing f).wide = s.wide := rfl
@[simp] theorem ing_mem (f : Ingest → Ingest) : (s.ing f).mem = s.mem := rfl
@[simp] theorem ing_roots (f : Ingest → Ingest) : (s.ing f).roots = s.roots := rfl
@[simp] theorem ing_align (f : Ingest → Ingest) : (s.ing f).align = s.align := rfl
@[simp] theorem ing_avs (f : Ingest → Ingest) : (s.ing f).avs = s.avs := rfl
@[simp] theorem ing_sched (f : Ingest → Ingest) : (s.ing f).sched = s.sched := rfl
@[simp] theorem ing_engines (f : Ingest → Ingest) : (s.ing f).engines = s.engines := rfl
@[simp] theorem ing_links (f : Ingest → Ingest) : (s.ing f).links = s.links := rfl
@[simp] theorem ing_sync (f : Ingest → Ingest) : (s.ing f).sync = s.sync := rfl
@[simp] theorem ing_ingest (f : Ingest → Ingest) : (s.ing f).ingest = f s.ingest := rfl
@[simp] theorem ing_time (f : Ingest → Ingest) : (s.ing f).time = s.time := rfl
@[simp] theorem ing_safety (f : Ingest → Ingest) : (s.ing f).safety = s.safety := rfl
@[simp] theorem ing_subCopy (f : Ingest → Ingest) : (s.ing f).subCopy = s.subCopy := rfl
@[simp] theorem ing_host (f : Ingest → Ingest) : (s.ing f).host = s.host := rfl
@[simp] theorem ing_tap (f : Ingest → Ingest) : (s.ing f).tap = s.tap := rfl
@[simp] theorem ing_power (f : Ingest → Ingest) : (s.ing f).power = s.power := rfl
@[simp] theorem ing_meas (f : Ingest → Ingest) : (s.ing f).meas = s.meas := rfl
@[simp] theorem ing_learn (f : Ingest → Ingest) : (s.ing f).learn = s.learn := rfl
@[simp] theorem ing_freeCtr (f : Ingest → Ingest) : (s.ing f).freeCtr = s.freeCtr := rfl
@[simp] theorem ing_pending (f : Ingest → Ingest) : (s.ing f).pending = s.pending := rfl

@[simp] theorem pw_regs (f : Power → Power) : (s.pw f).regs = s.regs := rfl
@[simp] theorem pw_wide (f : Power → Power) : (s.pw f).wide = s.wide := rfl
@[simp] theorem pw_mem (f : Power → Power) : (s.pw f).mem = s.mem := rfl
@[simp] theorem pw_roots (f : Power → Power) : (s.pw f).roots = s.roots := rfl
@[simp] theorem pw_align (f : Power → Power) : (s.pw f).align = s.align := rfl
@[simp] theorem pw_avs (f : Power → Power) : (s.pw f).avs = s.avs := rfl
@[simp] theorem pw_sched (f : Power → Power) : (s.pw f).sched = s.sched := rfl
@[simp] theorem pw_engines (f : Power → Power) : (s.pw f).engines = s.engines := rfl
@[simp] theorem pw_links (f : Power → Power) : (s.pw f).links = s.links := rfl
@[simp] theorem pw_sync (f : Power → Power) : (s.pw f).sync = s.sync := rfl
@[simp] theorem pw_ingest (f : Power → Power) : (s.pw f).ingest = s.ingest := rfl
@[simp] theorem pw_time (f : Power → Power) : (s.pw f).time = s.time := rfl
@[simp] theorem pw_safety (f : Power → Power) : (s.pw f).safety = s.safety := rfl
@[simp] theorem pw_subCopy (f : Power → Power) : (s.pw f).subCopy = s.subCopy := rfl
@[simp] theorem pw_host (f : Power → Power) : (s.pw f).host = s.host := rfl
@[simp] theorem pw_tap (f : Power → Power) : (s.pw f).tap = s.tap := rfl
@[simp] theorem pw_power (f : Power → Power) : (s.pw f).power = f s.power := rfl
@[simp] theorem pw_meas (f : Power → Power) : (s.pw f).meas = s.meas := rfl
@[simp] theorem pw_learn (f : Power → Power) : (s.pw f).learn = s.learn := rfl
@[simp] theorem pw_freeCtr (f : Power → Power) : (s.pw f).freeCtr = s.freeCtr := rfl
@[simp] theorem pw_pending (f : Power → Power) : (s.pw f).pending = s.pending := rfl

@[simp] theorem ms_regs (f : Measure → Measure) : (s.ms f).regs = s.regs := rfl
@[simp] theorem ms_wide (f : Measure → Measure) : (s.ms f).wide = s.wide := rfl
@[simp] theorem ms_mem (f : Measure → Measure) : (s.ms f).mem = s.mem := rfl
@[simp] theorem ms_roots (f : Measure → Measure) : (s.ms f).roots = s.roots := rfl
@[simp] theorem ms_align (f : Measure → Measure) : (s.ms f).align = s.align := rfl
@[simp] theorem ms_avs (f : Measure → Measure) : (s.ms f).avs = s.avs := rfl
@[simp] theorem ms_sched (f : Measure → Measure) : (s.ms f).sched = s.sched := rfl
@[simp] theorem ms_engines (f : Measure → Measure) : (s.ms f).engines = s.engines := rfl
@[simp] theorem ms_links (f : Measure → Measure) : (s.ms f).links = s.links := rfl
@[simp] theorem ms_sync (f : Measure → Measure) : (s.ms f).sync = s.sync := rfl
@[simp] theorem ms_ingest (f : Measure → Measure) : (s.ms f).ingest = s.ingest := rfl
@[simp] theorem ms_time (f : Measure → Measure) : (s.ms f).time = s.time := rfl
@[simp] theorem ms_safety (f : Measure → Measure) : (s.ms f).safety = s.safety := rfl
@[simp] theorem ms_subCopy (f : Measure → Measure) : (s.ms f).subCopy = s.subCopy := rfl
@[simp] theorem ms_host (f : Measure → Measure) : (s.ms f).host = s.host := rfl
@[simp] theorem ms_tap (f : Measure → Measure) : (s.ms f).tap = s.tap := rfl
@[simp] theorem ms_power (f : Measure → Measure) : (s.ms f).power = s.power := rfl
@[simp] theorem ms_meas (f : Measure → Measure) : (s.ms f).meas = f s.meas := rfl
@[simp] theorem ms_learn (f : Measure → Measure) : (s.ms f).learn = s.learn := rfl
@[simp] theorem ms_freeCtr (f : Measure → Measure) : (s.ms f).freeCtr = s.freeCtr := rfl
@[simp] theorem ms_pending (f : Measure → Measure) : (s.ms f).pending = s.pending := rfl

@[simp] theorem tb_regs (f : TimeBase → TimeBase) : (s.tb f).regs = s.regs := rfl
@[simp] theorem tb_wide (f : TimeBase → TimeBase) : (s.tb f).wide = s.wide := rfl
@[simp] theorem tb_mem (f : TimeBase → TimeBase) : (s.tb f).mem = s.mem := rfl
@[simp] theorem tb_roots (f : TimeBase → TimeBase) : (s.tb f).roots = s.roots := rfl
@[simp] theorem tb_align (f : TimeBase → TimeBase) : (s.tb f).align = s.align := rfl
@[simp] theorem tb_avs (f : TimeBase → TimeBase) : (s.tb f).avs = s.avs := rfl
@[simp] theorem tb_sched (f : TimeBase → TimeBase) : (s.tb f).sched = s.sched := rfl
@[simp] theorem tb_engines (f : TimeBase → TimeBase) : (s.tb f).engines = s.engines := rfl
@[simp] theorem tb_links (f : TimeBase → TimeBase) : (s.tb f).links = s.links := rfl
@[simp] theorem tb_sync (f : TimeBase → TimeBase) : (s.tb f).sync = s.sync := rfl
@[simp] theorem tb_ingest (f : TimeBase → TimeBase) : (s.tb f).ingest = s.ingest := rfl
@[simp] theorem tb_time (f : TimeBase → TimeBase) : (s.tb f).time = f s.time := rfl
@[simp] theorem tb_safety (f : TimeBase → TimeBase) : (s.tb f).safety = s.safety := rfl
@[simp] theorem tb_subCopy (f : TimeBase → TimeBase) : (s.tb f).subCopy = s.subCopy := rfl
@[simp] theorem tb_host (f : TimeBase → TimeBase) : (s.tb f).host = s.host := rfl
@[simp] theorem tb_tap (f : TimeBase → TimeBase) : (s.tb f).tap = s.tap := rfl
@[simp] theorem tb_power (f : TimeBase → TimeBase) : (s.tb f).power = s.power := rfl
@[simp] theorem tb_meas (f : TimeBase → TimeBase) : (s.tb f).meas = s.meas := rfl
@[simp] theorem tb_learn (f : TimeBase → TimeBase) : (s.tb f).learn = s.learn := rfl
@[simp] theorem tb_freeCtr (f : TimeBase → TimeBase) : (s.tb f).freeCtr = s.freeCtr := rfl
@[simp] theorem tb_pending (f : TimeBase → TimeBase) : (s.tb f).pending = s.pending := rfl

@[simp] theorem ln_regs (f : Learn → Learn) : (s.ln f).regs = s.regs := rfl
@[simp] theorem ln_wide (f : Learn → Learn) : (s.ln f).wide = s.wide := rfl
@[simp] theorem ln_mem (f : Learn → Learn) : (s.ln f).mem = s.mem := rfl
@[simp] theorem ln_roots (f : Learn → Learn) : (s.ln f).roots = s.roots := rfl
@[simp] theorem ln_align (f : Learn → Learn) : (s.ln f).align = s.align := rfl
@[simp] theorem ln_avs (f : Learn → Learn) : (s.ln f).avs = s.avs := rfl
@[simp] theorem ln_sched (f : Learn → Learn) : (s.ln f).sched = s.sched := rfl
@[simp] theorem ln_engines (f : Learn → Learn) : (s.ln f).engines = s.engines := rfl
@[simp] theorem ln_links (f : Learn → Learn) : (s.ln f).links = s.links := rfl
@[simp] theorem ln_sync (f : Learn → Learn) : (s.ln f).sync = s.sync := rfl
@[simp] theorem ln_ingest (f : Learn → Learn) : (s.ln f).ingest = s.ingest := rfl
@[simp] theorem ln_time (f : Learn → Learn) : (s.ln f).time = s.time := rfl
@[simp] theorem ln_safety (f : Learn → Learn) : (s.ln f).safety = s.safety := rfl
@[simp] theorem ln_subCopy (f : Learn → Learn) : (s.ln f).subCopy = s.subCopy := rfl
@[simp] theorem ln_host (f : Learn → Learn) : (s.ln f).host = s.host := rfl
@[simp] theorem ln_tap (f : Learn → Learn) : (s.ln f).tap = s.tap := rfl
@[simp] theorem ln_power (f : Learn → Learn) : (s.ln f).power = s.power := rfl
@[simp] theorem ln_meas (f : Learn → Learn) : (s.ln f).meas = s.meas := rfl
@[simp] theorem ln_learn (f : Learn → Learn) : (s.ln f).learn = f s.learn := rfl
@[simp] theorem ln_freeCtr (f : Learn → Learn) : (s.ln f).freeCtr = s.freeCtr := rfl
@[simp] theorem ln_pending (f : Learn → Learn) : (s.ln f).pending = s.pending := rfl

@[simp] theorem setEng_regs (e : Nat) (x : Engine) : (s.setEng e x).regs = s.regs := rfl
@[simp] theorem setEng_wide (e : Nat) (x : Engine) : (s.setEng e x).wide = s.wide := rfl
@[simp] theorem setEng_mem (e : Nat) (x : Engine) : (s.setEng e x).mem = s.mem := rfl
@[simp] theorem setEng_roots (e : Nat) (x : Engine) : (s.setEng e x).roots = s.roots := rfl
@[simp] theorem setEng_align (e : Nat) (x : Engine) : (s.setEng e x).align = s.align := rfl
@[simp] theorem setEng_avs (e : Nat) (x : Engine) : (s.setEng e x).avs = s.avs := rfl
@[simp] theorem setEng_sched (e : Nat) (x : Engine) : (s.setEng e x).sched = s.sched := rfl
@[simp] theorem setEng_links (e : Nat) (x : Engine) : (s.setEng e x).links = s.links := rfl
@[simp] theorem setEng_sync (e : Nat) (x : Engine) : (s.setEng e x).sync = s.sync := rfl
@[simp] theorem setEng_ingest (e : Nat) (x : Engine) : (s.setEng e x).ingest = s.ingest := rfl
@[simp] theorem setEng_time (e : Nat) (x : Engine) : (s.setEng e x).time = s.time := rfl
@[simp] theorem setEng_safety (e : Nat) (x : Engine) : (s.setEng e x).safety = s.safety := rfl
@[simp] theorem setEng_subCopy (e : Nat) (x : Engine) : (s.setEng e x).subCopy = s.subCopy := rfl
@[simp] theorem setEng_host (e : Nat) (x : Engine) : (s.setEng e x).host = s.host := rfl
@[simp] theorem setEng_tap (e : Nat) (x : Engine) : (s.setEng e x).tap = s.tap := rfl
@[simp] theorem setEng_power (e : Nat) (x : Engine) : (s.setEng e x).power = s.power := rfl
@[simp] theorem setEng_meas (e : Nat) (x : Engine) : (s.setEng e x).meas = s.meas := rfl
@[simp] theorem setEng_learn (e : Nat) (x : Engine) : (s.setEng e x).learn = s.learn := rfl
@[simp] theorem setEng_freeCtr (e : Nat) (x : Engine) : (s.setEng e x).freeCtr = s.freeCtr := rfl
@[simp] theorem setEng_pending (e : Nat) (x : Engine) : (s.setEng e x).pending = s.pending := rfl

@[simp] theorem setCtx_regs (k : Nat) (c : Ctx) : (s.setCtx k c).regs = s.regs := rfl
@[simp] theorem setCtx_wide (k : Nat) (c : Ctx) : (s.setCtx k c).wide = s.wide := rfl
@[simp] theorem setCtx_mem (k : Nat) (c : Ctx) : (s.setCtx k c).mem = s.mem := rfl
@[simp] theorem setCtx_roots (k : Nat) (c : Ctx) : (s.setCtx k c).roots = s.roots := rfl
@[simp] theorem setCtx_align (k : Nat) (c : Ctx) : (s.setCtx k c).align = s.align := rfl
@[simp] theorem setCtx_avs (k : Nat) (c : Ctx) : (s.setCtx k c).avs = s.avs := rfl
@[simp] theorem setCtx_engines (k : Nat) (c : Ctx) : (s.setCtx k c).engines = s.engines := rfl
@[simp] theorem setCtx_links (k : Nat) (c : Ctx) : (s.setCtx k c).links = s.links := rfl
@[simp] theorem setCtx_sync (k : Nat) (c : Ctx) : (s.setCtx k c).sync = s.sync := rfl
@[simp] theorem setCtx_ingest (k : Nat) (c : Ctx) : (s.setCtx k c).ingest = s.ingest := rfl
@[simp] theorem setCtx_time (k : Nat) (c : Ctx) : (s.setCtx k c).time = s.time := rfl
@[simp] theorem setCtx_safety (k : Nat) (c : Ctx) : (s.setCtx k c).safety = s.safety := rfl
@[simp] theorem setCtx_subCopy (k : Nat) (c : Ctx) : (s.setCtx k c).subCopy = s.subCopy := rfl
@[simp] theorem setCtx_host (k : Nat) (c : Ctx) : (s.setCtx k c).host = s.host := rfl
@[simp] theorem setCtx_tap (k : Nat) (c : Ctx) : (s.setCtx k c).tap = s.tap := rfl
@[simp] theorem setCtx_power (k : Nat) (c : Ctx) : (s.setCtx k c).power = s.power := rfl
@[simp] theorem setCtx_meas (k : Nat) (c : Ctx) : (s.setCtx k c).meas = s.meas := rfl
@[simp] theorem setCtx_learn (k : Nat) (c : Ctx) : (s.setCtx k c).learn = s.learn := rfl
@[simp] theorem setCtx_freeCtr (k : Nat) (c : Ctx) : (s.setCtx k c).freeCtr = s.freeCtr := rfl
@[simp] theorem setCtx_pending (k : Nat) (c : Ctx) : (s.setCtx k c).pending = s.pending := rfl

@[simp] theorem setSb_regs (core idx : Nat) (e : SbEntry) : (s.setSb core idx e).regs = s.regs := rfl
@[simp] theorem setSb_wide (core idx : Nat) (e : SbEntry) : (s.setSb core idx e).wide = s.wide := rfl
@[simp] theorem setSb_mem (core idx : Nat) (e : SbEntry) : (s.setSb core idx e).mem = s.mem := rfl
@[simp] theorem setSb_roots (core idx : Nat) (e : SbEntry) : (s.setSb core idx e).roots = s.roots := rfl
@[simp] theorem setSb_align (core idx : Nat) (e : SbEntry) : (s.setSb core idx e).align = s.align := rfl
@[simp] theorem setSb_avs (core idx : Nat) (e : SbEntry) : (s.setSb core idx e).avs = s.avs := rfl
@[simp] theorem setSb_engines (core idx : Nat) (e : SbEntry) : (s.setSb core idx e).engines = s.engines := rfl
@[simp] theorem setSb_links (core idx : Nat) (e : SbEntry) : (s.setSb core idx e).links = s.links := rfl
@[simp] theorem setSb_sync (core idx : Nat) (e : SbEntry) : (s.setSb core idx e).sync = s.sync := rfl
@[simp] theorem setSb_ingest (core idx : Nat) (e : SbEntry) : (s.setSb core idx e).ingest = s.ingest := rfl
@[simp] theorem setSb_time (core idx : Nat) (e : SbEntry) : (s.setSb core idx e).time = s.time := rfl
@[simp] theorem setSb_safety (core idx : Nat) (e : SbEntry) : (s.setSb core idx e).safety = s.safety := rfl
@[simp] theorem setSb_subCopy (core idx : Nat) (e : SbEntry) : (s.setSb core idx e).subCopy = s.subCopy := rfl
@[simp] theorem setSb_host (core idx : Nat) (e : SbEntry) : (s.setSb core idx e).host = s.host := rfl
@[simp] theorem setSb_tap (core idx : Nat) (e : SbEntry) : (s.setSb core idx e).tap = s.tap := rfl
@[simp] theorem setSb_power (core idx : Nat) (e : SbEntry) : (s.setSb core idx e).power = s.power := rfl
@[simp] theorem setSb_meas (core idx : Nat) (e : SbEntry) : (s.setSb core idx e).meas = s.meas := rfl
@[simp] theorem setSb_learn (core idx : Nat) (e : SbEntry) : (s.setSb core idx e).learn = s.learn := rfl
@[simp] theorem setSb_freeCtr (core idx : Nat) (e : SbEntry) : (s.setSb core idx e).freeCtr = s.freeCtr := rfl
@[simp] theorem setSb_pending (core idx : Nat) (e : SbEntry) : (s.setSb core idx e).pending = s.pending := rfl

@[simp] theorem setOp_regs (o : Op) : (s.setOp o).regs = s.regs := rfl
@[simp] theorem setOp_wide (o : Op) : (s.setOp o).wide = s.wide := rfl
@[simp] theorem setOp_mem (o : Op) : (s.setOp o).mem = s.mem := rfl
@[simp] theorem setOp_roots (o : Op) : (s.setOp o).roots = s.roots := rfl
@[simp] theorem setOp_align (o : Op) : (s.setOp o).align = s.align := rfl
@[simp] theorem setOp_avs (o : Op) : (s.setOp o).avs = s.avs := rfl
@[simp] theorem setOp_engines (o : Op) : (s.setOp o).engines = s.engines := rfl
@[simp] theorem setOp_links (o : Op) : (s.setOp o).links = s.links := rfl
@[simp] theorem setOp_sync (o : Op) : (s.setOp o).sync = s.sync := rfl
@[simp] theorem setOp_ingest (o : Op) : (s.setOp o).ingest = s.ingest := rfl
@[simp] theorem setOp_time (o : Op) : (s.setOp o).time = s.time := rfl
@[simp] theorem setOp_safety (o : Op) : (s.setOp o).safety = s.safety := rfl
@[simp] theorem setOp_subCopy (o : Op) : (s.setOp o).subCopy = s.subCopy := rfl
@[simp] theorem setOp_host (o : Op) : (s.setOp o).host = s.host := rfl
@[simp] theorem setOp_tap (o : Op) : (s.setOp o).tap = s.tap := rfl
@[simp] theorem setOp_power (o : Op) : (s.setOp o).power = s.power := rfl
@[simp] theorem setOp_meas (o : Op) : (s.setOp o).meas = s.meas := rfl
@[simp] theorem setOp_learn (o : Op) : (s.setOp o).learn = s.learn := rfl
@[simp] theorem setOp_freeCtr (o : Op) : (s.setOp o).freeCtr = s.freeCtr := rfl
@[simp] theorem setOp_pending (o : Op) : (s.setOp o).pending = s.pending := rfl

@[simp] theorem setCtr_regs (c : Nat) (x : Counter) : (s.setCtr c x).regs = s.regs := rfl
@[simp] theorem setCtr_wide (c : Nat) (x : Counter) : (s.setCtr c x).wide = s.wide := rfl
@[simp] theorem setCtr_mem (c : Nat) (x : Counter) : (s.setCtr c x).mem = s.mem := rfl
@[simp] theorem setCtr_roots (c : Nat) (x : Counter) : (s.setCtr c x).roots = s.roots := rfl
@[simp] theorem setCtr_align (c : Nat) (x : Counter) : (s.setCtr c x).align = s.align := rfl
@[simp] theorem setCtr_avs (c : Nat) (x : Counter) : (s.setCtr c x).avs = s.avs := rfl
@[simp] theorem setCtr_sched (c : Nat) (x : Counter) : (s.setCtr c x).sched = s.sched := rfl
@[simp] theorem setCtr_engines (c : Nat) (x : Counter) : (s.setCtr c x).engines = s.engines := rfl
@[simp] theorem setCtr_links (c : Nat) (x : Counter) : (s.setCtr c x).links = s.links := rfl
@[simp] theorem setCtr_ingest (c : Nat) (x : Counter) : (s.setCtr c x).ingest = s.ingest := rfl
@[simp] theorem setCtr_time (c : Nat) (x : Counter) : (s.setCtr c x).time = s.time := rfl
@[simp] theorem setCtr_safety (c : Nat) (x : Counter) : (s.setCtr c x).safety = s.safety := rfl
@[simp] theorem setCtr_subCopy (c : Nat) (x : Counter) : (s.setCtr c x).subCopy = s.subCopy := rfl
@[simp] theorem setCtr_host (c : Nat) (x : Counter) : (s.setCtr c x).host = s.host := rfl
@[simp] theorem setCtr_tap (c : Nat) (x : Counter) : (s.setCtr c x).tap = s.tap := rfl
@[simp] theorem setCtr_power (c : Nat) (x : Counter) : (s.setCtr c x).power = s.power := rfl
@[simp] theorem setCtr_meas (c : Nat) (x : Counter) : (s.setCtr c x).meas = s.meas := rfl
@[simp] theorem setCtr_learn (c : Nat) (x : Counter) : (s.setCtr c x).learn = s.learn := rfl
@[simp] theorem setCtr_freeCtr (c : Nat) (x : Counter) : (s.setCtr c x).freeCtr = s.freeCtr := rfl
@[simp] theorem setCtr_pending (c : Nat) (x : Counter) : (s.setCtr c x).pending = s.pending := rfl

@[simp] theorem hold_regs (h : HeldOp) : (s.hold h).regs = s.regs := rfl
@[simp] theorem hold_wide (h : HeldOp) : (s.hold h).wide = s.wide := rfl
@[simp] theorem hold_mem (h : HeldOp) : (s.hold h).mem = s.mem := rfl
@[simp] theorem hold_roots (h : HeldOp) : (s.hold h).roots = s.roots := rfl
@[simp] theorem hold_align (h : HeldOp) : (s.hold h).align = s.align := rfl
@[simp] theorem hold_avs (h : HeldOp) : (s.hold h).avs = s.avs := rfl
@[simp] theorem hold_sched (h : HeldOp) : (s.hold h).sched = s.sched := rfl
@[simp] theorem hold_engines (h : HeldOp) : (s.hold h).engines = s.engines := rfl
@[simp] theorem hold_links (h : HeldOp) : (s.hold h).links = s.links := rfl
@[simp] theorem hold_ingest (h : HeldOp) : (s.hold h).ingest = s.ingest := rfl
@[simp] theorem hold_time (h : HeldOp) : (s.hold h).time = s.time := rfl
@[simp] theorem hold_safety (h : HeldOp) : (s.hold h).safety = s.safety := rfl
@[simp] theorem hold_subCopy (h : HeldOp) : (s.hold h).subCopy = s.subCopy := rfl
@[simp] theorem hold_host (h : HeldOp) : (s.hold h).host = s.host := rfl
@[simp] theorem hold_tap (h : HeldOp) : (s.hold h).tap = s.tap := rfl
@[simp] theorem hold_power (h : HeldOp) : (s.hold h).power = s.power := rfl
@[simp] theorem hold_meas (h : HeldOp) : (s.hold h).meas = s.meas := rfl
@[simp] theorem hold_learn (h : HeldOp) : (s.hold h).learn = s.learn := rfl
@[simp] theorem hold_freeCtr (h : HeldOp) : (s.hold h).freeCtr = s.freeCtr := rfl
@[simp] theorem hold_pending (h : HeldOp) : (s.hold h).pending = s.pending := rfl

@[simp] theorem setHuddle_regs (r : Nat) (h : Huddle) : (s.setHuddle r h).regs = s.regs := rfl
@[simp] theorem setHuddle_wide (r : Nat) (h : Huddle) : (s.setHuddle r h).wide = s.wide := rfl
@[simp] theorem setHuddle_mem (r : Nat) (h : Huddle) : (s.setHuddle r h).mem = s.mem := rfl
@[simp] theorem setHuddle_roots (r : Nat) (h : Huddle) : (s.setHuddle r h).roots = s.roots := rfl
@[simp] theorem setHuddle_align (r : Nat) (h : Huddle) : (s.setHuddle r h).align = s.align := rfl
@[simp] theorem setHuddle_avs (r : Nat) (h : Huddle) : (s.setHuddle r h).avs = s.avs := rfl
@[simp] theorem setHuddle_sched (r : Nat) (h : Huddle) : (s.setHuddle r h).sched = s.sched := rfl
@[simp] theorem setHuddle_engines (r : Nat) (h : Huddle) : (s.setHuddle r h).engines = s.engines := rfl
@[simp] theorem setHuddle_links (r : Nat) (h : Huddle) : (s.setHuddle r h).links = s.links := rfl
@[simp] theorem setHuddle_ingest (r : Nat) (h : Huddle) : (s.setHuddle r h).ingest = s.ingest := rfl
@[simp] theorem setHuddle_time (r : Nat) (h : Huddle) : (s.setHuddle r h).time = s.time := rfl
@[simp] theorem setHuddle_safety (r : Nat) (h : Huddle) : (s.setHuddle r h).safety = s.safety := rfl
@[simp] theorem setHuddle_subCopy (r : Nat) (h : Huddle) : (s.setHuddle r h).subCopy = s.subCopy := rfl
@[simp] theorem setHuddle_host (r : Nat) (h : Huddle) : (s.setHuddle r h).host = s.host := rfl
@[simp] theorem setHuddle_tap (r : Nat) (h : Huddle) : (s.setHuddle r h).tap = s.tap := rfl
@[simp] theorem setHuddle_power (r : Nat) (h : Huddle) : (s.setHuddle r h).power = s.power := rfl
@[simp] theorem setHuddle_meas (r : Nat) (h : Huddle) : (s.setHuddle r h).meas = s.meas := rfl
@[simp] theorem setHuddle_learn (r : Nat) (h : Huddle) : (s.setHuddle r h).learn = s.learn := rfl
@[simp] theorem setHuddle_freeCtr (r : Nat) (h : Huddle) : (s.setHuddle r h).freeCtr = s.freeCtr := rfl
@[simp] theorem setHuddle_pending (r : Nat) (h : Huddle) : (s.setHuddle r h).pending = s.pending := rfl

@[simp] theorem sendArrival_regs (a : Arrival) : (s.sendArrival a).regs = s.regs := rfl
@[simp] theorem sendArrival_wide (a : Arrival) : (s.sendArrival a).wide = s.wide := rfl
@[simp] theorem sendArrival_mem (a : Arrival) : (s.sendArrival a).mem = s.mem := rfl
@[simp] theorem sendArrival_roots (a : Arrival) : (s.sendArrival a).roots = s.roots := rfl
@[simp] theorem sendArrival_align (a : Arrival) : (s.sendArrival a).align = s.align := rfl
@[simp] theorem sendArrival_avs (a : Arrival) : (s.sendArrival a).avs = s.avs := rfl
@[simp] theorem sendArrival_sched (a : Arrival) : (s.sendArrival a).sched = s.sched := rfl
@[simp] theorem sendArrival_engines (a : Arrival) : (s.sendArrival a).engines = s.engines := rfl
@[simp] theorem sendArrival_links (a : Arrival) : (s.sendArrival a).links = s.links := rfl
@[simp] theorem sendArrival_ingest (a : Arrival) : (s.sendArrival a).ingest = s.ingest := rfl
@[simp] theorem sendArrival_time (a : Arrival) : (s.sendArrival a).time = s.time := rfl
@[simp] theorem sendArrival_safety (a : Arrival) : (s.sendArrival a).safety = s.safety := rfl
@[simp] theorem sendArrival_subCopy (a : Arrival) : (s.sendArrival a).subCopy = s.subCopy := rfl
@[simp] theorem sendArrival_host (a : Arrival) : (s.sendArrival a).host = s.host := rfl
@[simp] theorem sendArrival_tap (a : Arrival) : (s.sendArrival a).tap = s.tap := rfl
@[simp] theorem sendArrival_power (a : Arrival) : (s.sendArrival a).power = s.power := rfl
@[simp] theorem sendArrival_meas (a : Arrival) : (s.sendArrival a).meas = s.meas := rfl
@[simp] theorem sendArrival_learn (a : Arrival) : (s.sendArrival a).learn = s.learn := rfl
@[simp] theorem sendArrival_freeCtr (a : Arrival) : (s.sendArrival a).freeCtr = s.freeCtr := rfl
@[simp] theorem sendArrival_pending (a : Arrival) : (s.sendArrival a).pending = s.pending := rfl

@[simp] theorem setMonitor_regs (m : Nat) (x : Monitor) : (s.setMonitor m x).regs = s.regs := rfl
@[simp] theorem setMonitor_wide (m : Nat) (x : Monitor) : (s.setMonitor m x).wide = s.wide := rfl
@[simp] theorem setMonitor_mem (m : Nat) (x : Monitor) : (s.setMonitor m x).mem = s.mem := rfl
@[simp] theorem setMonitor_roots (m : Nat) (x : Monitor) : (s.setMonitor m x).roots = s.roots := rfl
@[simp] theorem setMonitor_align (m : Nat) (x : Monitor) : (s.setMonitor m x).align = s.align := rfl
@[simp] theorem setMonitor_sched (m : Nat) (x : Monitor) : (s.setMonitor m x).sched = s.sched := rfl
@[simp] theorem setMonitor_engines (m : Nat) (x : Monitor) : (s.setMonitor m x).engines = s.engines := rfl
@[simp] theorem setMonitor_links (m : Nat) (x : Monitor) : (s.setMonitor m x).links = s.links := rfl
@[simp] theorem setMonitor_sync (m : Nat) (x : Monitor) : (s.setMonitor m x).sync = s.sync := rfl
@[simp] theorem setMonitor_ingest (m : Nat) (x : Monitor) : (s.setMonitor m x).ingest = s.ingest := rfl
@[simp] theorem setMonitor_time (m : Nat) (x : Monitor) : (s.setMonitor m x).time = s.time := rfl
@[simp] theorem setMonitor_safety (m : Nat) (x : Monitor) : (s.setMonitor m x).safety = s.safety := rfl
@[simp] theorem setMonitor_subCopy (m : Nat) (x : Monitor) : (s.setMonitor m x).subCopy = s.subCopy := rfl
@[simp] theorem setMonitor_host (m : Nat) (x : Monitor) : (s.setMonitor m x).host = s.host := rfl
@[simp] theorem setMonitor_tap (m : Nat) (x : Monitor) : (s.setMonitor m x).tap = s.tap := rfl
@[simp] theorem setMonitor_power (m : Nat) (x : Monitor) : (s.setMonitor m x).power = s.power := rfl
@[simp] theorem setMonitor_meas (m : Nat) (x : Monitor) : (s.setMonitor m x).meas = s.meas := rfl
@[simp] theorem setMonitor_learn (m : Nat) (x : Monitor) : (s.setMonitor m x).learn = s.learn := rfl
@[simp] theorem setMonitor_freeCtr (m : Nat) (x : Monitor) : (s.setMonitor m x).freeCtr = s.freeCtr := rfl
@[simp] theorem setMonitor_pending (m : Nat) (x : Monitor) : (s.setMonitor m x).pending = s.pending := rfl

@[simp] theorem setSide_regs (base : Nat) (p : Path) (x : WideSide) : (s.setSide base p x).regs = s.regs := rfl
@[simp] theorem setSide_mem (base : Nat) (p : Path) (x : WideSide) : (s.setSide base p x).mem = s.mem := rfl
@[simp] theorem setSide_roots (base : Nat) (p : Path) (x : WideSide) : (s.setSide base p x).roots = s.roots := rfl
@[simp] theorem setSide_align (base : Nat) (p : Path) (x : WideSide) : (s.setSide base p x).align = s.align := rfl
@[simp] theorem setSide_avs (base : Nat) (p : Path) (x : WideSide) : (s.setSide base p x).avs = s.avs := rfl
@[simp] theorem setSide_sched (base : Nat) (p : Path) (x : WideSide) : (s.setSide base p x).sched = s.sched := rfl
@[simp] theorem setSide_engines (base : Nat) (p : Path) (x : WideSide) : (s.setSide base p x).engines = s.engines := rfl
@[simp] theorem setSide_links (base : Nat) (p : Path) (x : WideSide) : (s.setSide base p x).links = s.links := rfl
@[simp] theorem setSide_sync (base : Nat) (p : Path) (x : WideSide) : (s.setSide base p x).sync = s.sync := rfl
@[simp] theorem setSide_ingest (base : Nat) (p : Path) (x : WideSide) : (s.setSide base p x).ingest = s.ingest := rfl
@[simp] theorem setSide_time (base : Nat) (p : Path) (x : WideSide) : (s.setSide base p x).time = s.time := rfl
@[simp] theorem setSide_safety (base : Nat) (p : Path) (x : WideSide) : (s.setSide base p x).safety = s.safety := rfl
@[simp] theorem setSide_subCopy (base : Nat) (p : Path) (x : WideSide) : (s.setSide base p x).subCopy = s.subCopy := rfl
@[simp] theorem setSide_host (base : Nat) (p : Path) (x : WideSide) : (s.setSide base p x).host = s.host := rfl
@[simp] theorem setSide_tap (base : Nat) (p : Path) (x : WideSide) : (s.setSide base p x).tap = s.tap := rfl
@[simp] theorem setSide_power (base : Nat) (p : Path) (x : WideSide) : (s.setSide base p x).power = s.power := rfl
@[simp] theorem setSide_meas (base : Nat) (p : Path) (x : WideSide) : (s.setSide base p x).meas = s.meas := rfl
@[simp] theorem setSide_learn (base : Nat) (p : Path) (x : WideSide) : (s.setSide base p x).learn = s.learn := rfl
@[simp] theorem setSide_freeCtr (base : Nat) (p : Path) (x : WideSide) : (s.setSide base p x).freeCtr = s.freeCtr := rfl
@[simp] theorem setSide_pending (base : Nat) (p : Path) (x : WideSide) : (s.setSide base p x).pending = s.pending := rfl

@[simp] theorem setDir_regs (i : Nat) (b : Bool) (d : LinkDir) : (s.setDir i b d).regs = s.regs := rfl
@[simp] theorem setDir_wide (i : Nat) (b : Bool) (d : LinkDir) : (s.setDir i b d).wide = s.wide := rfl
@[simp] theorem setDir_mem (i : Nat) (b : Bool) (d : LinkDir) : (s.setDir i b d).mem = s.mem := rfl
@[simp] theorem setDir_roots (i : Nat) (b : Bool) (d : LinkDir) : (s.setDir i b d).roots = s.roots := rfl
@[simp] theorem setDir_align (i : Nat) (b : Bool) (d : LinkDir) : (s.setDir i b d).align = s.align := rfl
@[simp] theorem setDir_avs (i : Nat) (b : Bool) (d : LinkDir) : (s.setDir i b d).avs = s.avs := rfl
@[simp] theorem setDir_sched (i : Nat) (b : Bool) (d : LinkDir) : (s.setDir i b d).sched = s.sched := rfl
@[simp] theorem setDir_engines (i : Nat) (b : Bool) (d : LinkDir) : (s.setDir i b d).engines = s.engines := rfl
@[simp] theorem setDir_sync (i : Nat) (b : Bool) (d : LinkDir) : (s.setDir i b d).sync = s.sync := rfl
@[simp] theorem setDir_ingest (i : Nat) (b : Bool) (d : LinkDir) : (s.setDir i b d).ingest = s.ingest := rfl
@[simp] theorem setDir_time (i : Nat) (b : Bool) (d : LinkDir) : (s.setDir i b d).time = s.time := rfl
@[simp] theorem setDir_safety (i : Nat) (b : Bool) (d : LinkDir) : (s.setDir i b d).safety = s.safety := rfl
@[simp] theorem setDir_subCopy (i : Nat) (b : Bool) (d : LinkDir) : (s.setDir i b d).subCopy = s.subCopy := rfl
@[simp] theorem setDir_host (i : Nat) (b : Bool) (d : LinkDir) : (s.setDir i b d).host = s.host := rfl
@[simp] theorem setDir_tap (i : Nat) (b : Bool) (d : LinkDir) : (s.setDir i b d).tap = s.tap := rfl
@[simp] theorem setDir_power (i : Nat) (b : Bool) (d : LinkDir) : (s.setDir i b d).power = s.power := rfl
@[simp] theorem setDir_meas (i : Nat) (b : Bool) (d : LinkDir) : (s.setDir i b d).meas = s.meas := rfl
@[simp] theorem setDir_learn (i : Nat) (b : Bool) (d : LinkDir) : (s.setDir i b d).learn = s.learn := rfl
@[simp] theorem setDir_freeCtr (i : Nat) (b : Bool) (d : LinkDir) : (s.setDir i b d).freeCtr = s.freeCtr := rfl
@[simp] theorem setDir_pending (i : Nat) (b : Bool) (d : LinkDir) : (s.setDir i b d).pending = s.pending := rfl

/-! A latched request, an activity and what follows every command (R428, R435, R521) -/

@[simp] theorem latchReq_wide (r : PwrReq) : (s.latchReq r).wide = s.wide := by unfold State.latchReq; dsimp only; split <;> rfl
@[simp] theorem latchReq_mem (r : PwrReq) : (s.latchReq r).mem = s.mem := by unfold State.latchReq; dsimp only; split <;> rfl
@[simp] theorem latchReq_roots (r : PwrReq) : (s.latchReq r).roots = s.roots := by unfold State.latchReq; dsimp only; split <;> rfl
@[simp] theorem latchReq_align (r : PwrReq) : (s.latchReq r).align = s.align := by unfold State.latchReq; dsimp only; split <;> rfl
@[simp] theorem latchReq_avs (r : PwrReq) : (s.latchReq r).avs = s.avs := by unfold State.latchReq; dsimp only; split <;> rfl
@[simp] theorem latchReq_sched (r : PwrReq) : (s.latchReq r).sched = s.sched := by unfold State.latchReq; dsimp only; split <;> rfl
@[simp] theorem latchReq_engines (r : PwrReq) : (s.latchReq r).engines = s.engines := by unfold State.latchReq; dsimp only; split <;> rfl
@[simp] theorem latchReq_links (r : PwrReq) : (s.latchReq r).links = s.links := by unfold State.latchReq; dsimp only; split <;> rfl
@[simp] theorem latchReq_sync (r : PwrReq) : (s.latchReq r).sync = s.sync := by unfold State.latchReq; dsimp only; split <;> rfl
@[simp] theorem latchReq_ingest (r : PwrReq) : (s.latchReq r).ingest = s.ingest := by unfold State.latchReq; dsimp only; split <;> rfl
@[simp] theorem latchReq_time (r : PwrReq) : (s.latchReq r).time = s.time := by unfold State.latchReq; dsimp only; split <;> rfl
@[simp] theorem latchReq_safety (r : PwrReq) : (s.latchReq r).safety = s.safety := by unfold State.latchReq; dsimp only; split <;> rfl
@[simp] theorem latchReq_subCopy (r : PwrReq) : (s.latchReq r).subCopy = s.subCopy := by unfold State.latchReq; dsimp only; split <;> rfl
@[simp] theorem latchReq_host (r : PwrReq) : (s.latchReq r).host = s.host := by unfold State.latchReq; dsimp only; split <;> rfl
@[simp] theorem latchReq_tap (r : PwrReq) : (s.latchReq r).tap = s.tap := by unfold State.latchReq; dsimp only; split <;> rfl
@[simp] theorem latchReq_meas (r : PwrReq) : (s.latchReq r).meas = s.meas := by unfold State.latchReq; dsimp only; split <;> rfl
@[simp] theorem latchReq_learn (r : PwrReq) : (s.latchReq r).learn = s.learn := by unfold State.latchReq; dsimp only; split <;> rfl
@[simp] theorem latchReq_freeCtr (r : PwrReq) : (s.latchReq r).freeCtr = s.freeCtr := by unfold State.latchReq; dsimp only; split <;> rfl
@[simp] theorem latchReq_pending (r : PwrReq) : (s.latchReq r).pending = s.pending := by unfold State.latchReq; dsimp only; split <;> rfl

@[simp] theorem activity_wide : (s.activity).wide = s.wide := by unfold State.activity; split <;> simp
@[simp] theorem activity_mem : (s.activity).mem = s.mem := by unfold State.activity; split <;> simp
@[simp] theorem activity_roots : (s.activity).roots = s.roots := by unfold State.activity; split <;> simp
@[simp] theorem activity_align : (s.activity).align = s.align := by unfold State.activity; split <;> simp
@[simp] theorem activity_avs : (s.activity).avs = s.avs := by unfold State.activity; split <;> simp
@[simp] theorem activity_sched : (s.activity).sched = s.sched := by unfold State.activity; split <;> simp
@[simp] theorem activity_engines : (s.activity).engines = s.engines := by unfold State.activity; split <;> simp
@[simp] theorem activity_links : (s.activity).links = s.links := by unfold State.activity; split <;> simp
@[simp] theorem activity_sync : (s.activity).sync = s.sync := by unfold State.activity; split <;> simp
@[simp] theorem activity_ingest : (s.activity).ingest = s.ingest := by unfold State.activity; split <;> simp
@[simp] theorem activity_time : (s.activity).time = s.time := by unfold State.activity; split <;> simp
@[simp] theorem activity_safety : (s.activity).safety = s.safety := by unfold State.activity; split <;> simp
@[simp] theorem activity_subCopy : (s.activity).subCopy = s.subCopy := by unfold State.activity; split <;> simp
@[simp] theorem activity_host : (s.activity).host = s.host := by unfold State.activity; split <;> simp
@[simp] theorem activity_tap : (s.activity).tap = s.tap := by unfold State.activity; split <;> simp
@[simp] theorem activity_meas : (s.activity).meas = s.meas := by unfold State.activity; split <;> simp
@[simp] theorem activity_learn : (s.activity).learn = s.learn := by unfold State.activity; split <;> simp
@[simp] theorem activity_freeCtr : (s.activity).freeCtr = s.freeCtr := by unfold State.activity; split <;> simp
@[simp] theorem activity_pending : (s.activity).pending = s.pending := by unfold State.activity; split <;> simp

@[simp] theorem settle_wide : (s.settle).wide = s.wide := by unfold State.settle; dsimp only; split <;> simp
@[simp] theorem settle_mem : (s.settle).mem = s.mem := by unfold State.settle; dsimp only; split <;> simp
@[simp] theorem settle_roots : (s.settle).roots = s.roots := by unfold State.settle; dsimp only; split <;> simp
@[simp] theorem settle_align : (s.settle).align = s.align := by unfold State.settle; dsimp only; split <;> simp
@[simp] theorem settle_avs : (s.settle).avs = s.avs := by unfold State.settle; dsimp only; split <;> simp
@[simp] theorem settle_sched : (s.settle).sched = s.sched := by unfold State.settle; dsimp only; split <;> simp
@[simp] theorem settle_engines : (s.settle).engines = s.engines := by unfold State.settle; dsimp only; split <;> simp
@[simp] theorem settle_links : (s.settle).links = s.links := by unfold State.settle; dsimp only; split <;> simp
@[simp] theorem settle_sync : (s.settle).sync = s.sync := by unfold State.settle; dsimp only; split <;> simp
@[simp] theorem settle_ingest : (s.settle).ingest = s.ingest := by unfold State.settle; dsimp only; split <;> simp
@[simp] theorem settle_time : (s.settle).time = s.time := by unfold State.settle; dsimp only; split <;> simp
@[simp] theorem settle_safety : (s.settle).safety = s.safety := by unfold State.settle; dsimp only; split <;> simp
@[simp] theorem settle_subCopy : (s.settle).subCopy = s.subCopy := by unfold State.settle; dsimp only; split <;> simp
@[simp] theorem settle_tap : (s.settle).tap = s.tap := by unfold State.settle; dsimp only; split <;> simp
@[simp] theorem settle_meas : (s.settle).meas = s.meas := by unfold State.settle; dsimp only; split <;> simp
@[simp] theorem settle_learn : (s.settle).learn = s.learn := by unfold State.settle; dsimp only; split <;> simp
@[simp] theorem settle_freeCtr : (s.settle).freeCtr = s.freeCtr := by unfold State.settle; dsimp only; split <;> simp
@[simp] theorem settle_pending : (s.settle).pending = s.pending := by unfold State.settle; dsimp only; split <;> simp

end Sys2Proof.Machine
end

