-- ==== Sys2Proof/Laws/Ops.lean ====
section
/-! SUPPORT. The laws of the shared operations over registers and memory: what each can do, and that it keeps the canonical
forms. -/

namespace Sys2Proof.Machine

variable (s : State)

/-! ### Bit fields -/

/-- A number as the part below a field, the field, and the part above. -/
theorem fld_split (w hi lo : Nat) : w = w % 2 ^ lo + 2 ^ lo * (fld w hi lo + 2 ^ (hi + 1 - lo) * (w / 2 ^ lo / 2 ^ (hi + 1 - lo))) := by
  have h2 := Nat.mod_add_div (w / 2 ^ lo) (2 ^ (hi + 1 - lo))
  have h1 := Nat.mod_add_div w (2 ^ lo)
  rw [fld, Nat.shiftRight_eq_div_pow, h2, h1]

theorem setFld_split (w hi lo v : Nat) :
    setFld w hi lo v = w % 2 ^ lo + 2 ^ lo * (v % 2 ^ (hi + 1 - lo) + 2 ^ (hi + 1 - lo) * (w / 2 ^ lo / 2 ^ (hi + 1 - lo))) := by
  have h := fld_split w hi lo
  unfold setFld
  generalize fld w hi lo = f at *
  generalize w / 2 ^ lo / 2 ^ (hi + 1 - lo) = c at *
  generalize hp : 2 ^ lo = p at *
  generalize hq : 2 ^ (hi + 1 - lo) = q at *
  generalize w % p = a at *
  subst h
  have e1 : a + p * (f + q * c) = a + p * (q * c) + f * p := by rw [Nat.mul_add, Nat.mul_comm p f]; omega
  rw [e1, Nat.add_sub_cancel, Nat.mul_add, Nat.mul_comm p (v % q)]
  omega

/-- The field just set reads as what was put there. -/
@[simp] theorem fld_setFld_same (w hi lo v : Nat) : fld (setFld w hi lo v) hi lo = v % 2 ^ (hi + 1 - lo) := by
  rw [setFld_split, fld, Nat.shiftRight_eq_div_pow]
  have hp : 0 < 2 ^ lo := Nat.two_pow_pos lo
  rw [Nat.add_mul_div_left _ _ hp, Nat.div_eq_of_lt (Nat.mod_lt _ hp), Nat.zero_add, Nat.add_mul_mod_self_left, Nat.mod_mod]

/-- Bit i of a number whose field was set. -/
theorem testBit_setFld (w hi lo v i : Nat) :
    (setFld w hi lo v).testBit i =
      if i < lo then w.testBit i else if i < lo + (hi + 1 - lo) then v.testBit (i - lo) else w.testBit i := by
  have hp : 0 < 2 ^ lo := Nat.two_pow_pos lo
  rw [setFld_split, Nat.add_comm, Nat.testBit_two_pow_mul_add _ (Nat.mod_lt _ hp)]
  split
  · rename_i h; simp [Nat.testBit_mod_two_pow, h]
  · rename_i h
    rw [Nat.add_comm (v % _), Nat.testBit_two_pow_mul_add _ (Nat.mod_lt _ (Nat.two_pow_pos _))]
    by_cases h2 : i - lo < hi + 1 - lo
    · have h3 : i < lo + (hi + 1 - lo) := by omega
      simp [Nat.testBit_mod_two_pow, h2, h3]
    · have h3 : ¬ i < lo + (hi + 1 - lo) := by omega
      simp only [h2, h3, if_false, Nat.testBit_div_two_pow]
      congr 1; omega

theorem setFld_lt (w hi lo v n : Nat) (hw : w < 2 ^ n) (hh : hi < n) (hl : lo ≤ hi) : setFld w hi lo v < 2 ^ n := by
  apply Nat.lt_pow_two_of_testBit
  intro i hi'
  rw [testBit_setFld]
  have hwi : w.testBit i = false := Nat.testBit_lt_two_pow (Nat.lt_of_lt_of_le hw (Nat.pow_le_pow_right (by decide) hi'))
  have h1 : ¬ i < lo := by omega
  have h2 : ¬ i < lo + (hi + 1 - lo) := by omega
  simp [h1, h2, hwi]

/-- The bits of a field are bits of the number. -/
theorem testBit_fld (w hi lo i : Nat) : (fld w hi lo).testBit i = (decide (i < hi + 1 - lo) && w.testBit (lo + i)) := by
  rw [fld, Nat.testBit_mod_two_pow, Nat.testBit_shiftRight]

/-- A field that does not meet the one set stays. -/
theorem fld_setFld_other (w hi lo v hi' lo' : Nat) (hl : lo ≤ hi) (h : hi' < lo ∨ hi < lo') :
    fld (setFld w hi lo v) hi' lo' = fld w hi' lo' := by
  apply Nat.eq_of_testBit_eq
  intro i
  rw [testBit_fld, testBit_fld]
  by_cases h1 : i < hi' + 1 - lo'
  · simp only [h1, decide_true, Bool.true_and, testBit_setFld]
    rcases h with h | h
    · have : lo' + i < lo := by omega
      simp [this]
    · have h2 : ¬ lo' + i < lo := by omega
      have h3 : ¬ lo' + i < lo + (hi + 1 - lo) := by omega
      simp [h2, h3]
  · simp [h1]

/-! ### Registers -/

/-- A register read after a write. -/
theorem reg_setReg (a b : Nat) (w : Word) : (s.setReg a w).reg b = if b = a then w else s.reg b := by
  simp [State.reg, smap_look_put]

@[simp] theorem reg_setReg_same (a : Nat) (w : Word) : (s.setReg a w).reg a = w := by simp [reg_setReg]

theorem reg_setReg_other (a b : Nat) (w : Word) (h : b ≠ a) : (s.setReg a w).reg b = s.reg b := by simp [reg_setReg, h]

theorem reg_setFld_other (a hi lo v b : Nat) (h : b ≠ a) : (s.setFld a hi lo v).reg b = s.reg b := reg_setReg_other s a b _ h

theorem reg_setBit_other (a n b : Nat) (v : Bool) (h : b ≠ a) : (s.setBit a n v).reg b = s.reg b := reg_setFld_other s a n n _ b h

theorem reg_setNat_other (a v b : Nat) (h : b ≠ a) : (s.setNat a v).reg b = s.reg b := reg_setReg_other s a b _ h

@[simp] theorem reg_setNat_same (a v : Nat) : (s.setNat a v).reg a = BitVec.ofNat 32 v := reg_setReg_same s a _

theorem reg_incFld_other (a hi lo k b : Nat) (h : b ≠ a) : (s.incFld a hi lo k).reg b = s.reg b := reg_setFld_other s a hi lo _ b h

theorem wset_toNat (w : Word) (hi lo v : Nat) (hh : hi < 32) (hl : lo ≤ hi) : (wset w hi lo v).toNat = setFld w.toNat hi lo v := by
  rw [wset, BitVec.toNat_ofNat, Nat.mod_eq_of_lt (setFld_lt _ _ _ _ _ w.isLt hh hl)]

/-- A register's field after it was set. -/
theorem fld_setFld_reg (a hi lo v : Nat) (hh : hi < 32) (hl : lo ≤ hi) :
    (s.setFld a hi lo v).fld a hi lo = v % 2 ^ (hi + 1 - lo) := by
  simp [State.fld, State.setFld, wfld, wset_toNat _ _ _ _ hh hl]

/-- Another field of the register stays. -/
theorem fld_setFld_reg_other (a hi lo v hi' lo' : Nat) (hh : hi < 32) (hl : lo ≤ hi) (h : hi' < lo ∨ hi < lo') :
    (s.setFld a hi lo v).fld a hi' lo' = s.fld a hi' lo' := by
  simp [State.fld, State.setFld, wfld, wset_toNat _ _ _ _ hh hl, fld_setFld_other _ _ _ _ _ _ hl h]

/-- A bit of the register after a field of it was set. -/
theorem bit_setFld_reg (a hi lo v n : Nat) (hh : hi < 32) (hl : lo ≤ hi) :
    (s.setFld a hi lo v).bit a n = if lo ≤ n ∧ n ≤ hi then v.testBit (n - lo) else s.bit a n := by
  have : (s.setFld a hi lo v).bit a n = (wset (s.reg a) hi lo v).toNat.testBit n := by
    simp [State.bit, State.setFld, BitVec.testBit_toNat]
  rw [this, wset_toNat _ _ _ _ hh hl, testBit_setFld]
  by_cases h1 : n < lo
  · have : ¬ (lo ≤ n ∧ n ≤ hi) := by omega
    simp [h1, this, State.bit, BitVec.testBit_toNat]
  · by_cases h2 : n < lo + (hi + 1 - lo)
    · have : lo ≤ n ∧ n ≤ hi := by omega
      simp [h1, h2, this]
    · have : ¬ (lo ≤ n ∧ n ≤ hi) := by omega
      simp [h1, h2, this, State.bit, BitVec.testBit_toNat]

/-- A bit after it was set or cleared. -/
theorem bit_setBit_reg (a n m : Nat) (b : Bool) (hn : n < 32) :
    (s.setBit a n b).bit a m = if m = n then b else s.bit a m := by
  rw [State.setBit, bit_setFld_reg s a n n _ m hn (Nat.le_refl n)]
  by_cases h : m = n
  · subst h; cases b <;> simp [b2n]
  · have : ¬ (n ≤ m ∧ m ≤ n) := by omega
    simp [h, this]

/-- The 64-bit number in two registers after it was stored. -/
theorem reg64_setReg64 (a v : Nat) : (s.setReg64 a v).reg64 a = v % 2 ^ 64 := by
  have h1 : a ≠ a + 1 := by omega
  have h2 : (s.setReg64 a v).reg a = BitVec.ofNat 32 v := by
    rw [State.setReg64, reg_setNat_other _ _ _ _ h1, reg_setNat_same]
  have h3 : (s.setReg64 a v).reg (a + 1) = BitVec.ofNat 32 (v / 2 ^ 32) := by rw [State.setReg64, reg_setNat_same]
  simp only [State.reg64, h2, h3, BitVec.toNat_ofNat]
  omega

/-! ### Activity, and what follows every command (R428, R435, R521) -/

/-- A request of the same source, target and time as one of its cycle adds nothing. -/
theorem insert_insert (r : PwrReq) (l : List PwrReq) : r.insert (r.insert l) = r.insert l := by
  induction l with
  | nil => simp [PwrReq.insert]
  | cons q t ih =>
    by_cases h : q = r
    · simp [PwrReq.insert, h]
    · by_cases h2 : r.rank < q.rank
      · simp [PwrReq.insert, h, h2]
      · simp [PwrReq.insert, h, h2, ih]

/-- An activity changes the power controller only, and of the registers PWR_STATUS only, while HOLD is being entered. -/
theorem activity_frame : s.activity = { s with regs := s.activity.regs, power := s.activity.power } := by
  unfold State.activity
  split
  · rfl
  · unfold State.latchReq; dsimp only; split <;> rfl
  · rfl

theorem activity_reg (a : Nat) (h : a ≠ Reg.PWR_STATUS ∨ s.power.state ≠ .toHold) : s.activity.reg a = s.reg a := by
  unfold State.activity
  split
  · rfl
  · rename_i e
    have h1 : a ≠ Reg.PWR_STATUS := h.resolve_right fun c => c e
    unfold State.latchReq; dsimp only
    split
    · rfl
    · rw [reg_setFld_other _ _ _ _ _ _ h1, reg_setFld_other _ _ _ _ _ _ h1, reg_setBit_other _ _ _ _ _ h1]; rfl
  · rfl

/-- Outside HOLD and its entry an activity has no effect. -/
theorem activity_none (h : s.power.state ≠ .hold) (h2 : s.power.state ≠ .toHold) : s.activity = s := by
  unfold State.activity
  split
  · contradiction
  · contradiction
  · rfl

/-- What follows a command changes the host link, the power controller where an event rises, and no register but
PWR_STATUS. -/
theorem settle_frame : s.settle = { s with regs := s.settle.regs, host := s.settle.host, power := s.settle.power } := by
  unfold State.settle
  dsimp only
  split
  · generalize hx : s.activity = x
    have := activity_frame s
    rw [hx] at this
    rw [this]
  · rfl

theorem settle_power : s.settle.power = s.power ∨ s.settle.power = s.activity.power := by
  unfold State.settle
  dsimp only
  split
  · exact .inr rfl
  · exact .inl rfl

theorem settle_reg (a : Nat) (h : a ≠ Reg.PWR_STATUS ∨ s.power.state ≠ .toHold) : s.settle.reg a = s.reg a := by
  unfold State.settle
  dsimp only
  split
  · exact activity_reg s a h
  · rfl

/-- Outside HOLD and its entry only the host link follows. -/
theorem settle_none (h : s.power.state ≠ .hold) (h2 : s.power.state ≠ .toHold) : s.settle = { s with host := s.afterEvents } := by
  unfold State.settle
  rw [activity_none s h h2]
  simp

/-! ### The access error records (R527) -/

/-- The register that records an access error. -/
theorem accErr_reg_other (tile : Bool) (n : Nat) (wr : Bool) (path a b : Nat)
    (hb : b ≠ if tile then Reg.CTL_TACC_ERR else Reg.CTL_ACC_ERR) : (s.accErr tile n wr path a).reg b = s.reg b := by
  unfold State.accErr
  generalize (if tile then Reg.CTL_TACC_ERR else Reg.CTL_ACC_ERR) = r at *
  by_cases h : s.fld r 2 0 = 0 <;> simp [h, State.setBit, State.setFld, reg_setReg_other _ _ _ _ hb]

/-- An access error changes one register and nothing else. -/
theorem accErr_frame (tile : Bool) (n : Nat) (wr : Bool) (path a : Nat) :
    s.accErr tile n wr path a = { s with regs := (s.accErr tile n wr path a).regs } := by
  unfold State.accErr
  generalize (if tile then Reg.CTL_TACC_ERR else Reg.CTL_ACC_ERR) = r
  by_cases h : s.fld r 2 0 = 0 <;> simp only [h, if_true, if_false] <;> rfl

/-! ### Memory -/

/-- A byte read after a byte write. -/
theorem byte_putByte (a b : Nat) (v : Byte) : (s.putByte a v).byte b = if b = a then v else s.byte b := by
  simp [State.byte, smap_look_put]

@[simp] theorem byte_putByte_same (a : Nat) (v : Byte) : (s.putByte a v).byte a = v := by simp [byte_putByte]

/-- What decides whether a byte is mapped: the registers and the host link. -/
theorem faultKind_congr (t : State) (hr : t.regs = s.regs) (hh : t.host = s.host) (a : Nat) : t.faultKind a = s.faultKind a := by
  unfold State.faultKind State.lpddrHolds State.lpddrBytes State.fld State.bit State.reg
  rw [hr, hh]

@[simp] theorem faultKind_putByte (a b : Nat) (v : Byte) : (s.putByte a v).faultKind b = s.faultKind b :=
  faultKind_congr s _ rfl rfl b

/-- A byte write by an access stores a mapped byte and drops another. -/
theorem byte_writeByte (a b : Nat) (v : Byte) :
    (s.writeByte a v).byte b = if b = a ∧ s.faultKind a = 0 then v else s.byte b := by
  unfold State.writeByte
  by_cases h : s.faultKind a = 0 <;> simp [h, byte_putByte]

/-- A byte write by an access changes memory only. -/
theorem writeByte_frame (a : Nat) (v : Byte) : s.writeByte a v = { s with mem := (s.writeByte a v).mem } := by
  unfold State.writeByte
  split <;> rfl

theorem writeBytes_frame (a : Nat) (bs : List Byte) : s.writeBytes a bs = { s with mem := (s.writeBytes a bs).mem } := by
  induction bs generalizing s a with
  | nil => rfl
  | cons b t ih =>
    rw [State.writeBytes, ih (s.writeByte a b)]
    have h := writeByte_frame s a b
    generalize s.writeByte a b = u at *
    rw [h]

@[simp] theorem writeBytes_regs (a : Nat) (bs : List Byte) : (s.writeBytes a bs).regs = s.regs := by rw [writeBytes_frame]
@[simp] theorem writeBytes_host (a : Nat) (bs : List Byte) : (s.writeBytes a bs).host = s.host := by rw [writeBytes_frame]
@[simp] theorem writeBytes_pending (a : Nat) (bs : List Byte) : (s.writeBytes a bs).pending = s.pending := by rw [writeBytes_frame]

/-- Which bytes are mapped does not change by writing bytes. -/
@[simp] theorem faultKind_writeByte (a b : Nat) (v : Byte) : (s.writeByte a v).faultKind b = s.faultKind b := by
  apply faultKind_congr <;> rw [writeByte_frame]

@[simp] theorem faultKind_writeBytes (a b : Nat) (bs : List Byte) : (s.writeBytes a bs).faultKind b = s.faultKind b :=
  faultKind_congr s _ (by simp) (by simp) b

/-- A byte outside the range written stays. -/
theorem byte_writeBytes_other (a b : Nat) (bs : List Byte) (h : b < a ∨ a + bs.length ≤ b) :
    (s.writeBytes a bs).byte b = s.byte b := by
  induction bs generalizing s a with
  | nil => rfl
  | cons v t ih =>
    simp only [List.length_cons] at h
    rw [State.writeBytes, ih _ _ (by omega), byte_writeByte]
    have : b ≠ a := by omega
    simp [this]

/-- A mapped byte of the range holds what was written to it. -/
theorem byte_writeBytes_same (a i : Nat) (bs : List Byte) (h : i < bs.length) (hm : s.faultKind (a + i) = 0) :
    (s.writeBytes a bs).byte (a + i) = bs.getD i 0#8 := by
  induction bs generalizing s a i with
  | nil => simp at h
  | cons v t ih =>
    rw [State.writeBytes]
    cases i with
    | zero =>
      rw [byte_writeBytes_other _ _ _ _ (by omega), byte_writeByte]
      simp only [Nat.add_zero] at *
      simp [hm]
    | succ j =>
      have e : a + (j + 1) = a + 1 + j := by omega
      rw [e] at hm ⊢
      rw [ih (s.writeByte a v) (a + 1) j (by simpa using h) (by simpa using hm)]
      simp

/-! ### The canonical forms -/

theorem putByte_wf (a : Nat) (v : Byte) (h : Memory.wf s.mem = true) : Memory.wf (s.putByte a v).mem = true :=
  smap_wf_put 0#8 s.mem a v h

theorem writeByte_wf (a : Nat) (v : Byte) (h : Memory.wf s.mem = true) : Memory.wf (s.writeByte a v).mem = true := by
  unfold State.writeByte
  split
  · exact putByte_wf s a v h
  · exact h

theorem writeBytes_wf (a : Nat) (bs : List Byte) (h : Memory.wf s.mem = true) : Memory.wf (s.writeBytes a bs).mem = true := by
  induction bs generalizing s a with
  | nil => exact h
  | cons b t ih => exact ih _ _ (writeByte_wf s a b h)

theorem scramble_wf (a n : Nat) (h : Memory.wf s.mem = true) : Memory.wf (s.scramble a n).mem = true := by
  induction n generalizing s a with
  | zero => exact h
  | succ n ih => exact ih _ _ (writeByte_wf s a _ h)

/-- The memory of the reset state is canonical. -/
theorem reset_memory_wf : Memory.wf State.reset.mem = true := rfl

theorem setReg_wf (a : Nat) (w : Word) (h : Regs.wf s.regs = true) : Regs.wf (s.setReg a w).regs = true :=
  smap_wf_put 0#32 s.regs a w h

/-! ### The same for both at once -/

variable {s}

/-- Memory and registers decide the invariant. -/
theorem State.Inv.congr {t : State} (h : s.Inv) (hm : t.mem = s.mem) (hr : t.regs = s.regs) : t.Inv := by
  unfold State.Inv at *
  rwa [hm, hr]

theorem State.Inv.setReg (h : s.Inv) (a : Nat) (w : Word) : (s.setReg a w).Inv := ⟨h.1, setReg_wf s a w h.2⟩
theorem State.Inv.setFld (h : s.Inv) (a hi lo v : Nat) : (s.setFld a hi lo v).Inv := h.setReg _ _
theorem State.Inv.setBit (h : s.Inv) (a n : Nat) (b : Bool) : (s.setBit a n b).Inv := h.setReg _ _
theorem State.Inv.setNat (h : s.Inv) (a v : Nat) : (s.setNat a v).Inv := h.setReg _ _
theorem State.Inv.incFld (h : s.Inv) (a hi lo k : Nat) : (s.incFld a hi lo k).Inv := h.setReg _ _
theorem State.Inv.incSat (h : s.Inv) (a k : Nat) : (s.incSat a k).Inv := h.setReg _ _
theorem State.Inv.setReg64 (h : s.Inv) (a v : Nat) : (s.setReg64 a v).Inv := (h.setReg _ _).setReg _ _

theorem State.Inv.setRegs (h : s.Inv) (a : Nat) (ws : List Word) : (s.setRegs a ws).Inv := by
  induction ws generalizing s a with
  | nil => exact h
  | cons w t ih => exact ih (h.setReg a w) (a + 1)

theorem State.Inv.putByte (h : s.Inv) (a : Nat) (v : Byte) : (s.putByte a v).Inv := ⟨putByte_wf s a v h.1, h.2⟩

theorem State.Inv.writeByte (h : s.Inv) (a : Nat) (v : Byte) : (s.writeByte a v).Inv := by
  unfold State.writeByte
  split
  · exact h.putByte a v
  · exact h

theorem State.Inv.writeBytes (h : s.Inv) (a : Nat) (bs : List Byte) : (s.writeBytes a bs).Inv := by
  induction bs generalizing s a with
  | nil => exact h
  | cons b t ih => exact ih (h.writeByte a b) (a + 1)

theorem State.Inv.scramble (h : s.Inv) (a n : Nat) : (s.scramble a n).Inv := by
  induction n generalizing s a with
  | zero => exact h
  | succ n ih => exact ih (s := (s.writeByte a (BitVec.ofNat 8 s.drawn)).draw) ((h.writeByte a _).congr rfl rfl) (a + 1)

theorem State.Inv.latchReq (h : s.Inv) (r : PwrReq) : (s.latchReq r).Inv := by
  unfold State.latchReq
  dsimp only
  split
  · exact h.congr rfl rfl
  · exact (((h.congr rfl rfl : State.Inv _).setBit _ _ _).setFld _ _ _ _).setFld _ _ _ _

theorem State.Inv.activity (h : s.Inv) : s.activity.Inv := by
  unfold State.activity
  split
  · exact h.congr rfl rfl
  · exact h.latchReq _
  · exact h

theorem State.Inv.settle (h : s.Inv) : s.settle.Inv := by
  unfold State.settle
  dsimp only
  split
  · exact h.activity.congr rfl rfl
  · exact h.congr rfl rfl
theorem State.Inv.draw (h : s.Inv) (n : Nat) : (s.draw n).Inv := h.congr rfl rfl
theorem State.Inv.raise (h : s.Inv) (f : FaultReport) : (s.raise f).Inv := h.congr rfl rfl

/-- A record that keeps the first event keeps the invariant if its own update does. -/
theorem State.Inv.recordFirst (h : s.Inv) (a : Nat) (put : State → State) (hp : ∀ t : State, t.Inv → (put t).Inv) :
    (s.recordFirst a put).Inv := by
  unfold State.recordFirst
  split
  · exact h.setBit a 1 true
  · exact hp _ (h.setBit a 0 true)

theorem State.Inv.accErr (h : s.Inv) (tile : Bool) (n : Nat) (wr : Bool) (path a : Nat) : (s.accErr tile n wr path a).Inv := by
  unfold State.accErr
  generalize (if tile then Reg.CTL_TACC_ERR else Reg.CTL_ACC_ERR) = r
  by_cases hr : s.fld r 2 0 = 0 <;> simp only [hr, if_true, if_false]
  · exact (((h.setBit _ _ _).setBit _ _ _).setFld _ _ _ _).setFld _ _ _ _
  · exact (h.setBit _ _ _).setBit _ _ _

theorem State.Inv.badWrite (h : s.Inv) (p : Path) (a : Nat) : (s.badWrite p a).Inv := h.accErr _ _ _ _ _

theorem State.Inv.addrFault (h : s.Inv) (src : Nat) (wr : Bool) (kind a stream : Nat) : (s.addrFault src wr kind a stream).Inv := by
  unfold State.addrFault
  apply h.recordFirst
  intro t ht
  exact (((((ht.setFld _ _ _ _).setFld _ _ _ _).setFld _ _ _ _).setFld _ _ _ _).setNat _ _).setNat _ _

/-- A fold of operations that each keep the invariant keeps it. -/
theorem State.Inv.foldl {α : Type} (f : State → α → State) (hf : ∀ t x, t.Inv → (f t x).Inv) (l : List α) (h : s.Inv) :
    (l.foldl f s).Inv := by
  induction l generalizing s with
  | nil => exact h
  | cons x t ih => exact ih (hf s x h)

/-- A finished command answers a next state that keeps the invariant if its effect does. -/
theorem State.Inv.done {t : State} (h : s.Inv) (e : done s = .next t) : t.Inv := by
  simp only [Machine.done, Host.Outcome.next.injEq] at e
  exact e ▸ h.settle

end Sys2Proof.Machine
end

