-- ==== Sys2Proof/WellFormed.lean ====
section
/-! DEFINITION. Which commands are well formed: an operand that its type does not bound keeps the bounds the manual gives
it. The meanings do not ask for well-formedness. -/

namespace Sys2Proof

/-- An address of the BAR0 mirror lies within its 64 KiB (R7). -/
def barOk (path : Path) (addr : BitVec 16) : Bool := path == .riath || decide (addr.toNat < 0x4000)

/-- A place that R226 can name. -/
def SramArray.wf (a : SramArray) : Bool :=
  decide (1 ≤ a.level ∧ a.level ≤ 4 ∧ a.die < 2 ∧ a.cluster < 8 ∧ a.pcore < 5 ∧ a.peng < 17)

/-- A resource that R265 can name. -/
def CreditError.wf (c : CreditError) : Bool :=
  decide (1 ≤ c.res ∧ c.res ≤ 5 ∧ c.die < 2 ∧ c.cluster < 8 ∧ c.pcore < 5 ∧ c.peng < 17 ∧ c.port < 32)

/-- The command is well formed. -/
def Instr.wf (i : Instr) : Bool :=
  match i with
  | .registerWrite path addr be _ => barOk path addr && (path == .bar0 || be == 0xF#4)
  | .wideValueLowRead path addr => barOk path addr
  | .wideValueHighWrite path addr _ => barOk path addr
  | .tableLoadComplete _ flips => flips.all fun f => decide (f.1 < 2097152)
  | .rateMeasure rates => decide (rates.length = 16) && rates.all fun r => decide (r < 2048)
  | .monitorEnable _ val => val.getLsbD 31
  | .qCmdReserved _ cmd => decide (cmd = 0#3 ∨ 5 ≤ cmd.toNat)
  | .retirementReport _ _ entry => decide (entry < 2 ^ 48)
  | .scrubRead arr _ flips => arr.wf && flips.all fun f => decide (f.1 < 8)
  | .flitReceive _ _ _ _ _ _ credit => credit.all CreditError.wf
  | .streamCmdReserved _ cmd => decide (cmd = 0#3 ∨ 6 ≤ cmd.toNat)
  | .longPacket _ _ _ data _ _ _ _ _ => decide (data.length < 65536)
  | .ethernetFrameRx _ data _ _ _ _ _ => decide (14 ≤ data.length ∧ data.length ≤ 9216)
  | .canMessageRx _ id ide fdf brs rtr esi _ data _ _ _ _ => (ide || decide (id.toNat < 2048)) && (fdf || (!brs && !esi)) && !(fdf && rtr) && decide (data.length ≤ 64)
  | .kickoffArm _ val => val.getLsbD 0
  | .kickoffDisarm _ val => !val.getLsbD 0
  | .riathReserved _ code _ _ _ _ => decide (code = 0#4 ∨ 4 ≤ code.toNat)
  | .bar2Access off wr bs len => if wr then decide (0 < bs.length ∧ off.toNat + bs.length ≤ 2 ^ 28) else decide (0 < len ∧ off.toNat + len ≤ 2 ^ 28)
  | .pcieLinkUp speed width => decide (1 ≤ speed.toNat ∧ speed.toNat ≤ 4) && (width == 1#4 || width == 2#4 || width == 4#4 || width == 8#4)
  | .canBusError _ _ recv => decide (recv.val < 256)
  | .commitSdt | .commitQdt | .commitSot | .commitTdt | .powerOnReset | .warmReset | .supervisorReset | .perstRelease
  | .hDieResetRelease | .alignMarkerReturn _ _ | .alignMarkerTimeout _ _ | .alignmentComplete | .avsUpdate _
  | .avsbusTransactionDone _ | .weightLoad _ _ | .engineRowStart _ | .tableBuild _ | .engineRowEnd _
  | .drainConvert _ | .reductionCombine _ | .rowEncode _ | .qntSnap _ | .qntClear _ | .qntExpChange _ _ | .engClrSat
  | .engClrBusy | .qStart _ | .qHalt _ | .qResume _ | .qRelease _ | .issueGrant _ | .entryFetch _ | .waitEntry _
  | .signalEntry _ | .huddleArrivalEntry _ | .reservedEntryKind _ | .opUnimplemented _ | .linear _ | .conv2d _
  | .encodeRow _ | .encodeWeight _ | .add _ | .sub _ | .mul _ | .fma _ | .min _ | .max _ | .abs _ | .neg _ | .cmp _
  | .select _ | .relu _ | .clamp _ | .convert _ | .exp _ | .recip _ | .sqrt _ | .rsqrt _ | .sigmoid _ | .tanh _
  | .gelu _ | .silu _ | .rescale _ | .rowMax _ | .rowMin _ | .rowSum _ | .rowSumsq _ | .softmax _ | .layernorm _
  | .rmsnorm _ | .reduce _ | .copy _ | .poolMax _ | .forwardedOperator _ | .operatorRetire _ _ | .watchdogScan
  | .sbCapture _ | .schClrHw | .ctxCfgWrite _ _ _ | .lpddrTrain | .lpddrTrainDone _ | .memClrEcc | .memClrSpill
  | .dramTempReport _ _ | .scrubPassStart | .eccWriteback | .replayRequest _ _ _ _ _ | .pairTrain _ | .pairTrainDone
  | .pairTrainTimeout | .pairStop | .lnkClr | .counterAdd _ _ _ | .waitRegister _ | .shadowWrite _ | .hostAdd _ _ _
  | .counterSet _ _ | .endValueCommit _ _ | .counterCapture _ _ | .dumpStart _ | .dumpDone | .hostHuddleArrive _ _
  | .huddleNodeArrive _ | .hostEndCheck | .synClr | .streamStart _ | .streamStop _ | .streamAbort _ | .streamReload _
  | .streamClear _ | .ingClr | .ingClrHw | .sourceEnable _ _ _ | .sourceDisable _ _ _ | .frameStart _ _ _ _ _
  | .frameEnd _ _ _ | .frameDeliver _ | .frameGapTimeout _ | .txDescriptorSend _ | .txComplete _ _ _ | .canRecover _
  | .canBusOffRecovery _ | .timeStep _ _ | .offsetCommit _ _ | .tsiEdge _ _ _ | .tsiPop _ | .kickoffFire _
  | .triggerPulseEnd _ | .pairCapture | .pllEnable _ | .pllLock _ _ | .clkSrcSwitch _ | .pllLossOfLock _ | .cfgSave
  | .cfgSaveDone | .vibModeWrite _ | .vibSample _ _ _ | .biasCheck _ _ | .precisionDischargeEnd | .precisionSettleEnd
  | .precisionConversionEnd _ _ | .burnoutTrip _ | .blankEdge _ | .blankHoldoffEnd | .pulseEdge _ _
  | .pulseRateTimeout _ | .runDwellEnd _ | .switchDwellTick | .switchCommit _ _ | .switchAck _ | .swoOvercurrent _
  | .swoRetry _ | .calSessionOpen | .calImageRead _ _ _ _ | .logPeriodic | .logRecordWrite _ | .logSelect _
  | .logSearchDone | .checkpointTimer | .checkpointSelect | .checkpointSearchDone | .tilePowerOnReset _ _ _
  | .tileRailLoss | .sentinelRun _ | .burstDue | .excitationOn | .burstComplete | .featuresReady | .eventsReady
  | .eventCoreStep _ | .epochCommit | .nvsWriteDone _ | .scoreCompare | .resultPublish | .resultSelect _
  | .modelRecoveryDone | .commitModel | .endEpoch | .relearn | .lrnSaveCfg | .lrnClr | .synSelect _ | .synDataWrite _
  | .srcDataWrite _ | .confirmWrite _ | .confirmMinute | .confirmBall _ | .holdTimer | .dugoutTimer
  | .holdExitActivity | .pwrReqRun | .pwrReqDugout | .pwrReqDormant | .pgMainLow | .minOffExpiry | .pgMainHigh
  | .pgTimeout | .dormantEntryComplete | .wakeEdge _ | .wakeCan _ | .hwake _ | .rtcAlarm | .alarmArm _ | .rtcSet _ _
  | .dangerousFault _ | .overTemperature | .digestRecordReady | .peerRecordReceive _ _ _ _ _ _ | .matchTableScan
  | .goldenCheck | .bistSlice _ _ _ | .bistPeriodEnd | .diagnosticBistDone _ | .recoveryReady | .replayDone
  | .safModeWrite _ | .fullDieReset _ _ | .tstKeyWrite _ _ | .tstDigArm _ | .tstFault _ | .tstEccArm _ _
  | .riathRead _ _ _ _ _ | .riathWrite _ _ _ _ _ | .riathIdent _ _ _ _ _ | .riathFramingError _
  | .riathFrameTimeout _ | .riathResponse _ | .riStatClr _ | .pcieHotReset | .msixUnmask _ _ | .eventEnableWrite _ _
  | .timebaseCycle | .pairLinkDown | .ethernetLinkChange _ _ _ | .pcieConfigWrite _ _ _ _ => true

end Sys2Proof
end

