-- ==== Sys2Proof/Tests/Slice0.lean ====
section
/-! SUPPORT. The model's own tests: ill-formed operands are refused, small facts about single commands with results worked
out from the manual, and for every statement with hypotheses states and operands that meet them all. -/

set_option Elab.async false

namespace Sys2Proof.Tests

open Sys2Proof.Machine

/-! ### Helpers -/

/-- A state with registers set. -/
def put (s : State) (l : List (Nat × Word)) : State := l.foldl (fun t e => t.setReg e.1 e.2) s

/-- The device in RUN after an alignment without failures. -/
def upS : State := { (State.reset.setReg Reg.CLK_ALIGN_STATUS 3#32) with
  align := { inReset := false, line := false
             fifos := crossings.map fun c => (2 * c.1 + b2n c.2, { toDomain := .start, toFabric := .start }) }
  power := { state := .run, enables := true, pgMain := true, hiZ := false } }

/-- The next state of an outcome satisfies a test. -/
def next (o : Host.Outcome State Fault Refusal) (p : State → Bool) : Bool :=
  match o with
  | .next t => p t
  | _ => false

theorem mapped_of (s : State) (rs : List (Nat × Nat)) (h : (rs.all fun r => (s.rangeFault r.1 r.2).isNone) = true) :
    s.Mapped rs := by
  intro r hr
  simpa using List.all_eq_true.mp h r hr

theorem quiet_of (s : State) (h : (s.links.errors.isEmpty && !s.bit Reg.TST_ECC 31 && s.linksOpen) = true) : s.Quiet := by
  simp only [Bool.and_eq_true, List.isEmpty_iff, Bool.not_eq_true'] at h
  exact ⟨h.1.1, h.1.2, h.2⟩

/-! ### The smoke test: an ill-formed operand of each kind is refused -/

theorem test_wf_registerWrite_bar0_address : (Instr.registerWrite .bar0 0x4000 0xF 0).wf = false := by decide
theorem test_wf_registerWrite_riath_enables : (Instr.registerWrite .riath 0x0010 0x7 0).wf = false := by decide
theorem test_wf_registerWrite : (Instr.registerWrite .bar0 0x3FFF 0x1 0).wf = true := by decide
theorem test_wf_wideValueLowRead : (Instr.wideValueLowRead .bar0 0x4000).wf = false := by decide
theorem test_wf_wideValueHighWrite : (Instr.wideValueHighWrite .bar0 0xFFFF 0).wf = false := by decide
theorem test_wf_tableLoadComplete : (Instr.tableLoadComplete .sot [(2097152, .one)]).wf = false := by decide
theorem test_wf_rateMeasure_length : (Instr.rateMeasure [1000]).wf = false := by decide
theorem test_wf_rateMeasure_rate : (Instr.rateMeasure (2048 :: List.replicate 15 0)).wf = false := by decide
theorem test_wf_monitorEnable : (Instr.monitorEnable 0 0x7FFFFFFF).wf = false := by decide
theorem test_wf_qCmdReserved : (Instr.qCmdReserved 0 1).wf = false ∧ (Instr.qCmdReserved 0 4).wf = false := by decide
theorem test_wf_retirementReport : (Instr.retirementReport 0 0 281474976710656).wf = false := by decide
theorem test_wf_scrubRead_word : (Instr.scrubRead ⟨4, 0, 0, 0, 0⟩ 0 [(8, .two)]).wf = false := by decide
theorem test_wf_flitReceive :
    (Instr.flitReceive 0 false 0 true 0 false (some ⟨true, 0, 0, 0, 0, 0, 0, false⟩)).wf = false := by decide
theorem test_wf_streamCmdReserved : (Instr.streamCmdReserved 0 1).wf = false ∧ (Instr.streamCmdReserved 0 5).wf = false := by
  decide
theorem test_wf_longPacket :
    (Instr.longPacket 0 0 0x2A (List.replicate 65536 0) 0 false 0 false false).wf = false := by
  show decide ((List.replicate 65536 (0 : Byte)).length < 65536) = false
  rw [List.length_replicate]
  decide
theorem test_wf_ethernetFrameRx_short : (Instr.ethernetFrameRx 0 (List.replicate 13 0) true 0 0 false false).wf = false := by
  decide
theorem test_wf_ethernetFrameRx_long : (Instr.ethernetFrameRx 0 (List.replicate 9217 0) true 0 0 false false).wf = false := by
  show decide (14 ≤ (List.replicate 9217 (0 : Byte)).length ∧ (List.replicate 9217 (0 : Byte)).length ≤ 9216) = false
  rw [List.length_replicate]
  decide
theorem test_wf_canMessageRx_id :
    (Instr.canMessageRx 0 2048 false false false false false 0 [] 0 0 false false).wf = false := by decide
theorem test_wf_canMessageRx_brs :
    (Instr.canMessageRx 0 0 false false true false false 0 [] 0 0 false false).wf = false := by decide
theorem test_wf_canMessageRx_rtr :
    (Instr.canMessageRx 0 0 false true false true false 0 [] 0 0 false false).wf = false := by decide
theorem test_wf_canMessageRx_data :
    (Instr.canMessageRx 0 0 false true false false false 15 (List.replicate 65 0) 0 0 false false).wf = false := by decide
theorem test_wf_kickoffArm : (Instr.kickoffArm 0 0xFFFFFFFE).wf = false := by decide
theorem test_wf_kickoffDisarm : (Instr.kickoffDisarm 0 1).wf = false := by decide
theorem test_wf_riathReserved : (Instr.riathReserved 0 1 0 0 0 0).wf = false ∧ (Instr.riathReserved 0 3 0 0 0 0).wf = false := by
  decide
theorem test_wf_bar2Access_write : (Instr.bar2Access 0xFFFFFFF true [some 1, some 2] 0).wf = false := by decide
theorem test_wf_bar2Access_read : (Instr.bar2Access 0 false [] 0).wf = false := by decide
theorem test_wf_pcieLinkUp : (Instr.pcieLinkUp 0 1).wf = false ∧ (Instr.pcieLinkUp 5 1).wf = false ∧
    (Instr.pcieLinkUp 4 3).wf = false := by decide
theorem test_wf_canBusError : (Instr.canBusError 0 0 256).wf = false := by decide

/-- No word spells a command, and so the queue stays as it is. -/
theorem test_no_word_spells_a_command :
    decodeTableWord 32 0 = none ∧ (State.reset.withFetchWord 32 0xFFFFFFFF).pending = [] := by decide

/-! ### The arithmetic of the manual's worked examples -/

/-- R77: 2.5 rounds to 3, -2.5 to -3 and 2.25 to 2. -/
theorem test_rna : rna ⟨5, 2⟩ = 3 ∧ rna ⟨-5, 2⟩ = -3 ∧ rna ⟨9, 4⟩ = 2 := by decide

/-- The levels of Bell-16 from 0 up, by the worked example of R124, and their mirror below 0. -/
def bell16 : List Int := [-16384, -11593, -8883, -6829, -5094, -3539, -2086, -690, 690, 2086, 3539, 5094, 6829, 8883, 11593, 16384]

/-- The halfway inputs of R89 and the clip of R90. -/
theorem test_encode_weight_ties :
    encWeight bell16 ⟨0, 1⟩ = (0x8, false) ∧ encWeight bell16 ⟨1388, 16384⟩ = (0x9, false) ∧
    encWeight bell16 ⟨-1388, 16384⟩ = (0x6, false) ∧ encWeight bell16 ⟨5, 4⟩ = (0xF, true) := by decide +kernel

/-- The dynamic row of R98: FP16 -1.5, 0.25, 2.0 and 6.0. -/
theorem test_encode_dynamic_row :
    let e := encodeVals ([0xBE00, 0x3400, 0x4000, 0x4600].map (encInput .fp16)) none 255 16
    e.codes = [0x00, 0x3B, 0x77, 0xFF] ∧ e.entry 5 = 0x000500333CF0F0F1 ∧ e.err = 14 ∧ e.clips = 0 := by decide +kernel

/-- The constant rows of R101: 3.0, -0.5 and 0. -/
theorem test_encode_constant_rows :
    (encodeVals ([0x4200, 0x4200].map (encInput .fp16)) none 255 16).entry 0 = 0x000001003C40C0C1 ∧
    (encodeVals ([0xB800, 0xB800].map (encInput .fp16)) none 255 16).entry 1 = 0x000101FF3B008081 ∧
    (encodeVals ([0x0000, 0x8000].map (encInput .fp16)) none 255 16).entry 2 = 0x000201003F800000 := by decide +kernel

/-- The clip under a static scale of R103: 9.5, -8.03125, 0.03125 and -0.03125. -/
theorem test_encode_static_clip :
    let e := encodeVals ([0x48C0, 0xC804, 0x2800, 0xA800].map (encInput .fp16)) (some (0x3D800000, 128)) 255 16
    e.codes = [255, 0, 129, 127] ∧ e.err = 160192 ∧ e.clips = 2 := by decide +kernel

/-- Saturation and order (R111). -/
theorem test_accumulator_saturates :
    satAcc (satAcc (549755713888, false) 141848) (-141848) = (549755672039, true) ∧
    satAcc (satAcc (549755713888, false) (-141848)) 141848 = (549755713888, false) := by decide

/-- One W8A8 term (R122). -/
theorem test_w8_term : w8Product 0xFD 0x77 51 = -26112 := by decide +kernel

/-- The layer of R124: each lane's accumulator after its four tokens. -/
theorem test_w4a8_layer :
    rowTerms 0 bell16 51 4 [0x00, 0x3B, 0x77, 0xFF] [[0xF, 0x4], [0x8, 0xC], [0x6, 0x0], [0xB, 0x7]] [(0, false), (0, false)] =
      [(67264, false), (-940446, false)] := by decide +kernel

/-- The draws of R392. -/
theorem test_stochastic_rounding :
    sr 37 3 0xACE1 = (5, 0x59C3) ∧ sr 768 6 0x59C3 = (12, 0xB387) ∧ sr (-28) 3 0xB387 = (-4, 0x670F) ∧
    sr (-576) 6 0x670F = (-9, 0xCE1E) := by decide

/-! ### The machine at reset -/

theorem test_reset_is_dugout : State.reset.power.state = .dugout ∧ State.reset.mainUp = false ∧ State.reset.pending = [] := by
  decide
theorem test_reset_memory_is_canonical : Memory.wf State.reset.mem = true := by decide
/-- Every vector is masked (R519). -/
theorem test_reset_host_link_masks_vectors : State.reset.host.vecMask = 0xFFFFFFFF#32 := by decide
/-- A byte write is read back, and writing what an unlisted byte reads as removes the entry. -/
theorem test_memory_put :
    ((State.reset.putByte 0x40 0xA5).byte 0x40 = 0xA5#8) ∧ ((State.reset.putByte 0x40 0xA5).putByte 0x40 0).mem = [] := by decide

/-! ### Witnesses: the statements' hypotheses can be met -/

/-- The device in another power state. -/
def inState (x : PwrState) : State := { upS with power := { upS.power with state := x } }

theorem witness_EmptyQueueTicksTheCrystal :
    (upS.pending = [] ∧ upS.power.tileUp = true ∧ upS.power.rtcTick + 1 < tickHz ∧ upS.power.state.stable = true ∧ upS.recState ≠ 1 ∧
     upS.tap.pins = []) ∧
    (let s : State := { upS with power := { upS.power with rtcTick := tickHz - 1 } }
     s.pending = [] ∧ s.power.tileUp = true ∧ ¬ s.power.rtcTick + 1 < tickHz) ∧
    (let s : State := { upS with power := { upS.power with tileUp := false } }
     s.pending = [] ∧ s.power.tileUp = false) ∧
    ((inState .toHold).power.pending = none ∧ (inState .fromHold).hAnswers = true ∧ (inState .dormantToDugout).power.pending = none) ∧
    (let s := put upS [(Reg.SAF_REC_STATUS, 1#32)]; s.mainUp = true ∧ s.recState = 1 ∧ s.power.state.stable = true) ∧
    (let p : TapPins := { tms := false, tdi := false, trst := false }
     let s : State := { upS with tap := { pins := [p] } }
     s.tap.pins = [p] ∧ s.power.state.stable = true ∧ s.power.pgMain = true ∧ p.trst = false) := by decide +kernel

theorem witness_ResetStateOfTheDevice : Reg.CTL_ID ≠ Reg.CTL_RI_ADDR := by decide

/-- A state with a register and a byte stored. -/
def smallS : State := { State.reset with regs := [(0x10, 1#32)], mem := [(5, 1#8)] }

theorem witness_EveryStepKeepsInv : smallS.Inv := ⟨by decide, by decide⟩

/-- CTL_EVT_VEC is RW with no action of its own; CTL_ACC_ERR has W1C bits. -/
theorem witness_RegisterWriteActsUnderItsAccessCode_1 :
    upS.answers .bar0 (BitVec.ofNat 16 Reg.CTL_ACC_ERR).toNat = true ∧
    upS.regThere (Path.bar0 == .riath && isTileReg (BitVec.ofNat 16 Reg.CTL_ACC_ERR).toNat) .bar0
      (BitVec.ofNat 16 Reg.CTL_ACC_ERR).toNat = true ∧
    upS.regFrozen .bar0 (BitVec.ofNat 16 Reg.CTL_ACC_ERR).toNat = false ∧
    wideGroup (BitVec.ofNat 16 Reg.CTL_ACC_ERR).toNat = none ∧
    (writeReg? (BitVec.ofNat 16 Reg.CTL_ACC_ERR).toNat mainWrites).isNone = true ∧
    (regRow? (BitVec.ofNat 16 Reg.CTL_ACC_ERR).toNat).isSome = true := by decide +kernel

theorem witness_RegisterWriteActsUnderItsAccessCode_tile :
    upS.answers .riath (BitVec.ofNat 16 Reg.PWR_CFG).toNat = true ∧
    upS.regThere (Path.riath == .riath && isTileReg (BitVec.ofNat 16 Reg.PWR_CFG).toNat) .riath
      (BitVec.ofNat 16 Reg.PWR_CFG).toNat = true ∧
    upS.regFrozen .riath (BitVec.ofNat 16 Reg.PWR_CFG).toNat = false ∧
    wideGroup (BitVec.ofNat 16 Reg.PWR_CFG).toNat = none ∧
    (writeReg? (BitVec.ofNat 16 Reg.PWR_CFG).toNat tileWrites).isNone = true ∧
    (regRow? (BitVec.ofNat 16 Reg.PWR_CFG).toNat).isSome = true := by decide +kernel

theorem witness_RegisterWriteActsUnderItsAccessCode_2 :
    upS.answers .bar0 (0xFFFF#16).toNat = true ∧ (0x7#4 : BitVec 4) ≠ 0xF#4 := by decide +kernel

theorem witness_RefusedAccessIsRecordedOnce :
    upS.answers .bar0 (0x3FFF#16).toNat = true ∧ upS.regThere false .bar0 (0x3FFF#16).toNat = false ∧
    upS.fld Reg.CTL_ACC_ERR 2 0 = 0 ∧
    (put upS [(Reg.CTL_ACC_ERR, 1#32)]).answers .bar0 (0x3FFF#16).toNat = true ∧
    (put upS [(Reg.CTL_ACC_ERR, 1#32)]).regThere false .bar0 (0x3FFF#16).toNat = false ∧
    (put upS [(Reg.CTL_ACC_ERR, 1#32)]).fld Reg.CTL_ACC_ERR 2 0 ≠ 0 := by decide +kernel

theorem witness_WideValuesLatchAndCommit :
    upS.answers .bar0 (BitVec.ofNat 16 Reg.TIM_NOW0).toNat = true ∧
    upS.regThere (Path.bar0 == .riath && isTileReg (BitVec.ofNat 16 Reg.TIM_NOW0).toNat) .bar0 (BitVec.ofNat 16 Reg.TIM_NOW0).toNat = true ∧
    wideOf (BitVec.ofNat 16 Reg.TIM_NOW0).toNat = some (Reg.TIM_NOW0, 4, 0) ∧ upS.hAnswers = true := by decide +kernel

/-- The device with a staged table of one entry at 4 KiB. -/
def rootS : State := put upS [(Reg.CTL_SDT_BASE, 0x1000#32), (Reg.CTL_SDT_COUNT, 1#32)]

theorem witness_RootCommitsAcceptOrReject_1 :
    rootS.hAnswers = true ∧ rootS.rootInUse .sdt = false ∧ (rootS.root .sdt).loading = false ∧ (rootS.rootStaged .sdt).1 % 4096 = 0 ∧
    rootPlaced .sdt (rootS.rootStaged .sdt).1 (rootS.rootStaged .sdt).2 = true ∧ (rootS.rootStaged .sdt).2 ≤ rootMax .sdt := by
  decide +kernel

theorem witness_RootCommitsAcceptOrReject_2 :
    (let s := rootS; s.hAnswers = true ∧ s.rootInUse .sdt = false ∧ (s.root .sdt).loading = false) ∧
    (let s : State := put rootS [(Reg.CTL_SDT_BASE, 0x1001#32)]
     s.hAnswers = true ∧ s.rootInUse .sdt = false ∧ (s.root .sdt).loading = false ∧ (s.rootStaged .sdt).1 % 4096 ≠ 0) ∧
    (let s : State := { rootS with roots := { sdt := { loading := true } } }
     s.hAnswers = true ∧ s.rootInUse .sdt = false ∧ (s.root .sdt).loading = true) ∧
    (let s : State := { rootS with sched := { ctxs := [(0, { mode := .ready })] } }
     s.hAnswers = true ∧ s.rootInUse .qdt = true) := by decide +kernel

theorem witness_TableLoadEndsValid :
    let s : State := { upS with roots := { qdt := { count := 1, loading := true } } }
    (Root.qdt ≠ .sot ∧ s.mainUp = true ∧ (s.root .qdt).loading = true ∧ s.links.errors = []) := by decide +kernel

theorem witness_MainDieResetsByKind :
    Regs.wf upS.regs = true ∧ upS.power.pgMain = true ∧ upS.runOrHold = true ∧ (inState .toRun).power.state = .toRun ∧
    (inState .toRun).runOrHold = false ∧ isTileReg Reg.CTL_ACC_ERR = false ∧ isRws Reg.CTL_ACC_ERR = false ∧
    (let s := put upS [(Reg.CLK_ALIGN_FAIL, 1#32)]; Regs.wf s.regs = true) ∧ State.reset.power.pgMain = false ∧
    State.reset.runOrHold = false ∧ State.reset.power.state ≠ .toRun := by decide +kernel

theorem witness_ReleaseOfHDieReset :
    let s : State := { State.reset with
      align := { inReset := true, line := false }, power := { state := .toRun, enables := true, pgMain := true } }
    (s.align.inReset = true ∧ s.align.line = false ∧ s.power.pgMain = true ∧ s.power.enables = true) := by decide

theorem witness_AlignmentMarkers_1 :
    let s : State := { upS with align := { inReset := false, line := false, waiting := crossings } }
    (s.align.waiting.contains ((24 : Fin 25).val, true) = true ∨ s.align.waiting.contains ((24 : Fin 25).val, false) = true) ∧
    s.align.waiting.contains ((0 : Fin 25).val, false) = true := by decide +kernel

theorem witness_AlignmentMarkers_2 :
    let s := put upS [(Reg.CLK_ALIGN_STATUS, 0#32)]
    (s.mainUp = true ∧ s.bit Reg.CLK_ALIGN_STATUS 0 = false ∧ s.align.waiting = [] ∧ s.power.state = .run ∧
     (let t : State := { s with power := { s.power with state := .hold } }
      t.runOrHold = true ∧ t.power.state ≠ .run ∧ t.power.pending = none)) := by decide +kernel

theorem witness_AdaptiveVoltageLoop :
    upS.mainUp = true ∧ upS.domHeld 18 = false ∧ ({ upS with align := { upS.align with held := [18] } } : State).domHeld 18 = true ∧
    (List.replicate 16 2047).length = 16 ∧ (∀ r ∈ List.replicate 16 2047, r < 2048) ∧
    (let s : State := { upS with avs := { bus := some (1023, 3) } }
     s.mainUp = true ∧ s.domHeld 18 = false ∧ s.avs.bus = some (1023, 3) ∧ 1023 < 1024) ∧
    (let s := put upS [(Reg.PWR_AVS_MON_DL 7, 1#32)]
     s.hAnswers = true ∧ s.fld (Reg.PWR_AVS_MON_DL (7 : Fin 8)) 19 0 ≠ 0) := by decide +kernel

/-- A number from its fields: (lowest bit, value). -/
def pk (l : List (Nat × Nat)) : Nat := l.foldl (fun n e => n + e.2 * 2 ^ e.1) 0

/-- Two rows of two A8 codes with dynamic scales; a W4 tensor of two channels in and two out; two rows of two FP16. -/
def tAct : Nat := pk [(0, 0x1000), (68, 2), (80, 2), (104, 2), (128, 1), (152, 1), (176, 8), (272, 0x1800)]
def tWgt : Nat := pk [(0, 0x2000), (64, 2), (68, 3), (72, 3), (80, 128), (104, 2), (128, 2), (176, 64), (208, 128), (272, 0x2800)]
def tOut : Nat := pk [(0, 0x3000), (64, 4), (68, 2), (72, 3), (80, 2), (104, 2), (128, 1), (152, 1), (176, 8)]

/-- A LINEAR entry for core 0 with the given split of the input channels. -/
def linBits (split : Nat) : Nat := pk [(0, 1), (32, 1), (48, 1), (320, split)]

/-- A QDT entry for core 0: ring of 16 at 0x4000, submit counter 5, no slot counter. -/
def qEnt : Nat := pk [(0, 1), (24, 3), (32, 4), (64, 0x4000), (128, 5), (144, 0xFFFF)]

def linOp (split : Nat) : Op :=
  { queue := 0, entry := 0, lead := 0, code := cLINEAR, bits := linBits split, in0 := tAct, in1 := tWgt, out := tOut
    codebook := (List.range 16).map Int.ofNat, parts := [{ core := 0, phase := .admitted 0 }], executed := true }

/-- The scale entry of row 0: 1.0, zero point 0, sequence 0. -/
def scaleMem : List Host.Cell := [(0x1802, 0x80#8), (0x1803, 0x3F#8)]

/-- Queue 0 runs on core 0 with one operator in flight. -/
def opS (o : Op) (mem : List Host.Cell) (eng : Engine) : State :=
  { upS with
    mem := mem
    roots := { qdt := { count := 1, entries := [qEnt] }, sot := {}, tdt := { count := 8, base := 0x8000 } }
    sched := { ctxs := [(0, { mode := .ready, lead := true, checked := true })], ops := [o]
               sb := [(0, { valid := true, state := 3 })] }
    engines := { eng := if eng = {} then [] else [(0, eng)] } }

def halfS : WeightHalf := { owner := some (0, 0), rows := [List.replicate 128 1, List.replicate 128 2] }

theorem witness_EngineWorksARow_WEIGHT_LOAD :
    let s := opS (linOp 1) [] {}
    let o := linOp 1
    s.engRuns (0 : Fin 1024) = true ∧ s.Quiet ∧ s.loadOp? (0 : Fin 1024) false = some o ∧ o.rel? (0 : Fin 1024) = some 0 ∧
    o.tile? (o.passNow 0) 0 = some 0 ∧ eHalf o.bits ≠ 2 ∧ ((s.eng (0 : Fin 1024)).half false).owner = none ∧
    o.passOpen (o.passNow 0) = true ∧
    s.Mapped ((List.range (o.sliceOf (0 % o.split)).2).map fun i =>
      (dBase o.in1 + 0 * dStride2 o.in1 + ((o.sliceOf (0 % o.split)).1 + i) * dStride1 o.in1, dRowBytes o.in1)) :=
  ⟨by decide +kernel, quiet_of _ (by decide +kernel), by decide +kernel, by decide +kernel, by decide +kernel, by decide +kernel,
    by decide +kernel, by decide +kernel, mapped_of _ _ (by decide +kernel)⟩

/-- The rows of tAct and their entries are mapped. -/
theorem tAct_mapped (mem : List Host.Cell) (h : mem = scaleMem ∨ mem = []) (e : Fin 1024) :
    let s := opS (linOp 1) mem { half0 := halfS }
    ∀ h' q i o' er' r', ((s.eng e).half h').owner = some (q, i) → s.op? q i = some o' → o'.rel? e = some er' → r' < o'.rows →
      s.Mapped ((dScaleAddr o'.in0 r', 8) :: o'.actRanges r' (o'.sliceOf (er' % o'.split)).1 (o'.sliceOf (er' % o'.split)).2) := by
  intro s h' q i o' er' r' _ ho _ hr
  have e1 : o' = linOp 1 := by
    have : s.op? q i = (if q = 0 ∧ i = 0 then some (linOp 1) else none) := by
      rcases h with rfl | rfl <;> simp [s, State.op?, opS, linOp] <;>
        by_cases h1 : q = 0 <;> by_cases h2 : i = 0 <;> simp [h1, h2, eq_comm]
    rw [this] at ho
    split at ho
    · exact (Option.some.inj ho).symm
    · cases ho
  subst e1
  have e2 : (linOp 1).rows = 2 := by decide +kernel
  have e3 : er' % (linOp 1).split = 0 := by
    have : (linOp 1).split = 1 := by decide +kernel
    rw [this]; omega
  rw [e3]
  rw [e2] at hr
  rcases h with rfl | rfl <;> rcases r' with _ | _ | r' <;> try omega
  all_goals exact mapped_of _ _ (by decide +kernel)

theorem witness_EngineWorksARow_ENGINE_ROW_START (mem : List Host.Cell) (h : mem = scaleMem ∨ mem = []) :
    let s := opS (linOp 1) mem { half0 := halfS }
    let v := s.filled (0 : Fin 1024)
    let o := linOp 1
    s.engRuns (0 : Fin 1024) = true ∧ s.Quiet ∧ (s.eng (0 : Fin 1024)).run = none ∧ v.nextRow? (0 : Fin 1024) = some (false, o) ∧
    o.rel? (0 : Fin 1024) = some 0 ∧ o.tile? ((v.eng (0 : Fin 1024)).half false).pass 0 = some 0 ∧
    s.Mapped (if o.hasAcc && o.split == 1 then [(dRowAddr o.acc ((v.eng (0 : Fin 1024)).half false).nextRow + 1024 * 0, 8 * o.lanes 0)] else []) := by
  rcases h with rfl | rfl <;>
    exact ⟨by decide +kernel, quiet_of _ (by decide +kernel), by decide +kernel, by decide +kernel, by decide +kernel,
      by decide +kernel, mapped_of _ _ (by decide +kernel)⟩

theorem witness_EngineWorksARow_ENGINE_ROW_START_entries :
    entryFault tAct (((opS (linOp 1) scaleMem { half0 := halfS }).filled 0).eng 0).half0.entry 0 = 0 ∧
    entryFault tAct (((opS (linOp 1) [] { half0 := halfS }).filled 0).eng 0).half0.entry 0 ≠ 0 ∧
    (opS (linOp 1) [] { half0 := halfS }).bound (linOp 1).queue = true := by decide +kernel

/-- The engine in the middle of, and at the end of, a row. -/
def rowE (row k : Nat) : Engine :=
  { half0 := { halfS with nextRow := row, buf := [{ row := row, codes := [7, 9], word := 0, words := 1, entry := some 0 }] }
    accs := [(0, false), (0, false)]
    run := some { half := false, row := row, zp := 0, scale := 0x3F800000, k := k } }

def rowR (row k : Nat) : RowRun := { half := false, row := row, zp := 0, scale := 0x3F800000, k := k }

theorem witness_EngineWorksARow_TABLE_BUILD :
    let s := opS (linOp 1) scaleMem (rowE 0 1)
    s.engRuns (0 : Fin 1024) = true ∧ s.Quiet ∧ s.runOp? (0 : Fin 1024) = some (rowR 0 1, linOp 1) ∧
    (rowR 0 1).k < ((s.eng (0 : Fin 1024)).codes (rowR 0 1)).length ∧ (linOp 1).mode ≠ 2 :=
  ⟨by decide +kernel, quiet_of _ (by decide +kernel), by decide +kernel, by decide +kernel, by decide +kernel⟩

/-- W8A8 in its first and last pass. -/
theorem witness_EngineWorksARow_TABLE_BUILD_W8 (n : Nat) (h : n = 0 ∨ n = 3) :
    let o : Op := { linOp 1 with bits := linBits 1 + 2 * 2 ^ 70 }
    let s := opS o scaleMem { rowE 0 1 with run := some { rowR 0 1 with pass := n } }
    s.engRuns (0 : Fin 1024) = true ∧ s.Quiet ∧ s.runOp? (0 : Fin 1024) = some ({ rowR 0 1 with pass := n }, o) ∧
    ({ rowR 0 1 with pass := n } : RowRun).k < ((s.eng (0 : Fin 1024)).codes { rowR 0 1 with pass := n }).length ∧ o.mode = 2 := by
  rcases h with rfl | rfl <;>
    exact ⟨by decide +kernel, quiet_of _ (by decide +kernel), by decide +kernel, by decide +kernel, by decide +kernel⟩

theorem witness_EngineWorksARow_ENGINE_ROW_END :
    (let s := opS (linOp 1) scaleMem (rowE 0 2)
     s.engRuns (0 : Fin 1024) = true ∧ (s.eng (0 : Fin 1024)).latch = none ∧ s.runOp? (0 : Fin 1024) = some (rowR 0 2, linOp 1) ∧
     (linOp 1).rel? (0 : Fin 1024) = some 0 ∧ ((s.eng (0 : Fin 1024)).codes (rowR 0 2)).length ≤ (rowR 0 2).k ∧
     s.checkOf? (0 : Fin 1024) (rowR 0 2) (linOp 1) ((s.eng (0 : Fin 1024)).half false).pass = none ∧ 0 + 1 < (linOp 1).rows) ∧
    (let s := opS (linOp 1) scaleMem (rowE 1 2)
     s.engRuns (0 : Fin 1024) = true ∧ (s.eng (0 : Fin 1024)).latch = none ∧ s.runOp? (0 : Fin 1024) = some (rowR 1 2, linOp 1) ∧
     (linOp 1).rel? (0 : Fin 1024) = some 0 ∧ ((s.eng (0 : Fin 1024)).codes (rowR 1 2)).length ≤ (rowR 1 2).k ∧
     s.checkOf? (0 : Fin 1024) (rowR 1 2) (linOp 1) ((s.eng (0 : Fin 1024)).half false).pass = none ∧ (linOp 1).rows ≤ 1 + 1) := by
  decide +kernel

def latchS : Latched := { owner := (0, 0), pass := 0, row := 0, scale := 0x3F800000, accs := [(16384, false), (32768, false)] }

theorem witness_FinishedRowsReachMemory_split :
    let s := opS (linOp 2) [] { latch := some latchS }
    s.engRuns (0 : Fin 1024) = true ∧ (s.eng (0 : Fin 1024)).latch = some latchS ∧ s.op? latchS.owner.1 latchS.owner.2 = some (linOp 2) ∧
    (linOp 2).part? ((0 : Fin 1024).val / 16) = some { core := 0, phase := .admitted 0 } ∧
    (linOp 2).rel? (0 : Fin 1024) = some 0 ∧ (linOp 2).tile? latchS.pass 0 = some 0 ∧ (linOp 2).split ≠ 1 ∧
    s.routeOpen (coreNode ((0 : Fin 1024).val / 16)) (coreNode ((linOp 2).writer 0)) = true := by decide +kernel

theorem witness_FinishedRowsReachMemory_drain :
    let s := opS (linOp 1) [] { latch := some latchS }
    let o := linOp 1
    let a := dRowAddr o.out latchS.row + runBytes (dFmt o.out) (128 * 0)
    s.engRuns (0 : Fin 1024) = true ∧ s.Quiet ∧ (s.eng (0 : Fin 1024)).latch = some latchS ∧ s.op? latchS.owner.1 latchS.owner.2 = some o ∧
    o.rel? (0 : Fin 1024) = some 0 ∧ o.tile? latchS.pass 0 = some 0 ∧ o.split = 1 ∧ isFloat o.out = true ∧
    s.Mapped [(a, runBytes (dFmt o.out) latchS.accs.length)] :=
  ⟨by decide +kernel, quiet_of _ (by decide +kernel), by decide +kernel, by decide +kernel, by decide +kernel, by decide +kernel,
    by decide +kernel, by decide +kernel, mapped_of _ _ (by decide +kernel)⟩

def partS : Partial := { owner := (0, 0), tile := 0, row := 0, rel := 0, eng := 0, scale := 0x3F800000, accs := [(1, false), (2, true)] }
def part1S : Partial := { partS with rel := 1, eng := 1 }

theorem witness_FinishedRowsReachMemory_combine :
    let s : State := { opS (linOp 2) [] {} with engines := { partials := [partS] } }
    let o := linOp 2
    s.mainUp = true ∧ s.Quiet ∧ s.nextPartial? (0 : Fin 64) = some (partS, o) ∧
    ((s.combOf partS).getD { owner := (0, 0), tile := 0, row := 0, next := 0, scale := 0x3F800000
                             lanes := s.combStart o 0 0 }).next + 1 ≠ o.split ∧
    s.Mapped (if (s.combOf partS).isNone && o.hasAcc then [(dRowAddr o.acc partS.row + 1024 * partS.tile, 8 * o.lanes partS.tile)] else []) :=
  ⟨by decide +kernel, quiet_of _ (by decide +kernel), by decide +kernel, by decide +kernel, mapped_of _ _ (by decide +kernel)⟩

theorem witness_FinishedRowsReachMemory_combine_last :
    let c : Combine := { owner := (0, 0), tile := 0, row := 0, next := 1, scale := 0x3F800000, lanes := [{ acc := (1, false) }, { acc := (2, true) }] }
    let s : State := { opS (linOp 2) [] {} with engines := { partials := [part1S], combines := [c] } }
    let o := linOp 2
    s.mainUp = true ∧ s.Quiet ∧ s.nextPartial? (0 : Fin 64) = some (part1S, o) ∧ s.combOf part1S = some c ∧ c.next + 1 = o.split ∧
    isFloat o.out = true ∧
    s.Mapped [(dRowAddr o.out part1S.row + runBytes (dFmt o.out) (128 * part1S.tile), runBytes (dFmt o.out) (combAdd 1 c.lanes part1S.accs).length)] :=
  ⟨by decide +kernel, quiet_of _ (by decide +kernel), by decide +kernel, by decide +kernel, by decide +kernel, by decide +kernel,
    mapped_of _ _ (by decide +kernel)⟩

/-- ENCODE_ROW from one FP16 row of two elements into A8 codes with dynamic scale, with and without statistics. -/
def tFp : Nat := pk [(0, 0x5000), (64, 4), (68, 2), (72, 3), (80, 2), (104, 1), (128, 1), (152, 1), (176, 8)]
def tEnc : Nat := pk [(0, 0x6000), (68, 2), (80, 2), (104, 1), (128, 1), (152, 1), (176, 8), (272, 0x6800)]

def encOp (stats : Nat) : Op :=
  { queue := 0, entry := 0, lead := 0, code := cENCODE_ROW, bits := pk [(0, 1), (32, 1), (48, 0x10), (69, stats), (70, 3), (72, 3)], in0 := tFp, out := tEnc
    parts := [{ core := 0, phase := .admitted 0 }], executed := true }

theorem witness_FinishedRowsReachMemory_ROW_ENCODE (st : Nat) (h : st = 0 ∨ st = 1) :
    let s := opS (encOp st) [(0x5001, 0x3C#8)] {}
    let o := encOp st
    let p : OpPart := { core := 0, phase := .admitted 0 }
    let e := encodeVals ((s.rowFloats o.in0 0).map (encInput (dFp o.in0))) none (qmaxOf (dFmt o.out)) (s.fexp o.bits)
    s.mainUp = true ∧ s.Quiet ∧ s.unitTurn? (0 : Fin 64) .rr = some (o, p) ∧ s.op? o.queue o.entry = some o ∧ o.code = cENCODE_ROW ∧
    0 = o.nextRow p ∧ dSsrc o.out = 0 ∧
    (packCodes (dFmt o.out) e.codes).length = dRowBytes o.out ∧
    Apart (dRowAddr o.out 0, packCodes (dFmt o.out) e.codes) (dScaleAddr o.out 0, toBytes 8 (e.entry 0)) ∧
    s.Mapped [(dRowAddr o.in0 0, dRowBytes o.in0), (dRowAddr o.out 0, dRowBytes o.out), (dScaleAddr o.out 0, 8)] := by
  rcases h with rfl | rfl <;>
    exact ⟨by decide +kernel, quiet_of _ (by decide +kernel), by decide +kernel, by decide +kernel, by decide +kernel,
      by decide +kernel, by decide +kernel, by decide +kernel, Or.inl (by decide +kernel), mapped_of _ _ (by decide +kernel)⟩

theorem witness_StatisticsCommands :
    upS.hAnswers = true ∧ wfld 0x3F#32 5 0 ≠ upS.fld (Reg.QNT_CFG (31 : Fin 32)) 5 0 ∧ wfld 0x50#32 5 0 = upS.fld (Reg.QNT_CFG (31 : Fin 32)) 5 0 := by
  decide +kernel

/-- An ADD of two FP16 rows into an FP16 row, descriptors in the TDT at 0x8000. -/
def tA : Nat := pk [(0, 0x5000), (64, 4), (68, 2), (72, 3), (80, 2), (104, 1), (128, 1), (152, 1), (176, 8), (208, 8), (240, 8)]
def tB : Nat := pk [(0, 0x5100), (64, 4), (68, 2), (72, 3), (80, 2), (104, 1), (128, 1), (152, 1), (176, 8), (208, 8), (240, 8)]
def tC : Nat := pk [(0, 0x5200), (64, 4), (68, 2), (72, 3), (80, 2), (104, 1), (128, 1), (152, 1), (176, 8), (208, 8), (240, 8)]
def addBits : Nat :=
  pk [(0, 1), (8, 1), (32, 1), (48, 0x20), (70, 3), (72, 3), (159, 1), (160, 1), (191, 1), (224, 2), (255, 1)]

/-- The bytes of 64-byte entries as memory cells. -/
def cells (a : Nat) (l : List Nat) : List Host.Cell :=
  ((l.flatMap (toBytes 64)).mapIdx fun i b => (a + i, b)).filter fun e => e.2 != 0#8

/-- Context 0 is ISSUING with an ADD whose predecessor is in flight. -/
def addS : State :=
  let s := opS (encOp 0) (cells 0x8000 [tA, tB, tC]) {}
  { s with sched := { s.sched with
      ctxs := [(0, { mode := .issuing, lead := true, checked := true, pos := 1, phase := .holding, entry := addBits, hist := [true] })] } }

theorem witness_OperatorAdmission :
    let s := addS
    let x : Opds := { in0 := tA, in1 := tB, in2 := 0, out := tC, acc := 0 }
    let o := s.newOp (0 : Fin 256) x
    s.leadIssuing (0 : Fin 256) = true ∧ eOp (s.ctx (0 : Fin 256)).entry = cADD ∧
    s.verdict (s.ctx (0 : Fin 256)).entry (qGroup (s.qdt (s.ctx (0 : Fin 256)).queue)) (s.ctx (0 : Fin 256)).hist = .ok x ∧
    0 ∈ groupCores (eGroup (s.ctx (0 : Fin 256)).entry) ∧ s.sbRoom (0 : Fin 256) = true ∧
    (s.digQueue (s.ctx (0 : Fin 256)).queue && s.digHold) = false ∧ qSlot (s.qdt (s.ctx (0 : Fin 256)).queue) = 0xFFFF ∧
    s.op? o.queue o.entry = none ∧ s.unblocked o = false := by decide +kernel

/-- Operators of context 0 that wait to be issued. -/
def waitOp (o : Op) : State :=
  let s := opS { o with executed := false } [(0x2800, 1#8)] {}
  { s with sched := { s.sched with sb := [(0, { valid := true, state := 1 })] } }

def addOp : Op :=
  { queue := 0, entry := 0, lead := 0, code := cADD, bits := addBits, in0 := tA, in1 := tB, out := tC
    parts := [{ core := 0, phase := .admitted 0 }] }

theorem witness_OperatorsWriteTheirResults :
    let s := waitOp addOp
    let o := addOp
    let p : OpPart := { core := 0, phase := .admitted 0 }
    let ws := s.blockWrites o 0 0
    s.mainUp = true ∧ s.Quiet ∧ (s.leadIssuing (0 : Fin 256) && eOp (s.ctx (0 : Fin 256)).entry == cADD) = false ∧
    s.dueOp? (0 : Fin 256) cADD = some (o, p) ∧ s.op? o.queue o.entry = some o ∧ 0 = o.nextRow p ∧
    s.Mapped (o.blockReads 0 p.block) ∧ s.Mapped (ws.map fun w => (w.1, w.2.length)) ∧ ws.length = 1 :=
  ⟨by decide +kernel, quiet_of _ (by decide +kernel), by decide +kernel, by decide +kernel, by decide +kernel, by decide +kernel,
    mapped_of _ _ (by decide +kernel), mapped_of _ _ (by decide +kernel), by decide +kernel⟩

/-- A codebook of the 16 levels -7 to 8. -/
def cbMem : List Host.Cell :=
  ((List.range 16).flatMap fun i => toBytes 2 (uns 16 (Int.ofNat i - 7))).mapIdx (fun i b => (0x2800 + i, b)) |>.filter fun e => e.2 != 0#8

theorem witness_OperatorsIssuedToTheEngines_1 (mem : List Host.Cell) (h : mem = cbMem ∨ mem = []) :
    let o : Op := { linOp 1 with executed := false }
    let s : State := { waitOp (linOp 1) with mem := mem }
    s.mainUp = true ∧ s.Quiet ∧ (s.leadIssuing (0 : Fin 256) && eOp (s.ctx (0 : Fin 256)).entry == cLINEAR) = false ∧
    s.waitingOp? (0 : Fin 256) cLINEAR = some o ∧ dFmt o.in1 = fW4 ∧ isCodes o.out = false ∧ s.Mapped [(dAux0 o.in1, 32)] ∧
    s.bound o.queue = true := by
  rcases h with rfl | rfl <;>
    exact ⟨by decide +kernel, quiet_of _ (by decide +kernel), by decide +kernel, by decide +kernel, by decide +kernel,
      by decide +kernel, mapped_of _ _ (by decide +kernel), by decide +kernel⟩

/-- A code output with a broadcast scale, whose entry is zero: it is faulty. -/
theorem witness_OperatorsIssuedToTheEngines_entry :
    let o : Op := { linOp 1 with executed := false, out := tEnc + 2 * 2 ^ 72 }
    let s : State := { waitOp o with mem := cbMem }
    s.mainUp = true ∧ s.Quiet ∧ (s.leadIssuing (0 : Fin 256) && eOp (s.ctx (0 : Fin 256)).entry == cLINEAR) = false ∧
    s.waitingOp? (0 : Fin 256) cLINEAR = some o ∧ dFmt o.in1 = fW4 ∧ isCodes o.out = true ∧ dSsrc o.out = 2 ∧
    s.Mapped [(dAux0 o.in1, 32), (dAux0 o.out, 8)] ∧ entFaulty (s.readNat (dAux0 o.out) 8) (qmaxOf (dFmt o.out)) = true ∧
    s.bound o.queue = true ∧ s.bit Reg.ENG_FAULT_STATUS 0 = false :=
  ⟨by decide +kernel, quiet_of _ (by decide +kernel), by decide +kernel, by decide +kernel, by decide +kernel, by decide +kernel,
    by decide +kernel, mapped_of _ _ (by decide +kernel), by decide +kernel, by decide +kernel, by decide +kernel⟩

theorem witness_OperatorsIssuedToTheEngines_codebooks :
    increasing (codebookOf (({ waitOp (linOp 1) with mem := cbMem } : State).readNat (dAux0 tWgt) 32)) = true ∧
    increasing (codebookOf (({ waitOp (linOp 1) with mem := [] } : State).readNat (dAux0 tWgt) 32)) = false := by decide +kernel

theorem witness_OperatorsIssuedToTheEngines_ENCODE_ROW :
    let o : Op := { encOp 0 with executed := false }
    let s := waitOp (encOp 0)
    s.mainUp = true ∧ (s.leadIssuing (0 : Fin 256) && eOp (s.ctx (0 : Fin 256)).entry == cENCODE_ROW) = false ∧
    s.waitingOp? (0 : Fin 256) cENCODE_ROW = some o := by decide +kernel

/-- Outputs apart from their inputs, and one in place of its input (R271). -/
theorem witness_overlaps :
    addOp.overlaps = false ∧ (linOp 1).overlaps = false ∧ (encOp 0).overlaps = false ∧ (encOp 1).overlaps = false ∧
    ({ addOp with out := tA } : Op).overlaps = true := by decide +kernel

/-- Queue 0 of core 0, tables valid, contexts and operators as given. -/
def qS (ctxs : SMap Ctx) (ops : List Op) : State :=
  { put upS [(Reg.CTL_ROOT_STATUS, 0xF#32)] with
    roots := { qdt := { count := 1, entries := [qEnt] }, tdt := { count := 8, base := 0x8000 } }
    sched := { ctxs := ctxs, ops := ops } }

def leadC (m : CtxMode) : Ctx := { mode := m, lead := true }

theorem witness_QueueCommands_accepted :
    (qS [] []).hAnswers = true ∧ (qS [] []).qCauses 0 1 = [] ∧
    (let s := qS [(0, leadC .ready)] []
     s.qCauses 0 2 = [] ∧ s.opsOf 0 = [] ∧ (s.ctx (qLead (s.qdt 0))).mode ≠ .issuing) ∧
    (let s := qS [(0, leadC .ready)] [linOp 1]
     s.qCauses 0 2 = [] ∧ s.opsOf 0 ≠ []) ∧
    (qS [(0, leadC .halted)] []).qCauses 0 3 = [] ∧ (qS [(0, leadC .halted)] []).qCauses 0 4 = [] := by decide +kernel

theorem witness_QueueCommands_followers :
    let s : State := { qS [] [] with roots := { qdt := { count := 1, entries := [qEnt + 1] } } }
    s.qCauses 0 1 = [] ∧ 4 ∈ qCtxs (s.qdt 0) ∧ 4 ≠ qLead (s.qdt 0) := by decide +kernel

theorem witness_QueueCommands_refused :
    upS.hAnswers = true ∧ (upS.qCauses 255 1).head? = some 1 ∧ (upS.qCauses 255 2).head? = some 1 ∧
    ¬(1 ≤ (7#3).toNat ∧ (7#3).toNat ≤ 4) ∧ ¬(1 ≤ (0#3).toNat ∧ (0#3).toNat ≤ 4) := by decide +kernel

/-- The lead holds an entry. -/
def holdC (e : Nat) : Ctx := { mode := .ready, lead := true, checked := true, phase := .holding, entry := e, pos := 3, hist := [true] }

theorem witness_GrantFetchAndForward_ISSUE_GRANT :
    let s := qS [(0, holdC addBits)] []
    s.mainUp = true ∧ (∀ c < 4, (s.ctx (4 * (0 : Fin 64).val + c)).mode ≠ .issuing) ∧ s.grantee? (0 : Fin 64) = some 0 ∧
    (s.ctx 0).lead = true := by decide +kernel

theorem witness_GrantFetchAndForward_ENTRY_FETCH (c : SMap Counter) (h : c = [] ∨ c = [(5, { v := 1 })]) :
    let s : State := { qS [(0, leadC .ready)] [] with sync := { ctrs := c } }
    s.leadFree (0 : Fin 256) .needFetch = true ∧ s.Quiet ∧ qdtOk (s.qdt (s.ctx (0 : Fin 256)).queue) = true ∧
    s.Mapped [(ringAddr (s.qdt (s.ctx (0 : Fin 256)).queue) (s.ctx (0 : Fin 256)).pos, 64)] := by
  rcases h with rfl | rfl <;>
    exact ⟨by decide +kernel, quiet_of _ (by decide +kernel), by decide +kernel, mapped_of _ _ (by decide +kernel)⟩

theorem witness_GrantFetchAndForward_ENTRY_FETCH_values :
    (({ qS [(0, leadC .ready)] [] with sync := { ctrs := [] } } : State).ctr (qSubmit qEnt)).v < 0 + 1 ∧
    0 + 1 ≤ (({ qS [(0, leadC .ready)] [] with sync := { ctrs := [(5, { v := 1 })] } } : State).ctr (qSubmit qEnt)).v := by decide +kernel

/-- An entry is fetched ahead of the one held, or none: the buffer is full, or no more is submitted. -/
theorem witness_GrantFetchAndForward_ahead (a : List Nat) (v : Nat) (h : (a, v) ∈ [([], 5), (List.replicate 8 1, 20), ([], 4)]) :
    let s : State := { qS [(0, { holdC addBits with ahead := a })] [] with sync := { ctrs := [(5, { v := v })] } }
    s.leadGoes (0 : Fin 256) = true ∧ (s.ctx (0 : Fin 256)).phase ≠ .needFetch ∧ s.Quiet ∧ qSubmit (s.qdt (s.ctx (0 : Fin 256)).queue) = 5 ∧
    (s.ctx (0 : Fin 256)).pos + 1 + a.length = 4 + a.length ∧
    s.Mapped [(ringAddr (s.qdt (s.ctx (0 : Fin 256)).queue) (4 + a.length), 64)] := by
  simp only [List.mem_cons, Prod.mk.injEq, List.not_mem_nil, or_false] at h
  rcases h with ⟨rfl, rfl⟩ | ⟨rfl, rfl⟩ | ⟨rfl, rfl⟩ <;>
    exact ⟨by decide +kernel, by decide +kernel, quiet_of _ (by decide +kernel), by decide +kernel, by decide +kernel,
      mapped_of _ _ (by decide +kernel)⟩

/-- An operator of queue 0 on cores 0 and 1. -/
def twoOp (p0 p1 : PartPhase) (f : Bool) : Op :=
  { linOp 1 with bits := linBits 1 + 2 ^ 32, parts := [{ core := 0, phase := p0, finished := f }, { core := 1, phase := p1, finished := f }] }

theorem witness_GrantFetchAndForward_FORWARDED_OPERATOR :
    let s := qS [(0, leadC .ready), (4, { mode := .following })] [twoOp (.admitted 0) .sent false]
    s.mainUp = true ∧ (s.ctx (4 : Fin 256)).lead = false ∧ (s.ctx (4 : Fin 256)).mode = .following ∧
    s.sentOp? (4 : Fin 256) = some (twoOp (.admitted 0) .sent false) ∧
    s.routeOpen (coreNode ((twoOp (.admitted 0) .sent false).lead / 4)) (coreNode ((4 : Fin 256).val / 4)) = true ∧
    (twoOp (.admitted 0) .sent false).part? ((4 : Fin 256).val / 4) = some { core := 1, phase := .sent } := by decide +kernel

/-- Wait for counter 7 to hold 1, add 2 to cluster counter 0x1000, arrive at huddle root 3. -/
def waitE : Nat := pk [(0, 2), (32, 7), (64, 1)]
def signalE : Nat := pk [(0, 3), (32, 0x1000), (48, 2)]
def arriveE : Nat := pk [(0, 4), (32, 3), (64, 1)]

theorem witness_WaitSignalAndArrivalEntries_WAIT_ENTRY :
    (let s := qS [(0, holdC waitE)] []
     s.leadHolds (0 : Fin 256) 2 = true ∧ s.frozen = false ∧ waitBad waitE = false ∧ ctrLocal (wCtr waitE) (0 : Fin 256) = true ∧
     qSlot (s.qdt (s.ctx (0 : Fin 256)).queue) = 0xFFFF ∧ s.ctrOpen (coreNode ((0 : Fin 256).val / 4)) (wCtr waitE) = true ∧
     (s.ctr (wCtr waitE)).v < wExp waitE) ∧
    (let s : State := { qS [(0, holdC waitE)] [] with sync := { ctrs := [(7, { v := 1 })] } }
     s.leadHolds (0 : Fin 256) 2 = true ∧ s.frozen = false ∧ wExp waitE ≤ (s.ctr (wCtr waitE)).v) := by decide +kernel

theorem witness_WaitSignalAndArrivalEntries_SIGNAL_ENTRY :
    let s : State := { qS [(0, holdC signalE), (1, { mode := .waiting, wait := some (0x1000, 2), registered := true })] [] with
      sync := { ctrs := [(0x1000, { v := 0, waiters := [⟨2, 1⟩] })] } }
    s.leadHolds (0 : Fin 256) 3 = true ∧ s.frozen = false ∧ signalBad signalE = false ∧ s.signalOpen (0 : Fin 256) = true ∧
    s.ctrOpen (coreNode ((0 : Fin 256).val / 4)) (wCtr signalE) = true ∧
    ctrLocal (wCtr signalE) (0 : Fin 256) = true ∧ (s.sotValid = true ∨ 0x1000 ≤ wCtr signalE) ∧
    qSlot (s.qdt (s.ctx (0 : Fin 256)).queue) = 0xFFFF := by decide +kernel

theorem witness_WaitSignalAndArrivalEntries_HUDDLE_ARRIVAL_ENTRY :
    let s := qS [(0, holdC arriveE)] []
    s.leadHolds (0 : Fin 256) 4 = true ∧ arrivalBad arriveE = false ∧ s.signalOpen (0 : Fin 256) = true := by decide +kernel

/-- The arrival has been applied: the lead goes on, or waits for round 1 of a huddle of two. -/
theorem witness_WaitSignalAndArrivalEntries_applied (w : Nat) (h : w = 0 ∨ w = 1) :
    let s := qS [(0, { holdC (arriveE + w * 2 ^ 48) with phase := .arrived })] []
    s.leadFree (0 : Fin 256) .arrived = true ∧ s.arrivalOut (0 : Fin 256) = false ∧ (s.ctx (0 : Fin 256)).entry = arriveE + w * 2 ^ 48 ∧
    qSlot (s.qdt (s.ctx (0 : Fin 256)).queue) = 0xFFFF ∧ s.ctrOpen (coreNode ((0 : Fin 256).val / 4)) (aRoot (arriveE + w * 2 ^ 48)) = true ∧
    ctrLocal (aRoot (arriveE + w * 2 ^ 48)) (0 : Fin 256) = true ∧ s.frozen = false ∧ aWait (arriveE + w * 2 ^ 48) = decide (w = 1) := by
  rcases h with rfl | rfl <;> decide +kernel

theorem witness_ContractErrorsStopTheQueue :
    (let s := qS [(0, holdC 5)] []
     s.bound 0 = true ∧ s.leadFree (0 : Fin 256) .holding = true ∧ ¬(1 ≤ eKind (s.ctx (0 : Fin 256)).entry ∧ eKind (s.ctx (0 : Fin 256)).entry ≤ 4) ∧
     s.bit Reg.SCH_FAULT_STATUS 0 = false) ∧
    (let s := put (qS [(0, { holdC (pk [(0, 1), (48, 0x3FF)]) with mode := .issuing })] []) [(Reg.SCH_FAULT_STATUS, 1#32)]
     s.bound 0 = true ∧ s.leadIssuing (0 : Fin 256) = true ∧ eOp (s.ctx (0 : Fin 256)).entry ∉ opCodes ∧
     s.bit Reg.SCH_FAULT_STATUS 0 = true ∧ s.opsOf 0 = []) := by decide +kernel

theorem witness_Retirement :
    (let o := twoOp (.admitted 0) (.admitted 63) true
     let s : State := { qS [] [o] with sched := { ops := [o], sb := [(64 * 1 + 63, { valid := true, state := 4 })] } }
     s.mainUp = true ∧ (s.sbAt (1 : Fin 64) (63 : Fin 64)).valid = true ∧
     s.op? (s.sbAt (1 : Fin 64) (63 : Fin 64)).queue (s.sbAt (1 : Fin 64) (63 : Fin 64)).entry = some o ∧
     o.part? (1 : Fin 64) = some { core := 1, phase := .admitted 63, finished := true } ∧ (1 : Fin 64).val ≠ o.lead / 4) ∧
    (let o := twoOp (.admitted 0) .reported true
     let s : State := { qS [] [o] with sched := { ops := [o], sb := [(0, { valid := true, state := 4 })] } }
     s.mainUp = true ∧ (s.sbAt (0 : Fin 64) (0 : Fin 64)).valid = true ∧ s.op? 0 0 = some o ∧
     o.part? (0 : Fin 64) = some { core := 0, phase := .admitted 0, finished := true } ∧ (0 : Fin 64).val = o.lead / 4 ∧
     (∀ x ∈ o.parts, x.core = (0 : Fin 64).val ∨ x.phase = .reported)) ∧
    (let o := twoOp .reported .retired true
     let s : State := { qS [] [o] with sched := { ops := [o], reports := [(1, 0, 0)] } }
     s.mainUp = true ∧ s.reportNext ((1 : Fin 64).val, (0#8).toNat, 0) = true ∧
     s.routeOpen (coreNode (1 : Fin 64)) (coreNode (s.reportTo ((1 : Fin 64).val, (0#8).toNat, 0))) = true ∧
     s.op? (0#8).toNat 0 = some o ∧ o.part? (1 : Fin 64) = some { core := 1, phase := .retired, finished := true } ∧
     (∀ x ∈ o.parts, x.core = (1 : Fin 64).val ∨ x.phase = .reported)) ∧
    (let o := twoOp (.admitted 0) .retired true
     let s : State := { qS [] [o] with sched := { ops := [o], reports := [(1, 0, 0)] } }
     s.mainUp = true ∧ s.reportNext ((1 : Fin 64).val, (0#8).toNat, 0) = true ∧
     s.op? (0#8).toNat 0 = some o ∧ o.part? (1 : Fin 64) = some { core := 1, phase := .retired, finished := true } ∧
     (∃ x ∈ o.parts, x.core ≠ (1 : Fin 64).val ∧ x.phase ≠ .reported)) := by decide +kernel

theorem witness_WatchdogAndSchedulerRegisters :
    (let s := put upS [(Reg.SCH_WDOG, 0#32)]; s.mainUp = true ∧ s.wdogLimit = 0) ∧
    (let s : State := { put (qS [(0, leadC .ready)] [linOp 1]) [(Reg.SCH_WDOG, 20#32)] with
       sched := { ctxs := [(0, leadC .ready)], ops := [linOp 1], sb := [(0, { valid := true, state := 3, seen := some (3, 0) })] } }
     s.mainUp = true ∧ s.bound 0 = true ∧
     ({ s with sched := { s.sched with sb := s.sched.sb.rewrite {} fun _ e => e.scan } } : State).wdogHits = [(0, 0)]) ∧
    upS.hAnswers = true ∧ (upS.ctx (255 : Fin 256)).mode = .idle ∧ ((qS [(0, leadC .ready)] []).ctx (0 : Fin 256)).mode ≠ .idle := by
  decide +kernel

theorem witness_MemoryControl_LinkControl :
    upS.hAnswers = true ∧ upS.trainRefused = true ∧
    (let s := put upS [(Reg.MEM_LPDDR_CFG, 1#32), (Reg.CLK_PLL_STATUS, 0x7F#32), (Reg.CLK_SRC, 0x7FFFFF#32)]
     s.hAnswers = true ∧ s.trainRefused = false ∧ s.takes Reg.LNK_CTRL = true ∧ s.bit (Reg.LNK_STATUS 3) 0 = false ∧
     s.bit (Reg.LNK_STATUS 3) 3 = false ∧ s.bit Reg.CLK_SRC 22 = true) ∧
    (upS.takes Reg.LNK_CTRL = true ∧ upS.bit Reg.CLK_SRC 22 = false) ∧
    (let s := put upS [(Reg.LNK_STATUS 3, 8#32)]; s.takes Reg.LNK_CTRL = true ∧ s.bit (Reg.LNK_STATUS 3) 3 = true) := by decide +kernel

def scrubS (n : Nat) : State := { put upS [(Reg.MEM_SCRUB_CFG, 0x8000#32)] with links := { scrub := some n } }

theorem witness_ScrubAndDram :
    (let s := put upS [(Reg.MEM_LPDDR_STATUS, 2#32)]
     s.mainUp = true ∧ s.bit Reg.MEM_LPDDR_STATUS 1 = true ∧ s.power.resuming = false) ∧
    (let s := put upS [(Reg.MEM_LPDDR_STATUS, 1#32)]; s.mainUp = true ∧ s.bit Reg.MEM_LPDDR_STATUS 0 = true) ∧
    (let s := scrubS 1
     s.mainUp = true ∧ s.bit Reg.MEM_SCRUB_CFG 15 = true ∧ s.power.state ≠ .hold ∧ s.links.scrub = some (0 + 1) ∧
     s.links.errors = []) ∧
    (let s := scrubS 2
     s.mainUp = true ∧ s.power.state ≠ .hold ∧ s.bit Reg.MEM_SCRUB_CFG 15 = true ∧ s.links.scrub = some (0 + 2) ∧
     s.links.errors = [] ∧ s.links.writebacks = []) ∧
    (let s := scrubS 2
     ((⟨1, 0, 0, 0, 0⟩, 1) : SramArray × Nat) ≠ scrubPlace s.links.scrubPos ∧ upS.links.scrub = none) ∧
    (let s : State := { upS with links := { writebacks := [⟨⟨1, 0, 0, 0, 0⟩, 0, .one⟩] } }
     s.links.writebacks = ⟨⟨1, 0, 0, 0, 0⟩, 0, .one⟩ :: []) ∧ Flaw.two ≠ .one ∧ Flaw.stray ≠ .one := by decide +kernel

/-- The scrub goes through its arrays in order, and each step has its place (R215). -/
theorem test_scrubPlace :
    scrubPlace 0 = (⟨1, 0, 0, 0, 0⟩, 0) ∧ (scrubPlace 2658303).2 = 262143 := by decide +kernel

/-- Link 2 runs; its receiver stands as given. -/
def flitS (d : LinkDir) : State :=
  { put upS [(Reg.LNK_STATUS 2, 1#32), (Reg.TST_LNK, 0#32)] with links := { dirs := if d = {} then [] else [(5, d)] } }

theorem witness_LinksCarryFlitsInOrder :
    (let s := flitS {}
     s.linkRuns (2 : Fin 4) = true ∧ (s.dir (2 : Fin 4) true).asked = false ∧ 0 = (s.dir (2 : Fin 4) true).expect ∧ s.forceEvery (2 : Fin 4) = 0) ∧
    (let s := put (flitS {}) [(Reg.TST_LNK, 0x80000402#32)]
     s.linkRuns (2 : Fin 4) = true ∧ s.forceEvery (2 : Fin 4) = 1 ∧ (s.dir (2 : Fin 4) true).replays = 0 ∧
     s.forceEvery (2 : Fin 4) ≤ (s.dir (2 : Fin 4) true).count + 1) ∧
    (∀ d ∈ [({ sent := 12, expect := 9, asked := true, last := 9, streak := 15 } : LinkDir), { sent := 12, expect := 9, asked := true },
        { sent := 12, expect := 9, asked := true, forced := true }],
      (flitS d).linkRuns (2 : Fin 4) = true ∧ (flitS d).dir (2 : Fin 4) true = d ∧ d.asked = true) ∧
    ((flitS {}).dir (2 : Fin 4) true).asked = false ∧
    (let d := (flitS { sent := 12, expect := 9, asked := true }).dir (2 : Fin 4) true; 8 ≠ d.expect ∧ 2 ≠ d.sent - d.expect ∧ true ≠ d.forced) ∧
    (let s := put upS [(Reg.LNK_STATUS 3, 8#32)]; s.mainUp = true ∧ s.bit (Reg.LNK_STATUS 3) 3 = true) ∧
    (let s := put upS [(Reg.LNK_STATUS 3, 1#32), (Reg.SAF_CTRL, 2#32)]
     s.mainUp = true ∧ s.bit (Reg.LNK_STATUS 3) 0 = true ∧ s.doubles = true) ∧
    (let s := put upS [(Reg.LNK_STATUS 3, 1#32)]; s.mainUp = true ∧ s.bit (Reg.LNK_STATUS 3) 0 = true ∧ s.doubles = false) := by
  decide +kernel

/-- A failed link 0: a counter's add from die 0 to the H-die, and a COPY of core 0 from hub memory, do not pass. -/
theorem witness_LinksCarryFlitsInOrder_closed :
    (put upS [(Reg.LNK_STATUS 0, 2#32)]).ctrOpen (unitNode (0x1000#16).toNat) (5#16).toNat = false ∧
    (let s := put (waitOp addOp) [(Reg.LNK_STATUS 0, 2#32)]
     let p : OpPart := { core := 0, phase := .admitted 0 }
     (s.leadIssuing (0 : Fin 256) && eOp (s.ctx (0 : Fin 256)).entry == cADD) = false ∧ s.dueOp? (0 : Fin 256) cADD = some (addOp, p) ∧
     s.reaches (coreNode p.core) (addOp.blockReads (addOp.nextRow p) p.block ++
       (s.blockWrites addOp (addOp.nextRow p) p.block).map fun w => (w.1, w.2.length)) = false) := by decide +kernel

theorem witness_CounterAdds_1 :
    (let s : State := { put upS [(Reg.CTL_ROOT_STATUS, 4#32)] with sync := { ctrs := [(4095, { v := 2 ^ 48 - 1, waiters := [⟨2 ^ 48 - 1, 7⟩] })] }
                                                                   sched := { ctxs := [(7, { mode := .waiting })] } }
     s.mainUp = true ∧ s.hAnswers = true ∧ 1 ≠ 0 ∧ s.ctrOpen (unitNode (0x1000#16).toNat) 4095 = true ∧ (4095 : Fin 4096).val < 0x2000 ∧ (s.sotValid = true ∨ 0x1000 ≤ 4095) ∧ s.frozen = false) ∧
    (upS.mainUp = true ∧ (0x1FFF#16).toNat < 0x2000 ∧ (upS.sotValid = true ∨ 0x1000 ≤ (0x1FFF#16).toNat) ∧ upS.frozen = false) := by
  decide +kernel

theorem witness_CounterAdds_2 :
    (upS.mainUp = true ∧ 1#32 ≠ 0#32 ∧ upS.ctrOpen (unitNode (0x2000#16).toNat) (0xFFF#16).toNat = true ∧ (0xFFF#16).toNat < 0x1000 ∧ upS.sotValid = false ∧ upS.roots.sot.loading = false) ∧
    (let s : State := { upS with roots := { sot := { loading := true } } }
     s.mainUp = true ∧ s.sotValid = false ∧ s.roots.sot.loading = true) := by decide +kernel

/-- A context that waits for counter 4 to hold 5. -/
def waitS (v n : Nat) : State :=
  { upS with sched := { ctxs := [(0, { mode := .waiting, wait := some (4, 5) })] }
             sync := { ctrs := [(4, { v := v, waiters := List.replicate n ⟨9, 200⟩ })] } }

theorem witness_WaitsAndShadows :
    (∀ x ∈ [(5, 0), (4, 15), (4, 16)], ((waitS x.1 x.2).ctx (0 : Fin 256)).wait = some (4, 5) ∧
      ((waitS x.1 x.2).ctx (0 : Fin 256)).mode = .waiting ∧ ((waitS x.1 x.2).ctx (0 : Fin 256)).registered = false ∧
      (waitS x.1 x.2).frozen = false ∧ ctrLocal 4 (0 : Fin 256) = true ∧ (waitS x.1 x.2).ctrOpen (coreNode ((0 : Fin 256).val / 4)) 4 = true) ∧
    5 ≤ ((waitS 5 0).ctr 4).v ∧ ((waitS 4 15).ctr 4).v < 5 ∧ ((waitS 4 15).ctr 4).waiters.length < 16 ∧
    16 ≤ ((waitS 4 16).ctr 4).waiters.length ∧
    (let s : State := { upS with sync := { ctrs := [(4095, { shadowEn := true, shadowReq := true })] } }
     s.mainUp = true ∧ (s.ctr (4095 : Fin 4096)).shadowReq = true ∧ s.shadowTurn (4095 : Fin 4096) = true) ∧
    (let s : State := { upS with sync := { ctrs := [(3, { shadowEn := true, shadowReq := true, shadowLoad := true }),
       (4095, { shadowEn := true, shadowReq := true, shadowLoad := true })] } }
     s.shadowTurn (4095 : Fin 4096) = false) := by decide +kernel

theorem witness_CounterSetAndEnd :
    (let s := put upS [(Reg.CTL_ROOT_STATUS, 4#32), (Reg.SYN_CTR_SEL, 4095#32)]
     s.hAnswers = true ∧ 4095 = s.fld Reg.SYN_CTR_SEL 15 0 ∧ s.frozen = false) ∧
    (let s : State := { put upS [(Reg.CTL_ROOT_STATUS, 4#32)] with sync := { ctrs := [(0, { owner := 0x100 })] } }
     s.hAnswers = true ∧ s.setRefused 0 = false ∧ s.frozen = false ∧ (s.ctr 0).owner = 0x100) ∧
    (let s := put upS [(Reg.SYN_CTR_SEL, 0x2000#32)]
     s.hAnswers = true ∧ 0x2000 = s.fld Reg.SYN_CTR_SEL 15 0 ∧ s.setRefused 0x2000 = true ∧ s.bit Reg.SYN_ERR_STATUS 0 = false) ∧
    ((upS.ctr 0).owner < 0x100 ∧ upS.queueBusy (upS.ctr 0).owner = false) ∧
    (let s := qS [(0, leadC .ready)] []; s.hAnswers = true ∧ (s.ctr 0).owner < 0x100 ∧ s.queueBusy (s.ctr 0).owner = true) := by
  decide +kernel

theorem witness_CaptureAndChecks :
    upS.hAnswers = true ∧ (0x1FFF#32).toNat % 65536 < 0x2000 ∧ 0x2000 ≤ (0x2000#32).toNat % 65536 ∧ upS.endFailures 0x100 = [] ∧
    (let s : State := { upS with sync := { ctrs := [(6, { endChk := true, owner := 0x100, endv := 1 })] } }
     s.hAnswers = true ∧ s.endFailures 0x100 = 6 :: []) := by decide +kernel

def dumpS (base : Nat) : State := { upS with sync := { dump := some ⟨false, base, 0⟩ } }

theorem witness_CounterDump :
    upS.hAnswers = true ∧ upS.sync.dump = none ∧ upS.reg64 Reg.SYN_DUMP_BASE_LO % 64 = 0 ∧
    (put upS [(Reg.SYN_DUMP_BASE_LO, 0x20#32)]).reg64 Reg.SYN_DUMP_BASE_LO % 64 ≠ 0 ∧
    regionOf (upS.reg64 Reg.SYN_DUMP_BASE_LO) ≠ some .core ∧ regionOf ((put upS [(Reg.SYN_DUMP_BASE_LO, 0x10000000#32)]).reg64 Reg.SYN_DUMP_BASE_LO) = some .core ∧ (dumpS 0).sync.dump.isSome = true ∧
    (dumpS 0).hAnswers = true ∧ (dumpS 0).mainUp = true ∧ (dumpS 0).sync.held = [] ∧
    (dumpS 0x1000000).rangeFault 0x1000000 (0x80040 + 16 * (dumpS 0x1000000).allWaiters.length) ≠ none := by decide +kernel

theorem witness_CounterDump_mapped :
    (dumpS 0).Quiet ∧ (dumpS 0).Mapped [(0, 0x80040 + 16 * (dumpS 0).allWaiters.length)] :=
  ⟨quiet_of _ (by decide +kernel), mapped_of _ _ (by decide +kernel)⟩

/-- Huddle 3 with contexts 0 and 1 and the host as members, an arrival of context 0 or 1 on its way. -/
def hudS (nodes : SMap HNode) (a : Arrival) : State :=
  { upS with sync := { ctrs := [(3, { huddle := true })], huddles := [(3, { ctxMask := 3, host := true, n := 3, nodes := nodes })]
                       arrivals := [a] } }

def arr (child tag : Nat) : Arrival := { root := 3, node := 0, child := child, tag := tag, weight := 1, unit := 0x1000 + child, ctx := none }

theorem witness_HuddleArrivals :
    (let s := hudS [] (arr 0 0)
     s.hAnswers = true ∧ s.roots.sot.loading = false ∧ (s.ctr (3 : Fin 64)).huddle = true ∧ (s.huddle (3 : Fin 64)).host = true ∧
     (s.ctr (63 : Fin 64)).huddle = false) ∧
    (let s := hudS [] (arr 0 0)
     let a := arr 0 0
     s.mainUp = true ∧ s.sync.arrivals[0]? = some a ∧ s.frozen = false ∧ s.arrivalNext 0 a = true ∧ (s.ctr a.root).huddle = true ∧ (s.huddle a.root).ctxMask.testBit a.child = true ∧
     ((s.huddle a.root).nodes.look {} a.node).judge a.child a.tag = .accepted ∧
     (((s.huddle a.root).nodes.look {} a.node).count a.child a.tag a.weight).cnt0 ≠ (s.huddle a.root).members a.node) ∧
    (let s := hudS [(0, { mask0 := [0], cnt0 := 1 })] (arr 1 0)
     let a := arr 1 0
     let n := ((s.huddle a.root).nodes.look {} a.node).count a.child a.tag a.weight
     s.mainUp = true ∧ s.sync.arrivals[0]? = some a ∧ s.frozen = false ∧ s.arrivalNext 0 a = true ∧ (s.ctr a.root).huddle = true ∧ (s.huddle a.root).ctxMask.testBit a.child = true ∧
     ((s.huddle a.root).nodes.look {} a.node).judge a.child a.tag = .accepted ∧ n.cnt0 = (s.huddle a.root).members a.node ∧
     (s.huddle a.root).members a.node ≠ 0 ∧ n.cnt1 ≠ (s.huddle a.root).members a.node ∧ a.node < 16) ∧
    (let s := hudS [(0, { mask0 := [0], cnt0 := 1 })] (arr 0 0)
     let a := arr 0 0
     s.mainUp = true ∧ s.sync.arrivals[0]? = some a ∧ s.frozen = false ∧ s.arrivalNext 0 a = true ∧ a.ctx = none ∧ (s.ctr a.root).huddle = true ∧
     (s.huddle a.root).ctxMask.testBit a.child = true ∧ ((s.huddle a.root).nodes.look {} a.node).judge a.child a.tag = .again) := by
  decide +kernel

/-- SDT entries: camera receiver 7 (virtual channel 15, type 0x3F), Ethernet 1 (EtherType 0x88F7), CAN 1 (every standard id). -/
def csiE : Nat := pk [(2, 7), (8, 15), (12, 0x3F), (48, 0xFFFF), (64, 0x10000), (128, 0x1000), (160, 1), (176, 4), (192, 64), (240, 1), (256, 0x20000)]
def ethE : Nat := pk [(0, 1), (2, 1), (48, 0xFFFF), (64, 0x10000), (128, 0x12000), (160, 1), (176, 4), (192, 9280), (240, 1), (256, 0x80000), (320, 0x88F7)]
def canE : Nat := pk [(0, 2), (2, 1), (48, 0xFFFF), (64, 0x10000), (128, 0x1000), (160, 1), (176, 4), (192, 128), (240, 1), (256, 0x80000)]

/-- Stream 63 in a state, its source enabled on its PLL; the SDT names the same entry. -/
def strS (e : Nat) (x : Stream) : State :=
  { put upS [(Reg.CTL_ROOT_STATUS, 0xF#32), (Reg.CLK_SRC, 0x7FFFFF#32), (Reg.ING_CSI_CFG 7, 0x10#32), (Reg.ING_ETH_CFG 1, 1#32),
      (Reg.ING_CAN_CTRL 1, 5#32)] with
    roots := { sdt := { base := 0x1000, count := 64, entries := List.replicate 64 e } }
    ingest := { streams := if x = {} then [] else [(63, x)] } }

theorem witness_StreamCommands_accepted :
    (let s := strS csiE {}
     s.hAnswers = true ∧ s.strmCauses (63 : Fin 64) ((s.strm (63 : Fin 64)).mode == .stopped) ++ s.startCauses csiE = [] ∧
     csiE = s.roots.sdt.entries.getD (63 : Fin 64) 0) ∧
    (let s := strS csiE { mode := .running, entry := csiE }
     s.strmCauses (63 : Fin 64) ((s.strm (63 : Fin 64)).mode == .running) = [] ∧ (s.strm (63 : Fin 64)).inFrame = false ∧
     s.strmCauses (63 : Fin 64) (s.strm (63 : Fin 64)).live = []) ∧
    (let s := strS csiE { mode := .running, entry := csiE, frame := some {} }
     s.strmCauses (63 : Fin 64) ((s.strm (63 : Fin 64)).mode == .running) = [] ∧ (s.strm (63 : Fin 64)).inFrame = true ∧
     s.strmCauses (63 : Fin 64) (s.strm (63 : Fin 64)).live = []) ∧
    (let s := strS csiE { mode := .faulted, entry := csiE, fault := 2 }
     s.strmCauses (63 : Fin 64) ((s.strm (63 : Fin 64)).mode == .faulted) = []) := by decide +kernel

theorem witness_StreamCommands_reload :
    let s : State := { strS csiE {} with mem := cells (0x1000 + 64 * 63) [csiE] }
    s.hAnswers = true ∧ s.Quiet ∧ csiE = s.readNat (s.roots.sdt.base + 64 * (63 : Fin 64).val) 64 ∧
    s.strmCauses (63 : Fin 64) ((s.strm (63 : Fin 64)).mode == .stopped) ++ (if sdtOk csiE then [] else [4]) = [] :=
  ⟨by decide +kernel, quiet_of _ (by decide +kernel), by decide +kernel, by decide +kernel⟩

theorem witness_StreamCommands_refused :
    upS.hAnswers = true ∧ (upS.strmCauses (63 : Fin 64) ((upS.strm (63 : Fin 64)).mode == .running)).head? = some 1 ∧
    ((strS 0 {}).strmCauses (0 : Fin 64) true ++ (strS 0 {}).startCauses ((strS 0 {}).roots.sdt.entries.getD (0 : Fin 64) 0)).head? = some 4 ∧
    ¬(1 ≤ (6#3).toNat ∧ (6#3).toNat ≤ 5) ∧ ¬(1 ≤ (0#3).toNat ∧ (0#3).toNat ≤ 5) := by decide +kernel

theorem witness_SourcesAndCameraFrames_sources :
    (let s := put upS [(Reg.CLK_SRC, 0#32)]
     s.takes (srcReg (.csi 7)).1 = true ∧ srcEnables (.csi 7) 0x10#32 = true ∧ srcEnables (.csi 7) (s.reg (srcReg (.csi 7)).1) = false ∧
     s.onPll (srcReg (.csi 7)).2.2 = false) ∧
    (let s := put upS [(Reg.CLK_SRC, 0x7FFFFF#32)]
     ∀ x ∈ [(Source.csi 7, 0x10#32), (.eth 1, 1#32), (.can 1, 2#32), (.tx 3, 0x80000000#32)],
       s.takes (srcReg x.1).1 = true ∧ srcEnables x.1 x.2 = true ∧ srcEnables x.1 (s.reg (srcReg x.1).1) = false ∧
       s.onPll (srcReg x.1).2.2 = true) ∧
    (let s := strS csiE { mode := .running, entry := csiE, frame := some {} }
     s.takes (Reg.ING_CSI_CFG (7 : Fin 8)) = true ∧ (0#32).getLsbD 4 = false ∧ s.bit (Reg.ING_CSI_CFG (7 : Fin 8)) 4 = true ∧
     (s.strm 63).live = true ∧ tSrc (s.strm 63).entry = 0 ∧ tPort (s.strm 63).entry = (7 : Fin 8).val) := by decide +kernel

theorem witness_SourcesAndCameraFrames_frames :
    (let s := strS csiE { mode := .running, entry := csiE }
     s.srcLive 0 (7 : Fin 8) = true ∧ 63 ∈ s.csiStreams (7 : Fin 8) (15#4).toNat ∧ (s.strm 63).mode = .running ∧ (s.strm 63).frame = none ∧
     s.bufFree (s.strm 63).entry = true ∧ tAdmit (s.strm 63).entry ≤ 2048 - (2048 : Fin 2049).val) ∧
    (let s := strS (csiE - 0xFFFF * 2 ^ 48 + 5 * 2 ^ 48) { mode := .running, entry := csiE - 0xFFFF * 2 ^ 48 + 5 * 2 ^ 48 }
     let s : State := { s with sync := { ctrs := [(0, { v := 1 })] } }
     63 ∈ s.csiStreams (7 : Fin 8) (15#4).toNat ∧ s.bufFree (s.strm 63).entry = false ∧ tNobufFault (s.strm 63).entry = false) ∧
    (let e := csiE - 0xFFFF * 2 ^ 48 + 5 * 2 ^ 48 + 2 ^ 6
     let s : State := { strS e { mode := .running, entry := e } with sync := { ctrs := [(0, { v := 1 })] } }
     63 ∈ s.csiStreams (7 : Fin 8) (15#4).toNat ∧ s.bufFree (s.strm 63).entry = false ∧ tNobufFault (s.strm 63).entry = true) ∧
    (let s := strS csiE { mode := .running, entry := csiE, frame := some { seen := 3, units := 3 } }
     s.srcLive 0 (7 : Fin 8) = true ∧ (0 : Fin 3).val ≠ 2 ∧ overflows true (2047 : Fin 2049) (List.replicate 64 1#8).length = false ∧
     (s.csiStreams (7 : Fin 8) (15#4).toNat).filter (fun m => tDt (s.strm m).entry == (0x3F#6).toNat) = [63] ∧
     (s.strm 63).frame = some { seen := 3, units := 3 } ∧ 3 < tMaxUnits (s.strm 63).entry ∧
     (List.replicate 64 1#8).length ≤ tUnitStride (s.strm 63).entry ∧
     (tErrDrop (s.strm 63).entry && (({} : FrameRun).crc || ({} : FrameRun).ecc || ({} : FrameRun).long)) = false) := by decide +kernel

theorem witness_SourcesAndCameraFrames_mapped :
    let s := strS csiE { mode := .running, entry := csiE, frame := some { seen := 3, units := 3 } }
    s.Quiet ∧ s.Mapped [((s.strm 63).bufAddr + 3 * tUnitStride (s.strm 63).entry, 64)] :=
  ⟨quiet_of _ (by decide +kernel), mapped_of _ _ (by decide +kernel)⟩

theorem witness_DeliveryAndPackets_deliver :
    let s := strS csiE { mode := .running, entry := csiE, ended := [{ fnum := 1 }] }
    s.mainUp = true ∧ s.Quiet ∧ s.sotValid = true ∧ s.frozen = false ∧ (s.strm (63 : Fin 64)).ended = { fnum := 1 } :: [] ∧
    (({ fnum := 1 } : FrameRun).digested && s.digHold) = false ∧ tFrameCtr (s.strm (63 : Fin 64)).entry < 0x1000 ∧
    s.Mapped [(tRecBase (s.strm (63 : Fin 64)).entry + 64 * ((s.strm (63 : Fin 64)).d % tNbuf (s.strm (63 : Fin 64)).entry), 64)] :=
  ⟨by decide +kernel, quiet_of _ (by decide +kernel), by decide +kernel, by decide +kernel, by decide +kernel, by decide +kernel,
    by decide +kernel, mapped_of _ _ (by decide +kernel)⟩

theorem witness_DeliveryAndPackets_gap :
    (let s := strS csiE { mode := .running, entry := csiE, frame := some {} }
     s.mainUp = true ∧ (s.strm (63 : Fin 64)).live = true ∧ tGap (s.strm (63 : Fin 64)).entry ≠ 0 ∧ (s.strm (63 : Fin 64)).frame = some {} ∧
     tSrc (s.strm (63 : Fin 64)).entry = 0) ∧
    (let s := strS ethE { mode := .running, entry := ethE, frame := some {} }
     s.mainUp = true ∧ (s.strm (63 : Fin 64)).live = true ∧ tGap (s.strm (63 : Fin 64)).entry ≠ 0 ∧ (s.strm (63 : Fin 64)).frame = some {} ∧
     tSrc (s.strm (63 : Fin 64)).entry ≠ 0 ∧ tErrDrop (s.strm (63 : Fin 64)).entry = false) := by decide +kernel

/-- A 64-byte Ethernet frame of EtherType 0x88F7. -/
def ethF : List Byte := List.replicate 12 0#8 ++ [0x88#8, 0xF7#8] ++ List.replicate 50 0#8

theorem witness_DeliveryAndPackets_counted :
    (strS ethE {}).srcLive 1 (1 : Fin 2) = true ∧ (9216 < 9217) ∧ ethPause ethF = false ∧ ethF.length ≤ 9216 ∧
    (strS ethE {}).packetStream? 1 (1 : Fin 2) (fun e => ethMatches e ethF) = none := by decide +kernel

theorem witness_DeliveryAndPackets_ethernet :
    let s := strS ethE { mode := .running, entry := ethE, frame := some { seen := 2 } }
    s.srcLive 1 (1 : Fin 2) = true ∧ ethF.length ≤ 9216 ∧ ethPause ethF = false ∧ overflows false (2048 : Fin 2049) (16 + ethF.length) = false ∧
    s.packetStream? 1 (1 : Fin 2) (fun e => ethMatches e ethF) = some 63 ∧ s.Quiet ∧ (s.strm 63).frame = some { seen := 2 } ∧
    2 + 1 < tMaxUnits (s.strm 63).entry ∧
    s.Mapped [((s.strm 63).bufAddr + 2 * tUnitStride (s.strm 63).entry,
      (toBytes 16 (s.before (0 + s.fld (Reg.ING_ETH_CFG (1 : Fin 2)) 15 8) + ethF.length * 2 ^ 64 + b2n (ethTagged ethF) * 2 ^ 78) ++ ethF).length)] :=
  ⟨by decide +kernel, by decide +kernel, by decide +kernel, by decide +kernel, by decide +kernel, quiet_of _ (by decide +kernel),
    by decide +kernel, by decide +kernel, mapped_of _ _ (by decide +kernel)⟩

theorem witness_DeliveryAndPackets_can :
    let s := strS canE { mode := .running, entry := canE, frame := some { seen := 2 } }
    s.srcLive 2 (1 : Fin 2) = true ∧ s.fld (Reg.ING_CAN_STATUS (1 : Fin 2)) 1 0 ≠ 2 ∧ s.bit (Reg.ING_CAN_CTRL (1 : Fin 2)) 2 = true ∧
    overflows false (2048 : Fin 2049) 80 = false ∧ s.packetStream? 2 (1 : Fin 2) (fun e => canMatches e 0x7FF false) = some 63 ∧
    s.Quiet ∧ 2 + 1 < tMaxUnits (s.strm 63).entry ∧
    s.Mapped [((s.strm 63).bufAddr + 2 * tUnitStride (s.strm 63).entry,
      (canRecord (s.before 0) 0x7FF false true true false false 15 (List.replicate 64 0#8)).length)] :=
  ⟨by decide +kernel, by decide +kernel, by decide +kernel, by decide +kernel, by decide +kernel, quiet_of _ (by decide +kernel),
    by decide +kernel, mapped_of _ _ (by decide +kernel)⟩

/-- Ring 1 with a descriptor at 0x3000, of a 60-byte frame at 0x4000 or with length 0. -/
def txS (n : Nat) (x : TxRing) : State :=
  let s := put (strS ethE {}) [(Reg.ING_TX_CFG 1, 0x80020014#32), (Reg.ING_TX_BASE_LO 1, 0x3000#32)]
  { s with mem := cells 0x3000 [pk [(0, 0x4000), (64, n), (80, 1)]], sync := { ctrs := [(1, { v := 1 })] }
           ingest := { tx := if x = {} then [] else [(1, x)] } }

theorem witness_TransmitAndBusState_send (n : Nat) (h : n = 60 ∨ n = 59) :
    let s := txS n {}
    s.txPort (1 : Fin 4) = true ∧ s.Quiet ∧ s.bit (Reg.ING_TX_CFG (1 : Fin 4)) 31 = true ∧ (s.txRing (1 : Fin 4)).sending = none ∧
    0 = (s.txRing (1 : Fin 4)).next ∧ 0 < (s.ctr (s.txSubmit (1 : Fin 4))).v ∧ s.Mapped [(s.txAddr (1 : Fin 4) 0, 32)] ∧
    s.txDescOk (1 : Fin 4) (s.readNat (s.txAddr (1 : Fin 4) 0) 32) = decide (n = 60) ∧ s.Mapped [(0x4000, n)] := by
  rcases h with rfl | rfl <;>
    exact ⟨by decide +kernel, quiet_of _ (by decide +kernel), by decide +kernel, by decide +kernel, by decide +kernel, by decide +kernel,
      mapped_of _ _ (by decide +kernel), by decide +kernel, mapped_of _ _ (by decide +kernel)⟩

theorem witness_TransmitAndBusState_complete :
    let s := txS 60 { sending := some 0 }
    s.mainUp = true ∧ s.Quiet ∧ s.sotValid = true ∧ s.frozen = false ∧ (s.txRing (1 : Fin 4)).sending = some 0 ∧
    s.Mapped [(s.txAddr (1 : Fin 4) 0, 32)] ∧ (1 : Fin 4).val < 2 ∧ (s.readNat (s.txAddr (1 : Fin 4) 0) 32).testBit 80 = true :=
  ⟨by decide +kernel, quiet_of _ (by decide +kernel), by decide +kernel, by decide +kernel, by decide +kernel,
    mapped_of _ _ (by decide +kernel), by decide +kernel, by decide +kernel⟩

theorem witness_TransmitAndBusState_can :
    upS.takes (Reg.ING_CAN_CTRL (1 : Fin 2)) = true ∧ upS.fld (Reg.ING_CAN_STATUS (1 : Fin 2)) 1 0 ≠ 2 ∧
    (put upS [(Reg.ING_CAN_STATUS 1, 2#32)]).fld (Reg.ING_CAN_STATUS (1 : Fin 2)) 1 0 = 2 ∧
    (let s : State := { upS with ingest := { canRecovering := [1] } }; s.mainUp = true ∧ (1 : Fin 2).val ∈ s.ingest.canRecovering) ∧
    ((strS canE {}).srcLive 2 (1 : Fin 2) = true ∧ (strS canE {}).fld (Reg.ING_CAN_STATUS (1 : Fin 2)) 1 0 ≠ 2) ∧
    (∀ rec ∈ [1, 127, 128], let s := put (strS canE {}) [(Reg.ING_CAN_STATUS 1, BitVec.ofNat 32 (rec * 65536 + 127 * 256))]
      s.srcLive 2 (1 : Fin 2) = true ∧ s.fld (Reg.ING_CAN_STATUS (1 : Fin 2)) 1 0 ≠ 2 ∧ s.fld (Reg.ING_CAN_STATUS (1 : Fin 2)) 23 16 = rec ∧
      s.fld (Reg.ING_CAN_STATUS (1 : Fin 2)) 15 8 ≤ 127 ∧ s.packetStream? 2 (1 : Fin 2) (fun e => canMatches e 0x7FF false) = none) := by decide +kernel

theorem witness_TheTimebase :
    upS.takes Reg.TIM_STEP_NS = true ∧ upS.bit Reg.TIM_STATUS 1 = false ∧
    wfld ((upS.commitWords Reg.TIM_STEP_NS 3 .bar0 0#32).getD 0 0#32) 29 0 < 10 ^ 9 ∧
    (put upS [(Reg.TIM_STATUS, 2#32)]).bit Reg.TIM_STATUS 1 = true ∧
    10 ^ 9 ≤ wfld (((put upS [(Reg.TIM_STEP_NS, 1000000000#32)]).commitWords Reg.TIM_STEP_NS 3 .bar0 0#32).getD 0 0#32) 29 0 ∧
    upS.takes Reg.TIM_OFFSET_LO = true ∧ upS.takes Reg.TIM_TSI_SEL = true ∧ upS.hAnswers = true ∧
    (let s : State := { upS with time := { counting := true, ns := 999999999 } }
     s.mainUp = true ∧ s.time.counting = true ∧ s.domHeld 17 = false ∧ s.tbPll = false) ∧
    (let s : State := { put upS [(Reg.CLK_SRC, 0x7FFFFF#32)] with time := { counting := true, ns := 999999999, sec := 2 ^ 64 - 1 } }
     s.mainUp = true ∧ s.time.counting = true ∧ s.domHeld 17 = false ∧ s.tbPll = true) := by decide +kernel

def tsiS (n : Nat) : State :=
  { put upS [(Reg.TIM_TSI_CFG 15, 3#32)] with time := { counting := true, tsi := if n = 0 then [] else [(15, List.replicate n { time := 1, level := true })] } }

theorem witness_TheTimebase_TSI :
    (∀ n ∈ [0, 7, 8], (tsiS n).mainUp = true ∧ (tsiS n).time.counting = true ∧
      edgeTaken ((tsiS n).fld (Reg.TIM_TSI_CFG (15 : Fin 16)) 1 0) true = true ∧ (tsiS n).fld (Reg.TIM_TSI_CFG (15 : Fin 16)) 15 8 ≤ 0 ∧
      ((tsiS n).tsiFifo (15 : Fin 16)).length = n) ∧
    254 < (put upS [(Reg.TIM_TSI_CFG 15, 0xFF03#32)]).fld (Reg.TIM_TSI_CFG (15 : Fin 16)) 15 8 := by decide +kernel

theorem witness_KickoffsAndClocks_slots :
    upS.takes Reg.TIM_KO_EVT = true ∧ (1#32).getLsbD 0 = true ∧ (0#32).getLsbD 0 = false ∧ upS.fld (Reg.TIM_KO_NS (31 : Fin 32)) 29 0 < 10 ^ 9 ∧
    10 ^ 9 ≤ (put upS [(Reg.TIM_KO_NS 31, 1000000000#32)]).fld (Reg.TIM_KO_NS (31 : Fin 32)) 29 0 ∧ upS.kickDue (31 : Fin 32) = false ∧
    (let s : State := { put upS [(Reg.TIM_KO_CFG 31, 0x30#32)] with time := { counting := true, ns := 5, ko := [(31, { armed := true, target := 5 })] } }
     s.takes Reg.TIM_KO_EVT = true ∧ s.kickDue (31 : Fin 32) = true) ∧
    (∀ x ∈ [(0x30, 0), (0x33, 7), (0x35, 0), (0x37, 0)],
      let s : State := { put upS [(Reg.TIM_KO_CFG 31, BitVec.ofNat 32 x.1), (Reg.TIM_KO_PER 31, BitVec.ofNat 32 x.2)] with
        time := { counting := true, ns := 5, ko := [(31, { armed := true, target := 5 })] } }
      s.mainUp = true ∧ s.kickDue (31 : Fin 32) = true ∧ (∀ i < (31 : Fin 32).val, s.kickDue i = false)) ∧
    (let s : State := { upS with time := { counting := true, ns := 5, trg := [(15, { level := true, pulseEnd := some 5 })] } }
     s.mainUp = true ∧ (s.trigger (15 : Fin 16)).pulseEnd = some 5 ∧ 5 ≤ s.time.abs) := by decide +kernel

theorem witness_KickoffsAndClocks_plls :
    (upS.hAnswers = true ∧ (∀ n < 7, upS.bit Reg.CLK_PLL_STATUS n = true →
      (if n = 2 ∨ n = 6 then upS.bit Reg.CLK_PLL_CTRL n else (0x3B#32).getLsbD n) = true)) ∧
    (∀ n : Fin 7, let s := put upS [(Reg.CLK_PLL_CTRL, 0x7F#32), (Reg.CLK_PLL_STATUS, 0#32)]
      s.mainUp = true ∧ s.bit Reg.CLK_PLL_CTRL n = true ∧ s.bit Reg.CLK_PLL_STATUS n = false ∧ s.power.resuming = false) ∧
    (∃ d < 23, (0x7FFFFF#32).getLsbD d = true ∧ Nat.testBit srcMask d = true ∧ upS.bit Reg.CLK_SRC d = false ∧
      upS.bit Reg.CLK_PLL_STATUS (domPll d) = false) ∧
    (let s := put upS [(Reg.CLK_PLL_STATUS, 0x7F#32), (Reg.CLK_SRC, 0x7FFFFF#32)]
     s.mainUp = true ∧ s.bit Reg.CLK_PLL_STATUS (0 : Fin 7) = true ∧ s.pllSelected (0 : Fin 7) = true) ∧
    (let s := put upS [(Reg.CLK_PLL_STATUS, 0x7F#32), (Reg.CLK_SRC, 0#32)]
     s.mainUp = true ∧ s.bit Reg.CLK_PLL_STATUS (6 : Fin 7) = true ∧ s.pllSelected (6 : Fin 7) = false) := by decide +kernel

/-- Vibration channel 3 enabled with excitation, sampling without pause; a sensor session may be open. -/
def vibS (fresh : Bool) : State :=
  { put upS [(Reg.MSR_VIB_MODE, 0x20#32), (Reg.MSR_VIB_CFG 3, 0xB#32)] with meas := { State.reset.meas with vibFresh := fresh } }

theorem witness_VibrationAndBlanking :
    (upS.power.tileUp = true ∧ wfld (upS.reg Reg.MSR_VIB_MODE) 5 0 ≠ wfld 0xFFFFFFFF#32 5 0 ∧
      wfld (upS.reg Reg.MSR_VIB_MODE) 5 0 = wfld (upS.reg Reg.MSR_VIB_MODE) 5 0) ∧
    (∀ b : Bool, (vibS b).vibSampling = true ∧ (vibS b).vibLive (3 : Fin 4) = true) ∧
    (vibS false).vibExcited (3 : Fin 4) = true ∧ State.reset.tileRuns = true ∧
    (∀ x ∈ [163839, 163840], let s : State := { put State.reset [(Reg.MSR_BLANK_CFG, 0x100#32)] with
        meas := { State.reset.meas with blankHold := true }, power := { up := x } }
      s.tileRuns = true ∧ s.meas.blankHold = true ∧ (s.fld Reg.MSR_BLANK_CFG 15 8 * 163840 ≤ s.power.up - s.meas.blankAt ↔ x = 163840)) ∧
    (let s : State := { vibS false with meas := { State.reset.meas with vib := [(3, { run := 4097, tick := some 0 })] } }
     s.tileRuns = true ∧ s.blankOpen = false ∧ (put s [(Reg.MSR_BLANK_CFG, 1#32)]).bit Reg.MSR_BLANK_CFG 0 = true ∧
     (s.vib (3 : Fin 4).val).tick = some s.power.up) := by decide +kernel

def precS (ph : ScanPhase) (cfg : Word) : State :=
  { put State.reset [(Reg.MSR_CTRL, 1#32)] with meas := { State.reset.meas with prec := { phase := ph, slot := 15, cfg0 := cfg } } }

theorem witness_PrecisionAndPulses_scan :
    ((precS .discharge 0#32).precOn = true ∧ (precS .discharge 0#32).meas.prec.phase = .discharge) ∧
    ((precS .settle 0#32).precOn = true ∧ (precS .settle 0#32).meas.prec.phase = .settle) ∧
    (let s := precS .lead 0x10000000#32; s.precOn = true ∧ s.meas.prec.cfg0.getLsbD 28 = true ∧ s.meas.prec.phase = .lead) ∧
    (let s := precS .convert 0x24000000#32
     s.precOn = true ∧ s.meas.prec.slot < 16 ∧ s.meas.prec.phase = .convert ∧ threeWire s.meas.prec.cfg0 = true) ∧
    (let s := precS .convert 0#32
     s.precOn = true ∧ s.meas.prec.slot < 16 ∧ s.meas.prec.phase = .convert ∧ threeWire s.meas.prec.cfg0 = false) := by decide +kernel

def plsS (last : Option Nat) (up : Nat) : State :=
  { put State.reset [(Reg.MSR_PLS_CFG 3, 0x80000000#32)] with
    meas := { State.reset.meas with pulses := if last = none then [] else [(3, { last := last })] }
    power := { up := up } }

theorem witness_PrecisionAndPulses_pulses :
    (let s := plsS none 5
     s.tileRuns = true ∧ s.edgeCounts (3 : Fin 4) true = true ∧ (s.pulse (3 : Fin 4)).last ≠ some s.power.up ∧ (s.pulse (3 : Fin 4)).last = none) ∧
    (let s := plsS (some 5) (2 ^ 32 + 5)
     s.tileRuns = true ∧ s.edgeCounts (3 : Fin 4) true = true ∧ (s.pulse (3 : Fin 4)).last ≠ some s.power.up ∧
     (s.pulse (3 : Fin 4)).last = some 5 ∧ s.rateTimeout (3 : Fin 4) ≤ s.power.up - 5) ∧
    (∀ on : Bool, let s : State := { State.reset with
        meas := { State.reset.meas with meters := [(1, { running := !on, start := 1, run := some (on, 2) })] }
        power := { up := 2 + 255 * tickHz } }
      s.tileRuns = true ∧ (s.meter (1 : Fin 2)).run = some (on, 2) ∧ s.runDwell * tickHz ≤ s.power.up - 2) := by decide +kernel

theorem witness_ThresholdSwitchesAndImage :
    (let s : State := { put State.reset [(Reg.MSR_CTRL, 2#32)] with
        meas := { State.reset.meas with switches := [(7, { cfg := 0x201#32, set := 5#32, dwell := 1#32, run := some (true, 0) })] }
        power := { up := 16384000 } }
     s.swOn = true ∧ (s.sw 7).live = true ∧ (s.sw 7).run = some (true, 0) ∧ (s.sw 7).dwell.toNat % 65536 * tickMs ≤ s.power.up - 0) ∧
    State.reset.power.tileUp = true ∧ State.reset.tileRuns = true ∧ State.reset.bit Reg.MSR_STATUS 1 = false ∧
    (let s : State := { put State.reset [(Reg.MSR_STATUS, 2#32)] with
        meas := { State.reset.meas with met := { State.reset.meas.met with saving := some [(Reg.MSR_CTRL, 1#32)] } } }
     s.power.tileUp = true ∧ s.meas.met.saving = some [(Reg.MSR_CTRL, 1#32)] ∧ s.bit Reg.MSR_STATUS 1 = true) := by decide +kernel

/-- A calibration image that passes every check: gains 1, offsets 0, no pulse roles, dwell 1 s, record period 1 min. -/
def calBits : Nat :=
  let n := pk ([(0, 0x4C414342), (32, 1), (48, 1), (896, 100000), (1152, 1), (1160, 1440), (1176, 1)] ++
    (List.range 12).map fun i => (160 + 64 * i, 0x40000000))
  n + crc32 (toBytes 252 n) * 2 ^ 2016

def metS (m : Metrology) : State := { State.reset with meas := { State.reset.meas with met := m } }

theorem witness_SealLogAndCheckpoints_seal :
    (State.reset.tileRuns = true ∧ State.reset.meas.met.session = false) ∧
    (let s := metS { session := true }
     s.tileRuns = true ∧ s.meas.met.session = true ∧ s.meas.met.calCheck true (BitVec.ofNat 2048 calBits).toNat = 1 ∧
     s.meas.met.calCheck false (0#2048).toNat ≠ 1) := by decide +kernel

theorem witness_SealLogAndCheckpoints_log :
    (let s : State := { metS { due := [{ typ := 6 }] } with power := { up := 1440 * 60 * tickHz } }
     s.tileRuns = true ∧ nfld s.calImg 1175 1160 * 60 * tickHz ≤ s.power.up - s.meas.met.lastPeriodic ∧ s.meas.met.cur = none ∧
     s.meas.met.kept = none ∧ s.meas.met.due = { typ := 6 } :: [] ∧ s.power.tileUp = true ∧ 60 * tickHz ≤ s.power.up - s.meas.met.lastCkpt) ∧
    (let s := metS { cur := some (5, 7) }; s.tileRuns = true ∧ s.meas.met.cur = some (5, 7)) ∧
    (let r := withCrc 1
     let s := put (metS { search := some 1, log := [(0, r)], ckptSearch := true, ckpt := [(767, r)] }) [(Reg.MSR_LOG_HEAD, 1#32)]
     s.tileRuns = true ∧ s.meas.met.search = some 1 ∧ 1 ≤ (s.reg Reg.MSR_LOG_HEAD).toNat ∧ s.meas.met.find 1 = some r ∧
     s.meas.met.ckptSearch = true ∧ s.meas.met.newestCkpt = some (767, r)) ∧
    (let s := metS { search := some 1, ckptSearch := true }
     s.tileRuns = true ∧ s.meas.met.find 1 = none ∧ s.meas.met.newestCkpt = none) := by decide +kernel

theorem witness_PowerRequestsAndWakes_main :
    (let s := put upS [(Reg.PWR_CFG, 1#32)]
     s.power.state = .run ∧ s.fld Reg.PWR_CFG 15 0 ≠ 0 ∧ s.hAnswers = true ∧ s.hIdle = true ∧ s.gateable = true ∧ Regs.wf s.regs = true ∧
     s.power.tileUp = true) ∧
    (let s := put upS [(Reg.PWR_CFG, 1#32), (Reg.MEM_LPDDR_STATUS, 2#32)]
     s.power.state = .run ∧ s.fld Reg.PWR_CFG 15 0 ≠ 0 ∧ s.hIdle = false ∧ s.power.tileUp = true) ∧
    (let s := put State.reset [(Reg.PWR_CFG, 1#32)]
     s.power.state ≠ .run ∧ s.power.state ≠ .hold ∧ s.fld Reg.PWR_CFG 15 0 ≠ 0 ∧ s.power.tileUp = true) ∧
    (let s : State := { put upS [(Reg.PWR_CFG, 0x10000#32)] with power := { upS.power with state := .hold } }
     s.power.state = .hold ∧ s.power.tileUp = true ∧ Regs.wf s.regs = true ∧ s.fld Reg.PWR_CFG 31 16 ≠ 0 ∧
     (∀ e ∈ s.sched.ctxs, e.2.mode = .idle)) ∧
    (Regs.wf State.reset.regs = true ∧ State.reset.power.tileUp = true ∧ State.reset.power.state = .dugout ∧
      State.reset.reg Reg.LRN_STEP = 0#32) ∧
    (∀ x ∈ [(none, false), (some SaveKind.header, false), (some .journal, true)],
      let s : State := { put State.reset [(Reg.LRN_STEP, 1#32)] with
        learn := { State.reset.learn with save := x.1.map fun k => { kind := k, epoch := 1 } } }
      s.reg Reg.LRN_STEP ≠ 0#32 ∧ s.learn.commitRuns = x.2 ∧ s.learn.save.isSome = x.1.isSome ∧ Regs.wf s.regs = true) := by
  decide +kernel

theorem witness_PowerRequestsAndWakes_wakes :
    let s (p : PwrState) : State := { put State.reset [(Reg.PWR_WAKE_EN, 0x34#32)] with power := { state := p } }
    (∀ p ∈ [PwrState.dugout, .dormant, .run, .hold], (s p).power.tileUp = true ∧ edgeWakes (s p) 2 8 true = true ∧
      edgeWakes (s p) 4 9 true = true ∧ edgeWakes (s p) 5 10 true = true ∧ (s p).power.pending = none) ∧
    (∀ q ∈ [none, some { target := 2, src := 8 }, some { target := 1, src := 0 }],
      let s : State := { State.reset with power := { state := .toDugout, pending := q } }
      s.power.tileUp = true ∧ s.power.state.stable = false ∧ s.power.slotTick ≠ some s.power.up ∧ s.power.pending = q) ∧
    (let s : State := { upS with power := { upS.power with state := .toHold } }
     s.power.tileUp = true ∧ s.power.state.stable = false ∧ s.reg Reg.CTL_EVT_EN = 0#32 ∧ s.power.slotTick ≠ some s.power.up ∧
     s.power.pending = none) ∧
    (let q : PwrReq := { target := 3, src := 8, cmd := true }
     let s : State := { put State.reset [(Reg.PWR_WAKE_EN, 0x34#32)] with
       power := { state := .toDugout, pending := some q, slotTick := some 0, slotReqs := [q] } }
     s.power.state.stable = false ∧ s.runOrHold = false ∧ edgeWakes s 5 10 true = true ∧ s.power.slotTick = some s.power.up ∧
     s.power.slotWas = none ∧ s.power.slotReqs = [q] ∧ q.src = 8 ∧ q.target ≠ 1) := by decide +kernel

theorem witness_MainSupplyAndTileRails :
    (Regs.wf upS.regs = true ∧ upS.power.tileUp = true ∧ upS.power.pgMain = true ∧ upS.power.state = .run) ∧
    (let s : State := { State.reset with power := { state := .toDugout, pgMain := true, minOff := true, pending := some { target := 1, src := 0 } } }
     s.power.tileUp = true ∧ s.power.state = .toDugout ∧ s.power.enables = false ∧ s.power.pgMain = true ∧ s.power.minOff = true ∧
     (∃ r : PwrReq, s.power.pending = some r ∧ r.target = 1 ∧ r.wake < 16)) ∧
    (let s : State := { State.reset with power := { state := .toDugout, minOff := false } }
     s.power.tileUp = true ∧ s.power.state = .toDugout ∧ s.power.enables = false ∧ s.power.pgMain = false ∧ s.power.pending = none) ∧
    (let s : State := { State.reset with power := { state := .toRun, enables := true } }
     Regs.wf s.regs = true ∧ s.power.state = .toRun ∧ s.power.enables = true ∧ s.power.pgMain = false) ∧
    (let s : State := { State.reset with power := { state := .toDormant }, meas := { State.reset.meas with met := { due := [] } } }
     s.power.state = .toDormant ∧ s.power.pgMain = false ∧ s.power.minOff = true ∧ s.power.pending = none ∧ s.learn.idle = true ∧
     s.meas.met.due = [] ∧ s.meas.met.cur = none ∧ s.meas.met.kept = none) ∧
    (State.reset.meas.met.img0 = none ∧ State.reset.meas.met.img1 = none) := by decide +kernel

theorem witness_ClockAndAlarm :
    let s (p : PwrState) (a : Word) : State :=
      { put State.reset [(Reg.PWR_ALARM_CFG, 3#32), (Reg.PWR_ALARM_LO, a)] with power := { state := p, rtcTick := 5 } }
    (∀ p ∈ [PwrState.dugout, .dormant, .run, .hold], (s p 5#32).power.tileUp = true ∧ (s p 5#32).bit Reg.PWR_ALARM_CFG 0 = true ∧
      rtcCount (s p 5#32).alarmTarget ≤ (s p 5#32).rtcTicks ∧ (s p 5#32).bit Reg.PWR_ALARM_CFG 1 = true) ∧
    (s .dugout 5#32).alarmTarget % 2 ^ 24 < tickHz ∧ tickHz ≤ (s .dugout 16384000#32).alarmTarget % 2 ^ 24 ∧
    ((((s .dugout 5#32).commitWords Reg.PWR_RTC_SET_LO 2 .bar0 7#32).getD 0 0#32).toNat + (7#32).toNat * 2 ^ 32) % 2 ^ 24 < tickHz ∧
    (let s := put State.reset [(Reg.PWR_RTC_SET_LO, 0xFFFFFF#32)]
     tickHz ≤ (((s.commitWords Reg.PWR_RTC_SET_LO 2 .bar0 0#32).getD 0 0#32).toNat + (0#32).toNat * 2 ^ 32) % 2 ^ 24) := by decide +kernel

/-- The event core in a window, group 0 with one synapse, group 15 without. -/
def winS (step : Nat) (regs : List (Nat × Word)) : State :=
  { put State.reset regs with learn := { State.reset.learn with
      burst := { phase := .window, step := step, win := 0x40#32 }, syn := [(0, { w := 1, en := true })], recovering := false } }

theorem witness_LfsrsLoadedAtEpochStart :
    (let s := winS 0 []
     s.tileRuns = true ∧ s.learn.burst.phase = .window ∧ s.learn.burst.step < s.learn.burst.w ∧ s.reg Reg.LRN_STEP = 0#32 ∧
     (∀ e ∈ s.learn.syn, e.1 / 16384 ≠ 15)) ∧
    (let s := put (winS 63 []) [(Reg.LRN_SEED, 0#32)]
     s.learn.burst.step < s.learn.burst.w ∧ (s.fld Reg.LRN_SEED 15 0 + 0x9E37 * (16 * (s.reg Reg.LRN_EPOCH).toNat + 0)) % 65536 = 0) := by
  decide +kernel

/-- The sentinel runs; a burst of channel 3, of 1,024 samples. -/
def senS (b : Burst) (regs : List (Nat × Word)) : State :=
  { put State.reset ([(Reg.LRN_CTRL, 1#32), (Reg.MSR_VIB_MODE, 0x10#32), (Reg.MSR_VIB_CFG 3, 1#32)] ++ regs) with
    learn := { State.reset.learn with burst := b, recovering := false } }

theorem witness_SentinelCycle_bursts :
    (State.reset.tileRuns = true ∧ State.reset.bit Reg.LRN_CTRL 0 = false ∧ (1#32).getLsbD 0 = true) ∧
    (let s := senS {} []
     s.sentinelOn = true ∧ s.nextDue ≤ (s.rtcTicks : Int) ∧ s.learn.burst.phase = .none ∧ s.burstMode = true) ∧
    (let s := senS { phase := .window } []; s.sentinelOn = true ∧ s.nextDue ≤ (s.rtcTicks : Int) ∧ s.learn.burst.phase ≠ .none) ∧
    (let s := senS { phase := .sampling, sent := 0x800000#32, first := [0, 0, 0, 0] } [(Reg.MSR_VIB_WIDX 3, 1024#32)]
     s.tileRuns = true ∧ s.learn.burst.phase = .sampling ∧ s.burstLive = [3] ∧ (∀ v ∈ s.burstLive, s.burstHas v = true)) ∧
    (let s := senS { phase := .judged, samples := [(3, [1#32])] } []
     s.tileRuns = true ∧ s.learn.burst.phase = .judged ∧ s.learn.burst.blanked = false ∧ s.learn.burst.samples ≠ []) ∧
    (let s := senS { phase := .features } []
     s.tileRuns = true ∧ s.learn.burst.phase = .features ∧ s.learn.burst.fault = false ∧ s.scorable = false) ∧
    (let s := senS { phase := .judged, blanked := true } []; s.tileRuns = true ∧ s.learn.burst.unpresented = true) := by decide +kernel

theorem witness_SentinelCycle_scores :
    (let s := put (senS { phase := .features } []) [(Reg.LRN_GRP_CFG 15, 0x400#32)]
     s.tileRuns = true ∧ s.learn.burst.phase = .features ∧ s.learn.burst.fault = false ∧ s.scorable = true) ∧
    (∀ an : Bool, let s : State := { winS 64 [(Reg.LRN_CTRL, 4#32), (Reg.LRN_SCORE_CFG, 1#32)] with
        learn := { (winS 64 []).learn with anomaly := an } }
      s.tileRuns = true ∧ s.learn.burst.phase = .window ∧ s.learn.burst.w ≤ s.learn.burst.step ∧
      s.fld Reg.LRN_SCORE_CFG 31 16 < s.fld Reg.LRN_SCORE_CFG 15 0 ∧ s.learn.anomaly = an ∧ s.bit Reg.LRN_CTRL 2 = true ∧
      s.power.state = .dugout) ∧
    (let s := winS 64 []; s.learn.burst.w ≤ s.learn.burst.step ∧ s.bit Reg.LRN_CTRL 2 = false) ∧
    (let s := winS 64 [(Reg.LRN_SCORE_CFG, 0x10001#32)]
     s.learn.burst.w ≤ s.learn.burst.step ∧ s.fld Reg.LRN_SCORE_CFG 15 0 ≤ s.fld Reg.LRN_SCORE_CFG 31 16) ∧
    (let s := senS { phase := .compared } []; s.tileRuns = true ∧ s.learn.burst.phase = .compared) ∧
    (∀ x ∈ [(63, 1), (64, 1), (64, 0), (0, 1)],
      let s := put State.reset [(Reg.LRN_RES_HEAD, BitVec.ofNat 32 x.1)]; s.tileRuns = true ∧ (s.reg Reg.LRN_RES_HEAD).toNat = x.1) := by
  decide +kernel

theorem witness_EventCoreAndModelAccess :
    (let s := winS 63 [(Reg.LRN_STEP, 4#32)]
     s.tileRuns = true ∧ s.learn.burst.phase = .window ∧ 63 = s.learn.burst.step ∧ 63 < s.learn.burst.w) ∧
    (∀ x ∈ [(4, SaveKind.header, true), (0xFFFFFFFF, .header, true), (4, .journal, false), (3, .header, false)],
      let s : State := { winS 0 [(Reg.LRN_STEP, BitVec.ofNat 32 x.1)] with
        learn := { (winS 0 []).learn with params := { epochCfg := 5#32 }, save := some { kind := x.2.1, epoch := 1 } } }
      s.tileRuns = true ∧ 0 < s.learn.burst.w ∧
      (decide (max 1 (wfld s.params.epochCfg 15 0) ≤ min (2 ^ 32 - 1) ((s.reg Reg.LRN_STEP).toNat + 1)) &&
        decide (wfld s.params.epochCfg 31 16 * tickHz ≤ s.power.up - s.learn.commitStart) && !s.learn.commitRuns) = x.2.2) ∧
    State.reset.tileRuns = true ∧ State.reset.bit Reg.LRN_CTRL 0 = false ∧ (put State.reset [(Reg.LRN_CTRL, 1#32)]).bit Reg.LRN_CTRL 0 = true ∧
    wfld 4353#32 12 0 ≤ 4353 ∧ 4353 < wfld 4354#32 12 0 := by decide +kernel

def savS (v : Save) (l : Learn) : State := { State.reset with learn := { l with save := some v, recovering := false } }

theorem witness_LearningStore_saves :
    (let s := savS { kind := .journal, epoch := 1 } {}
     s.tileRuns = true ∧ s.sweep.learn.forceCompact = false ∧
     s.sweep.learn.held + ((s.sweep.learn.changed.length + 11) / 12 + 1) ≤ 29088) ∧
    (let s := savS { kind := .journal, epoch := 1 } { jseq := 29088 }
     29088 < s.sweep.learn.held + ((s.sweep.learn.changed.length + 11) / 12 + 1)) ∧
    (let v : Save := { kind := .journal, epoch := 1, begun := true, todo := [7], tries := 1 }
     let s := savS v { syn := [(7, { w := 1, chg := true })] }
     s.tileRuns = true ∧ v.todo ≠ [] ∧ v.tries < 2) ∧
    (let v : Save := { kind := .journal, epoch := 1, begun := true, tries := 2 }
     let s := savS v {}
     v.todo = [] ∧ 2 ≤ v.tries ∧ s.power.state ≠ .toDormant) ∧
    (∀ x ∈ [(SaveKind.compaction, 9215, 0), (.model, 9215, 2), (.compaction, 9279, 2), (.model, 9279, 0), (.header, 63, 0), (.header, 0, 2)],
      let v : Save := { kind := x.1, epoch := 1, begun := true, part := x.2.1, tries := x.2.2 }
      let s := savS v {}
      let n := if v.kind = .header then 0 else 9216
      s.tileRuns = true ∧ s.learn.save = some v ∧ (v.kind = .header ∨ v.kind = .compaction ∨ v.kind = .model) ∧
      (v.part < n ∨ v.part + 1 = n + 64 ∨ 2 ≤ v.tries) ∧ s.power.state ≠ .toDormant) := by decide +kernel

/-- A header copy: magic and version, the rest 0 but for its CRC, in the first and the last of its 64 rows. -/
def hdrBits : Nat := 0x4844524C + 2 ^ 32
def hdrCrc : Nat := 1216713417
def hdrFull : Nat := hdrBits + hdrCrc * 256 ^ 4092
def hdrS : State :=
  { State.reset with learn := { State.reset.learn with nvs := [(0, hdrBits), (63, hdrCrc * 2 ^ 480)] } }

theorem toBytes_add (k n c : Nat) : toBytes k (n + c * 256 ^ k) = toBytes k n := by
  induction k generalizing n with
  | zero => rfl
  | succ k ih =>
    have h : n + c * 256 ^ (k + 1) = n + (c * 256 ^ k) * 256 := by rw [Nat.pow_succ, Nat.mul_assoc]
    rw [h]
    simp only [toBytes, Nat.add_mul_div_right _ _ (by decide : 0 < 256), ih]
    congr 1
    apply BitVec.eq_of_toNat_eq
    simp [BitVec.toNat_ofNat]

theorem toBytes_split (a b n : Nat) : toBytes (a + b) n = toBytes a n ++ toBytes b (n / 256 ^ a) := by
  induction a generalizing n with
  | zero => simp [toBytes]
  | succ a ih =>
    rw [Nat.succ_add]
    simp only [toBytes, ih, List.cons_append, Nat.pow_succ, Nat.mul_comm (256 ^ a), Nat.div_div_eq_div_mul]

theorem toBytes_zero (b : Nat) : toBytes b 0 = List.replicate b 0#8 := by
  induction b with
  | zero => rfl
  | succ b ih => simp only [toBytes, Nat.zero_div, ih, List.replicate_succ]

/-- The CRC register over runs of 64 zero bytes. -/
def crcRuns : List Nat := [
  559590237, 1602754231, 4039637878, 1105997308, 2821414705, 656273507, 3368592817, 3290721615, 2692933433, 163781746,
    2708629627, 1020178831, 508870651, 3726064470, 199690044, 1894002172, 1831754516, 4094841774, 640996418, 4223746487,
    554183555, 427594760, 1807425338, 743682282, 139969113, 2722879509, 707159494, 3978864394, 3428322715, 2762163881,
    2539922169, 3525423870, 3868038325, 1770315153, 914978120, 1172011639, 2875868606, 1089888536, 3202864668, 1795915200,
    1390213141, 3359279939, 2001142478, 2432009004, 3322107950, 3893397495, 386002643, 4122375362, 3960005424, 3024707701,
    2794167182, 3555716320, 548552273, 10287163, 2114592140, 3640604175, 313893368, 1973917997, 1272036073, 3583807332,
    3564797475, 1730688782, 3870311504, 3078253878]

theorem crcRuns_step : (crcRuns.zip crcRuns.tail).all (fun p =>
    (List.replicate 64 0#8).foldl (crcByte 0xEDB88320) p.1 == p.2) = true := by decide +kernel

theorem crcRuns_fold (l : List Nat) (c : Nat)
    (h : ((c :: l).zip l).all (fun p => (List.replicate 64 0#8).foldl (crcByte 0xEDB88320) p.1 == p.2) = true) :
    (List.replicate (64 * l.length) 0#8).foldl (crcByte 0xEDB88320) c = l.getLastD c := by
  induction l generalizing c with
  | nil => rfl
  | cons d l ih =>
    simp only [List.zip_cons_cons, List.all_cons, Bool.and_eq_true, beq_iff_eq] at h
    have e : List.replicate (64 * (d :: l).length) 0#8 = List.replicate 64 0#8 ++ List.replicate (64 * l.length) 0#8 := by
      rw [List.replicate_append_replicate, List.length_cons, Nat.mul_succ, Nat.add_comm]
    rw [e, List.foldl_append, h.1, ih d h.2]
    cases l <;> rfl

theorem crc_append (l m : List Byte) (c : Nat) (h : l.foldl (crcByte 0xEDB88320) 0xFFFFFFFF = c) :
    crc32 (l ++ m) = m.foldl (crcByte 0xEDB88320) c ^^^ 0xFFFFFFFF := by
  rw [← h, ← List.foldl_append]
  rfl

theorem toBytes_hdrFull : toBytes 4092 hdrFull = (toBytes 8 hdrBits ++ List.replicate 52 0#8) ++ List.replicate 4032 0#8 := by
  have h := toBytes_add 4092 hdrBits hdrCrc
  have h2 := toBytes_split 8 4084 hdrBits
  have z : hdrBits / 256 ^ 8 = 0 := by decide
  rw [z, toBytes_zero, show 4084 = 52 + 4032 from rfl, ← List.replicate_append_replicate, ← List.append_assoc] at h2
  exact h.trans h2

theorem crc32_hdrFull : crc32 (toBytes 4092 hdrFull) = hdrCrc := by
  have h1 : (toBytes 8 hdrBits ++ List.replicate 52 0#8).foldl (crcByte 0xEDB88320) 0xFFFFFFFF = 559590237 := by decide +kernel
  have h2 := crcRuns_fold crcRuns.tail 559590237 crcRuns_step
  have h3 : 64 * crcRuns.tail.length = 4032 := by decide
  rw [h3] at h2
  rw [toBytes_hdrFull, crc_append _ _ _ h1, h2]
  decide +kernel

theorem hdrCopy_hdrS : hdrS.learn.hdrCopy 0 = hdrFull := by decide +kernel

theorem pickHeader_hdrS : hdrS.learn.pickHeader = some (hdrFull, false) := by
  have h1 : hdrValid hdrFull = true := by
    unfold hdrValid
    rw [crc32_hdrFull]
    decide +kernel
  have h2 : hdrValid (hdrS.learn.hdrCopy 1) = false := by decide +kernel
  unfold Learn.pickHeader
  rw [hdrCopy_hdrS]
  simp only [h1, h2, if_true, Bool.false_and, Bool.false_eq_true, if_false]

theorem witness_LearningStore_recovery :
    (∀ b : Bool, let s : State := { State.reset with learn := { State.reset.learn with cfgReq := b } }
      s.tileRuns = true ∧ s.learn.recovering = true ∧ s.learn.pickHeader = none ∧ s.learn.cfgReq = b) ∧
    hdrS.tileRuns = true ∧ hdrS.learn.recovering = true ∧ hdrS.learn.pickHeader = some (hdrFull, false) ∧
    ({ hdrS.learn with cfgReq := true } : Learn).pickHeader = some (hdrFull, false) :=
  ⟨by decide +kernel, by decide, by decide, pickHeader_hdrS, pickHeader_hdrS⟩

theorem witness_LearningStore_commands :
    (State.reset.tileRuns = true ∧ State.reset.learn.recovering = true) ∧
    (let s : State := { State.reset with learn := { State.reset.learn with recovering := false } }
     s.bit Reg.LRN_CTRL 0 = false ∧ s.learn.idle = true ∧ s.learn.save = none ∧ s.learn.waiting = none ∧ s.learn.recovering = false ∧
     s.learn.commitRuns = false ∧ s.learn.noModel = false ∧ s.reg Reg.LRN_STEP = 0#32) ∧
    (let s := put State.reset [(Reg.LRN_STEP, 1#32), (Reg.LRN_RELEARN, 0x8000#32), (Reg.NVS_BANK_FAIL, 0x8000#32)]
     s.learn.save = none ∧ s.reg Reg.LRN_STEP ≠ 0#32 ∧ (∃ b < 16, s.bit Reg.LRN_RELEARN b = true ∧ s.bit Reg.NVS_BANK_FAIL b = true)) ∧
    (let l := (savS { kind := .journal, epoch := 1 } {}).learn
     l.save.isSome = true ∧ l.noModel = false ∧ l.idle = false ∧ l.commitRuns = true) := by decide +kernel

def safS (f : FaultReport) (regs : List (Nat × Word)) : State :=
  { put (qS [(0, leadC .ready)] []) regs with safety := { inbox := [f] } }

theorem witness_DangerousFaultsAndRecovery_fault :
    (let s := safS { src := 3, link := some 0 } [(Reg.SAF_CTRL, 0x60#32)]
     s.mainUp = true ∧ s.safety.inbox = { src := 3, link := some 0 } :: [] ∧ s.bit Reg.SAF_FAULT 0 = false ∧ s.bit Reg.SAF_CTRL 6 = true ∧
     s.needsDieReset { src := 3, link := some 0 } = true ∧ 0 ∈ s.affected { src := 3, link := some 0 } ∧ s.bound 0 = true) ∧
    (let s := safS { src := 1, unit := some 0 } [(Reg.SAF_CTRL, 0x20#32), (Reg.SAF_FAULT, 1#32)]
     s.bit Reg.SAF_FAULT 0 = true ∧ s.needsDieReset { src := 1, unit := some 0 } = false ∧ s.bit Reg.SAF_CTRL 5 = true ∧
     s.suspectsOf { src := 1, unit := some 0 } ≠ [] ∧ s.recState ≠ 5 ∧ s.bit Reg.SAF_CTRL 6 = false) ∧
    (let s := safS { src := 0x0F } []; s.needsDieReset { src := 0x0F } = false ∧ s.suspectsOf { src := 0x0F } = []) := by decide +kernel

theorem witness_DangerousFaultsAndRecovery_bist :
    let s := put upS [(Reg.SAF_CTRL, 0x10#32)]
    s.mainUp = true ∧ s.power.state ≠ .hold ∧ s.bit Reg.SAF_CTRL 4 = true ∧
    (∀ x ∈ [0, 0x810], s.bistUnit (BitVec.ofNat 12 x).toNat = true ∧ s.bistIdle (BitVec.ofNat 12 x).toNat = true) ∧
    s.spareOf? (0x810#12).toNat = some 0x810 ∧ s.spareOf? (0#12).toNat = none := by decide +kernel

def recS (st : Nat) (sus : List Nat) : State :=
  { put upS [(Reg.SAF_REC_STATUS, BitVec.ofNat 32 st)] with safety := { suspects := sus } }

theorem witness_DangerousFaultsAndRecovery_sequence :
    (let s := recS 2 [0x0FF]
     s.mainUp = true ∧ s.recState = 2 ∧ s.fld Reg.SAF_REC_STATUS 5 3 = 0 ∧ s.safety.failedUnits = [] ∧
     (∀ x ∈ [0], (BitVec.ofNat 12 x).toNat ∉ s.safety.suspects)) ∧
    (let s := recS 1 [0x810]
     s.mainUp = true ∧ s.recState = 1 ∧ s.fld Reg.SAF_REC_STATUS 5 3 = 0 ∧ s.safety.failedUnits = [] ∧
     s.safety.suspects = [(0x810#12).toNat] ∧ s.idleUnit (0x810#12).toNat = true ∧ s.spareOf? (0x810#12).toNat = some 0x810 ∧
     s.coreAt (0x810#12).toNat = some 1 ∧ s.safety.heldCores.contains 1 = false) ∧
    (let s := recS 2 [(0x780#12).toNat]
     s.recState = 2 ∧ s.fld Reg.SAF_REC_STATUS 5 3 = 0 ∧ s.safety.failedUnits = [] ∧ s.safety.suspects = [(0x780#12).toNat] ∧
     uEng (0x780#12).toNat ≠ 0x1F ∧ s.coreAt (0x780#12).toNat = some 0 ∧ s.engAt (0x780#12).toNat = some (16 * 0 + 15) ∧
     s.safety.heldCores.contains 0 = false ∧ s.spareEngFree 0 = true) ∧
    (let s := recS 11 []
     s.mainUp = true ∧ s.recState = 3 ∧ s.fld Reg.SAF_REC_STATUS 5 3 ≠ 0 ∧ s.takes Reg.SAF_REC_STATUS = true) ∧
    ((recS 4 []).takes Reg.SAF_REC_STATUS = true ∧ (recS 4 []).recState = 4) ∧
    (upS.takes Reg.SAF_RESET = true ∧ wfld 0x10D1E#32 15 0 = 0x0D1E ∧ (0x10D1E#32).getLsbD 16 = true ∧ wfld 0x0D1E#32 15 0 = 0x0D1E ∧
      (0x0D1E#32).getLsbD 16 = false ∧ wfld 0x10D1F#32 15 0 ≠ 0x0D1E) := by decide +kernel

def digR (d : Nat) : DigestRec := { d := d, index := 5, id := 3, kind := 0, sat := false, rows := 2 }

/-- Doubles over a pair link that is up. -/
def dblS (x : Safety) : State := { put upS [(Reg.SAF_CTRL, 0xA#32), (Reg.LNK_STATUS 3, 1#32)] with safety := x }

theorem witness_DoublesGoldenAndTest_records :
    (let s := dblS { forming := [digR 1] }
     s.mainUp = true ∧ s.safety.forming = digR 1 :: [] ∧ s.modeAct = 2 ∧ (∀ m ∈ s.safety.table, m.dig.sameKey (digR 1) = false)) ∧
    (let s : State := { upS with safety := { forming := [digR 1] } }; s.safety.forming = digR 1 :: [] ∧ s.inDoubles = false) ∧
    (dblS {}).inDoubles = true ∧
    (let s : State := { put upS [(Reg.SAF_CTRL, 2#32)] with safety := { forming := [digR 1] } }
     s.mainUp = true ∧ s.inDoubles = true ∧ s.modeAct ≠ 2) ∧
    (let s := dblS { table := [{ dig := digR 1, peer := true }] }
     s.mainUp = true ∧ s.modeAct = 2 ∧ (∃ m ∈ s.safety.table, m.peer = true ∧ m.dig.sameKey (digR 1) = true)) ∧
    (∀ d ∈ [1, 2], let s := dblS { table := [{ dig := digR 1, peer := false }] }
      (∀ m ∈ s.safety.table, m.dig.sameKey (digR d) = true → m.peer = false) ∧
      s.safety.table.find? (fun m => m.dig.sameKey (digR d)) = some { dig := digR 1, peer := false } ∧
      (digR 1).agrees (digR d) = decide (d = 1)) ∧
    ((dblS {}).safety.table.find? (fun m => m.dig.sameKey (digR 1)) = none) := by decide +kernel

theorem witness_DoublesGoldenAndTest_golden (base cfg : Word) (b : Bool)
    (h : (base, cfg, b) ∈ [(0x1000000#32, 0#32, false), (0#32, 0x100#32, true), (0#32, 0#32, true)]) :
    let s : State := { put upS [(Reg.SAF_GOLD_BASE_LO, base), (Reg.SAF_GOLD_CFG, cfg)] with safety := { golden := [digR 1] } }
    s.mainUp = true ∧ s.safety.golden = digR 1 :: [] ∧ s.Quiet ∧ (s.rangeFault (s.goldAddr (digR 1).index) 32).isNone = b ∧
    s.bit Reg.SAF_GOLD_CFG 8 = cfg.getLsbD 8 := by
  simp only [List.mem_cons, Prod.mk.injEq, List.not_mem_nil, or_false] at h
  rcases h with ⟨rfl, rfl, rfl⟩ | ⟨rfl, rfl, rfl⟩ | ⟨rfl, rfl, rfl⟩ <;>
    exact ⟨by decide +kernel, by decide +kernel, quiet_of _ (by decide +kernel), by decide +kernel, by decide +kernel⟩

theorem witness_DoublesGoldenAndTest_golden_keys :
    let g (n : Nat) : State := { upS with mem := cells 0 [n] }
    (recOf ((g (digR 1).bits).readNat 0 32)).sameKey (digR 1) = true ∧ (recOf ((g 0).readNat 0 32)).sameKey (digR 1) = false := by
  decide +kernel

theorem witness_DoublesGoldenAndTest_registers :
    (∀ a ∈ [Reg.SAF_CTRL, Reg.TST_KEY, Reg.TST_DIG, Reg.TST_ECC, Reg.TST_FAULT], upS.takes a = true) ∧ upS.safety.tstUnlocked = false ∧
    (let s : State := { upS with safety := { tstUnlocked := true } }
     s.takes Reg.TST_DIG = true ∧ s.takes Reg.TST_FAULT = true ∧ s.safety.tstUnlocked = true) ∧ wfld 3#32 1 0 = 3 := by decide +kernel

/-- Both listeners enabled: the H-die at 0x11, the tile at 0x22. -/
def riS (l : Listener) : State :=
  { put upS [(Reg.CTL_RI_ADDR, 0x2211#32)] with host := { m := l } }

def riCrc (dest cmd tag addr : Nat) (data : Word) : BitVec 8 :=
  BitVec.ofNat 8 (crc8 (frameBytes dest (cmd + tag * 16) addr data))

theorem kept_none (s : State) (tile : Bool) (q : RiathReq) (h : (s.listener tile).kept = none) :
    ∀ r : RiathResp, (s.listener tile).kept ≠ some (q, r) := by
  intro r e
  rw [h] at e
  cases e

theorem witness_RiathPort_requests :
    let s := riS {}
    s.riTarget (0x11#7).toNat = some false ∧ s.riTarget (0x22#7).toNat = some true ∧
    (∀ cmd ∈ [1, 2, 3], ({ dest := 0x22, req := { cmd := cmd, tag := 15, addr := Reg.PWR_CFG, data := 7#32 }
                           crc := (riCrc 0x22 cmd 15 Reg.PWR_CFG 7#32).toNat } : RiathFrame).ok = true) ∧
    s.regThere true .riath Reg.PWR_CFG = true ∧ s.regThere true .riath 0xFFFF = false ∧
    (s.listener true).kept = none ∧ ¬(1 ≤ (15#4).toNat ∧ (15#4).toNat ≤ 3) := by decide +kernel

theorem witness_RiathPort_kept :
    let q : RiathReq := { cmd := 1, tag := 0, addr := 0, data := 0#32 }
    let r : RiathResp := { status := 0, rep := false, tag := 0, addr := 0, data := 5#32 }
    let s := riS { kept := some (q, r), out := [r] }
    s.riTarget (0x22#7).toNat = some true ∧ (s.listener true).kept = some (q, r) ∧ (s.listener true).out = r :: [] ∧
    ({ dest := 0x22, req := q, crc := (riCrc 0x22 1 0 0 0#32).toNat } : RiathFrame).ok = true ∧
    ({ dest := 0x22, req := q, crc := (riCrc 0x22 1 0 0 0#32).toNat ^^^ 1 } : RiathFrame).ok = false := by decide +kernel

theorem witness_RiathPort_wake :
    let s : State := put State.reset [(Reg.CTL_RI_ADDR, 0x2211#32), (Reg.PWR_WAKE_EN, 1#32)]
    s.riTarget (0x11#7).toNat = none ∧
    ({ dest := 0x11, req := { cmd := 1, tag := 0, addr := 0, data := 0#32 }, crc := (riCrc 0x11 1 0 0 0#32).toNat } : RiathFrame).ok = true ∧
    s.power.tileUp = true ∧ s.riEnabled false = true ∧ s.riOwn false = (0x11#7).toNat ∧ s.power.state = .dugout ∧ s.bit Reg.PWR_WAKE_EN 0 = true ∧
    upS.hAnswers = true ∧ State.reset.riTarget (0x11#7).toNat = none ∧ State.reset.bit Reg.PWR_WAKE_EN 0 = false := by decide +kernel

theorem witness_RiathPort_line : (List.replicate 9 255).length = 9 ∧ (lineFrame (List.replicate 9 255)).length = 74 ∧
    (lineFrame (255 :: List.replicate 8 0)).length = 72 := by decide +kernel

def pcieS (h : HostLink) : State := { upS with host := h }

theorem witness_HostLinkCommands :
    (upS.hAnswers = true ∧ (upS.rangeFault (upS.winAddr (0xFFFFFC#28).toNat) 4).isNone = true ∧ upS.winAddr (0xFFFFFC#28).toNat + 4 ≤ 2 ^ 63 ∧
      (upS.rangeFault (upS.winAddr (0xFFFFFD#28).toNat) 4).isNone = false) ∧
    (let s := put upS [(Reg.CTL_WIN_BASE_LO + 1, 0x80000000#32)]; s.hAnswers = true ∧ 2 ^ 63 < s.winAddr (0#28).toNat + 1) ∧
    (let s := pcieS { up := true }
     s.mainUp = true ∧ s.host.up = true ∧ s.host.owed = false ∧ s.host.pend = 0#32) ∧
    (let s := pcieS { bme := true, owed := true }
     s.mainUp = true ∧ s.domHeld 10 = false ∧ s.host.owed = true ∧ ({ s.host with up := true } : HostLink).reach = true) ∧
    (∀ b : Bool, let s := pcieS { up := true, bme := b, msixEn := true, pend := 0x80000000#32 }
      s.mainUp = true ∧ s.host.up = true ∧ s.host.pend.getLsbD (31 : Fin 32) = true ∧ s.host.msixEn = true ∧ s.host.fnMask = false ∧
      s.host.reach = b) := by decide +kernel

theorem witness_HostLinkCommands_quiet : upS.Quiet := quiet_of _ (by decide +kernel)

/-! ### Single commands, with results worked out from the manual -/

/-- The command at the front of the queue runs with the rest of the queue (log entry 2 for an empty one). -/
theorem test_step_takes_the_front :
    next (step { State.reset with pending := [.synClr, .lnkClr] }) (fun t => t.pending == [.lnkClr]) = true := by
  decide +kernel
theorem test_step_ticks_on_an_empty_queue :
    next (step State.reset) (fun t => t.power.rtcTick == 1 && t.pending == []) = true := by decide +kernel

/-- R239: an add of 3 raises the counter by 3 and records its source. -/
theorem test_counter_add :
    next (exec (.counterAdd 5 3 0x1007) (put upS [(Reg.CTL_ROOT_STATUS, 4#32)]))
      (fun t => (t.sync.ctrs.look {} 5).v == 3 && (t.sync.ctrs.look {} 5).lastUnit == 0x1007) = true := by decide +kernel

/-- R253: a write of 4 to SYN_ADD9 through BAR0 adds 4 as unit 0x3000. -/
theorem test_host_add :
    next (exec (.hostAdd .bar0 9 4) (put upS [(Reg.CTL_ROOT_STATUS, 4#32)]))
      (fun t => (t.sync.ctrs.look {} 9).v == 4 && (t.sync.ctrs.look {} 9).lastUnit == 0x3000) = true := by decide +kernel

/-- The worked example of R249: cluster 4 forwards round 7 when its second child arrives, and its base moves to 8. -/
theorem test_huddle_node_forwards :
    next (exec (.huddleNodeArrive 0)
        { upS with sync :=
            { ctrs := [(5, { huddle := true, v := 24 })]
              huddles := [(5, { ctxMask := 2 ^ 68 + 2 ^ 72, n := 2, nodes := [(4, { b := 7, mask0 := [68], cnt0 := 1 })] })]
              arrivals := [{ root := 5, node := 4, child := 72, tag := 7, weight := 1, unit := 0x1048, ctx := some 72 }] } })
      (fun t => ((t.sync.huddles.look {} 5).nodes.look {} 4).b == 8 &&
        t.sync.arrivals.map (fun a => (a.node, a.tag, a.weight)) == [(16, 7, 2)]) = true := by decide +kernel

/-- R317: with no rate correction and nothing to slew, a cycle adds 2 ns. -/
theorem test_timebase_cycle :
    next (exec .timebaseCycle { put upS [(Reg.CLK_SRC, 0x20000#32)] with time := { counting := true } })
      (fun t => t.time.ns == 2 && t.time.frac == 0) = true := by decide +kernel

/-- R522: IRQ_N needs an event that is raised and enabled. -/
theorem test_irq_needs_an_enabled_event :
    (put upS [(Reg.CTL_EVT_CFG, 1#32), (Reg.CTL_EVT_EN, 1#32), (Reg.SAF_FAULT, 1#32)]).irqLow = true ∧
    (put upS [(Reg.CTL_EVT_CFG, 1#32), (Reg.CTL_EVT_EN, 2#32), (Reg.SAF_FAULT, 1#32)]).irqLow = false := by decide +kernel

/-- R519, R521: a raised event that becomes enabled sends one message on its vector; a masked vector pends instead. -/
theorem test_event_message :
    next (exec (.eventEnableWrite .bar0 1#32)
        { put upS [(Reg.SAF_FAULT, 1#32)] with host := { up := true, bme := true, msixEn := true, vecMask := 0 } })
      (fun t => t.host.posted == [.msix 0]) = true ∧
    next (exec (.eventEnableWrite .bar0 1#32)
        { put upS [(Reg.SAF_FAULT, 1#32)] with host := { up := true, bme := true, msixEn := true } })
      (fun t => t.host.posted == [] && t.host.pend == 1#32) = true := by decide +kernel

end Sys2Proof.Tests
end

section
/-! The power controller, the settled state and the answer of a command: what every access shares. -/

namespace Sys2Proof.Machine

variable (s : State)

/-! ### What an activity does to the power controller (R428, R435) -/

/-- The slot of latched requests (R435) before those of the present cycle. -/
def Power.slotBefore (p : Power) : Option PwrReq := if p.slotTick == some p.up then p.slotWas else p.pending

/-- The requests latched in the present cycle so far. -/
def Power.slotNow (p : Power) : List PwrReq := if p.slotTick == some p.up then p.slotReqs else []

/-- The power controller with a request latched. -/
def Power.latched (p : Power) (r : PwrReq) : Power :=
  { p with
    pending := ((r.insert p.slotNow).foldl slotTake (p.slotBefore, none)).1
    slotTick := some p.up, slotWas := p.slotBefore, slotReqs := r.insert p.slotNow }

theorem latchReq_power (r : PwrReq) : (s.latchReq r).power = s.power.latched r := by
  unfold State.latchReq
  dsimp only
  split <;> rfl

/-- A request latched twice in one cycle is latched once. -/
theorem latched_latched (p : Power) (r : PwrReq) : (p.latched r).latched r = p.latched r := by
  simp [Power.latched, Power.slotBefore, Power.slotNow, insert_insert]

/-- The power controller after an activity. -/
def Power.active (p : Power) : Power :=
  if p.state = .hold then { p with state := .fromHold }
  else if p.state = .toHold then p.latched { target := 1, src := 10, time := (p.rtcSec % 2 ^ 40) * 2 ^ 24 + p.rtcTick }
  else p

/-- What an activity makes of the power controller depends on the power controller alone. -/
theorem activity_power : s.activity.power = s.power.active := by
  unfold State.activity Power.active
  split
  · next h => rw [if_pos h]
  · next h => rw [if_neg (by simp [h]), if_pos h, latchReq_power]; rfl
  · next h h' => rw [if_neg h, if_neg h']

/-- An activity starts the exit from HOLD and leaves every other state of the power controller. -/
theorem active_state (p : Power) : p.active.state = if p.state = .hold then .fromHold else p.state := by
  unfold Power.active
  split
  · rfl
  · split <;> rfl

/-- A second activity adds nothing. -/
theorem active_active (p : Power) : p.active.active = p.active := by
  by_cases h : p.state = .hold
  · simp [Power.active, h]
  · by_cases h' : p.state = .toHold
    · have e : ∀ r, (p.latched r).active = (p.latched r).latched
          { target := 1, src := 10, time := (p.rtcSec % 2 ^ 40) * 2 ^ 24 + p.rtcTick } := by
        intro r
        simp [Power.active, Power.latched, h']
      have a : p.active = p.latched { target := 1, src := 10, time := (p.rtcSec % 2 ^ 40) * 2 ^ 24 + p.rtcTick } := by
        rw [Power.active, if_neg h, if_pos h']
      rw [a, e, latched_latched]
    · simp [Power.active, h, h']

theorem powerFrom_iff (t : State) : s.PowerFrom t ↔ t.power = s.power ∨ t.power = s.power.active := by
  rw [State.PowerFrom, activity_power]

variable {s}

theorem State.PowerFrom.refl {t : State} (h : t.power = s.power) : s.PowerFrom t := .inl h

theorem State.PowerFrom.congr {t u : State} (h : s.PowerFrom t) (e : u.power = t.power) : s.PowerFrom u := by
  rw [State.PowerFrom, e]
  exact h

theorem powerFrom_activity : s.PowerFrom s.activity := .inr rfl

/-- What follows a command is at most one more activity. -/
theorem State.PowerFrom.settle {v : State} (h : s.PowerFrom v) : s.PowerFrom v.settle := by
  rw [powerFrom_iff] at h ⊢
  have hs := settle_power v
  rw [activity_power] at hs
  rcases hs with hs | hs <;> rcases h with h | h <;> simp [hs, h, active_active]

/-- Whether HOLD is being entered does not change by an activity. -/
theorem State.PowerFrom.toHold_iff {v : State} (h : s.PowerFrom v) : v.power.state = .toHold ↔ s.power.state = .toHold := by
  rw [powerFrom_iff] at h
  rcases h with h | h
  · rw [h]
  · rw [h, active_state]
    split
    · next e => simp [e]
    · rfl

variable (s)

theorem mem_latchRegs (a : Nat) : a ∈ s.latchRegs ↔ s.power.state = .toHold ∧ a = Reg.PWR_STATUS := by
  unfold State.latchRegs
  split <;> simp [*]

/-- The registers that an activity leaves. -/
theorem activity_reg_of_notMem {a : Nat} (h : a ∉ s.latchRegs) : s.activity.reg a = s.reg a := by
  rw [mem_latchRegs, Classical.not_and_iff_not_or_not] at h
  exact activity_reg s a h.symm

/-- The registers that stay when events follow a command. -/
theorem settle_reg_of_notMem {v : State} (hp : s.PowerFrom v) {a : Nat} (h : a ∉ s.latchRegs) : v.settle.reg a = v.reg a := by
  rw [mem_latchRegs, ← hp.toHold_iff, Classical.not_and_iff_not_or_not] at h
  exact settle_reg v a h.symm

/-! ### The frame of a command -/

/-- The host link after a command is that of its effect with the event messages added (R521). -/
theorem settle_host : s.settle.host = ({ s.settle with host := s.host } : State).afterEvents := by
  unfold State.settle
  dsimp only
  split
  · rw [← activity_host s]
  · rfl

/-- A command whose effect leaves the host link shows it event messages only. -/
theorem eventsFrom_settle {v : State} (h : v.host = s.host) : s.EventsFrom v.settle := by
  rw [State.EventsFrom, ← h]
  exact settle_host v

/-- What follows a command leaves every part but registers, host link and power controller. -/
theorem settle_eq_of {v u : State} (h : v = { u with regs := v.regs, power := v.power, host := v.host }) :
    v.settle = { u with regs := v.settle.regs, power := v.settle.power, host := v.settle.host } := by
  refine (settle_frame v).trans ?_
  generalize v.settle = t
  rw [h]

/-- The frame of a command from that of its effect. -/
theorem keeps_settle {v u : State} {changed : List Nat} (hp : s.PowerFrom v) (hu : u.power = s.power)
    (he : v.settle = { u with power := v.settle.power }) (hr : ∀ a, a ∉ changed → a ∉ s.latchRegs → v.reg a = s.reg a) :
    s.Keeps v.settle u changed := by
  have hl : u.latchRegs = s.latchRegs := by rw [State.latchRegs, hu]; rfl
  have hg : v.settle.regs = u.regs := by rw [he]
  refine ⟨by rw [hg]; exact he, fun _ => hg, ?_, ?_⟩
  · have := hp.settle
    rwa [powerFrom_iff, ← hu, ← powerFrom_iff] at this
  · intro a ha
    rw [hl, List.mem_append, not_or] at ha
    rw [settle_reg_of_notMem s hp ha.2]
    exact hr a ha.1 ha.2

/-- The frame of a command whose effect changes registers only. -/
theorem onlyRegs_settle {v : State} {changed : List Nat} (hv : v = { s with regs := v.regs, power := v.power })
    (hp : s.PowerFrom v) (hr : ∀ a, a ∉ changed → a ∉ s.latchRegs → v.reg a = s.reg a) : s.OnlyRegs v.settle changed := by
  have hh : v.host = s.host := by rw [hv]
  refine ⟨keeps_settle s hp rfl ?_ hr, eventsFrom_settle s hh⟩
  exact settle_eq_of (u := s) (by rw [hh]; exact hv)

/-- An answer of a command that the device takes. -/
theorem answers_done {v : State} {P : State → Prop} (h : P v.settle) : Answers (done v) P := ⟨v.settle, rfl, h⟩

end Sys2Proof.Machine
end

section
/-! Accesses and access errors (R8, R15, R527). -/

namespace Sys2Proof.Machine

variable (s : State)

/-! ### An access reaches its listener -/

theorem reached_frame (p : Path) (a : Nat) :
    s.reached p a = { s with regs := (s.reached p a).regs, power := (s.reached p a).power } := by
  unfold State.reached
  split
  · rfl
  · exact activity_frame s

theorem reached_powerFrom (p : Path) (a : Nat) : s.PowerFrom (s.reached p a) := by
  unfold State.reached
  split
  · exact .refl rfl
  · exact powerFrom_activity

theorem reached_reg_of_notMem (p : Path) (a : Nat) {b : Nat} (h : b ∉ s.latchRegs) : (s.reached p a).reg b = s.reg b := by
  unfold State.reached
  split
  · rfl
  · exact activity_reg_of_notMem s h

@[simp] theorem reached_host (p : Path) (a : Nat) : (s.reached p a).host = s.host := by rw [reached_frame]
@[simp] theorem reached_wide (p : Path) (a : Nat) : (s.reached p a).wide = s.wide := by rw [reached_frame]
@[simp] theorem reached_align (p : Path) (a : Nat) : (s.reached p a).align = s.align := by rw [reached_frame]

theorem reached_state (p : Path) (a : Nat) :
    (s.reached p a).power.state = s.power.state ∨ s.power.state = .hold ∧ (s.reached p a).power.state = .fromHold := by
  have h := (powerFrom_iff s _).mp (reached_powerFrom s p a)
  rcases h with h | h
  · exact .inl (by rw [h])
  · rw [h, active_state]
    split
    · next e => exact .inr ⟨e, rfl⟩
    · exact .inl rfl

/-- An activity does not change which registers are there: it leads from HOLD to its exit, in which the tile answers too. -/
@[simp] theorem reached_regThere (p : Path) (a : Nat) (tile : Bool) (q : Path) (b : Nat) :
    (s.reached p a).regThere tile q b = s.regThere tile q b := by
  unfold State.regThere State.runOrHold
  rcases reached_state s p a with h | ⟨h, h'⟩
  · rw [h]
  · rw [h, h']
    rfl

@[simp] theorem reached_regHeld (p : Path) (a b : Nat) : (s.reached p a).regHeld b = s.regHeld b := by
  unfold State.regHeld State.domHeld
  rw [reached_align]

@[simp] theorem reached_regFrozen (p : Path) (a : Nat) (q : Path) (b : Nat) :
    (s.reached p a).regFrozen q b = s.regFrozen q b := by
  unfold State.regFrozen State.domHeld
  rw [reached_align, reached_regHeld]

/-! ### Access errors (R8, R527) -/

/-- Bits of a register's field that another field of it does not meet stay. -/
theorem bit_setFld_reg_other (a hi lo v n : Nat) (hh : hi < 32) (hl : lo ≤ hi) (h : n < lo ∨ hi < n) :
    (s.setFld a hi lo v).bit a n = s.bit a n := by
  rw [bit_setFld_reg s a hi lo v n hh hl, if_neg (by omega)]

theorem fld_setBit_reg_other (a n hi lo : Nat) (b : Bool) (hn : n < 32) (h : n < lo ∨ hi < n) :
    (s.setBit a n b).fld a hi lo = s.fld a hi lo :=
  fld_setFld_reg_other s a n n _ hi lo hn (Nat.le_refl n) h.symm

/-- The first error on record: the register shows it (R527). -/
theorem accErr_first (tile : Bool) (n : Nat) (wr : Bool) (path a : Nat) {r : Nat}
    (hr : r = if tile then Reg.CTL_TACC_ERR else Reg.CTL_ACC_ERR) (hn : n < 3) (h : s.fld r 2 0 = 0) :
    (s.accErr tile n wr path a).bit r n = true ∧ (s.accErr tile n wr path a).bit r 4 = wr ∧
      (s.accErr tile n wr path a).fld r 6 5 = path % 4 ∧ (s.accErr tile n wr path a).fld r 31 16 = a % 65536 := by
  have e : s.accErr tile n wr path a = ((((s.setBit r n true).setBit r 4 wr).setFld r 6 5 path).setFld r 31 16 a) := by
    unfold State.accErr
    rw [← hr]
    exact if_pos h
  rw [e]
  refine ⟨?_, ?_, ?_, ?_⟩
  · rw [bit_setFld_reg_other _ _ _ _ _ _ (by omega) (by omega) (by omega),
      bit_setFld_reg_other _ _ _ _ _ _ (by omega) (by omega) (by omega), bit_setBit_reg _ _ _ _ _ (by omega),
      if_neg (by omega), bit_setBit_reg _ _ _ _ _ (by omega), if_pos rfl]
  · rw [bit_setFld_reg_other _ _ _ _ _ _ (by omega) (by omega) (by omega),
      bit_setFld_reg_other _ _ _ _ _ _ (by omega) (by omega) (by omega), bit_setBit_reg _ _ _ _ _ (by omega), if_pos rfl]
  · rw [fld_setFld_reg_other _ _ _ _ _ _ _ (by omega) (by omega) (by omega)]
    exact fld_setFld_reg _ _ _ _ _ (by omega) (by omega)
  · exact fld_setFld_reg _ _ _ _ _ (by omega) (by omega)

/-- A further error: the register keeps what it shows and sets more (R527). -/
theorem accErr_further (tile : Bool) (n : Nat) (wr : Bool) (path a : Nat) {r : Nat}
    (hr : r = if tile then Reg.CTL_TACC_ERR else Reg.CTL_ACC_ERR) (hn : n < 3) (h : s.fld r 2 0 ≠ 0) :
    (s.accErr tile n wr path a).bit r n = true ∧ (s.accErr tile n wr path a).bit r 3 = true ∧
      (s.accErr tile n wr path a).fld r 31 16 = s.fld r 31 16 := by
  have e : s.accErr tile n wr path a = (s.setBit r n true).setBit r 3 true := by
    unfold State.accErr
    rw [← hr]
    exact if_neg h
  rw [e]
  refine ⟨?_, ?_, ?_⟩
  · rw [bit_setBit_reg _ _ _ _ _ (by omega), if_neg (by omega), bit_setBit_reg _ _ _ _ _ (by omega), if_pos rfl]
  · rw [bit_setBit_reg _ _ _ _ _ (by omega), if_pos rfl]
  · rw [fld_setBit_reg_other _ _ _ _ _ _ (by omega) (by omega), fld_setBit_reg_other _ _ _ _ _ _ (by omega) (by omega)]

theorem accErr_bit (tile : Bool) (n : Nat) (wr : Bool) (path a : Nat) {r : Nat}
    (hr : r = if tile then Reg.CTL_TACC_ERR else Reg.CTL_ACC_ERR) (hn : n < 3) :
    (s.accErr tile n wr path a).bit r n = true := by
  by_cases h : s.fld r 2 0 = 0
  · exact (accErr_first s tile n wr path a hr hn h).1
  · exact (accErr_further s tile n wr path a hr hn h).1

/-- A BAR0 access that ends in an access error changes CTL_ACC_ERR only. -/
theorem accErr_activity_onlyRegs (n : Nat) (wr : Bool) (path a : Nat) :
    s.OnlyRegs (s.activity.accErr false n wr path a).settle [Reg.CTL_ACC_ERR] := by
  have hf := accErr_frame s.activity false n wr path a
  have hp : (s.activity.accErr false n wr path a).power = s.activity.power := by rw [hf]
  refine onlyRegs_settle s ?_ (powerFrom_activity.congr hp) ?_
  · rw [hp]
    refine hf.trans ?_
    generalize (s.activity.accErr false n wr path a).regs = g
    rw [activity_frame s]
  · intro b hb hl
    rw [accErr_reg_other _ _ _ _ _ _ _ (by simpa using hb)]
    exact activity_reg_of_notMem s hl

/-- CTL_ACC_ERR is no register that an activity touches. -/
theorem accErr_notMem_latchRegs : Reg.CTL_ACC_ERR ∉ s.latchRegs := fun h =>
  absurd ((mem_latchRegs s _).mp h).2 (by decide)

theorem bit_congr {t : State} {a : Nat} (h : t.reg a = s.reg a) (n : Nat) : t.bit a n = s.bit a n := by
  unfold State.bit
  rw [h]

theorem fld_congr {t : State} {a : Nat} (h : t.reg a = s.reg a) (hi lo : Nat) : t.fld a hi lo = s.fld a hi lo := by
  unfold State.fld
  rw [h]

/-- A BAR0 write of a full word to an address with no register is recorded. -/
theorem execRegisterWrite_refused (addr : BitVec 16) (v : Word) (ha : s.answers .bar0 addr.toNat = true)
    (ht : s.regThere false .bar0 addr.toNat = false) :
    execRegisterWrite .bar0 addr 0xF#4 v s = done (s.activity.accErr false 0 true 1 addr.toNat) := by
  have hr : s.reached .bar0 addr.toNat = s.activity := rfl
  have ht' := reached_regThere s .bar0 addr.toNat false .bar0 addr.toNat
  rw [ht, hr] at ht'
  unfold execRegisterWrite
  simp only [ha, if_true, hr, ne_eq, not_true_eq_false, and_false, if_false]
  unfold State.write
  rw [show (Path.bar0 == Path.riath && isTileReg addr.toNat) = false from rfl, ht']
  rfl

/-- Settles O8: the write is an access error after the activity of the access, and the rules of R527 say what the register
then shows. -/
theorem refusedAccessIsRecordedOnce : Obligations.RefusedAccessIsRecordedOnce := by
  unfold Obligations.RefusedAccessIsRecordedOnce
  intro s addr v ha ht
  have hfld := fld_congr s (activity_reg_of_notMem s (accErr_notMem_latchRegs s))
  have hset := settle_reg_of_notMem s (v := s.activity.accErr false 0 true 1 addr.toNat)
    (powerFrom_activity.congr (by rw [accErr_frame])) (accErr_notMem_latchRegs s)
  have hb := fun n => bit_congr _ hset n
  have hf := fun hi lo => fld_congr _ hset hi lo
  rw [exec, execRegisterWrite_refused s addr v ha ht]
  refine answers_done ⟨?_, accErr_activity_onlyRegs s 0 true 1 addr.toNat, fun h0 => ?_, fun h0 => ?_⟩
  · rw [hb, accErr_bit _ false 0 true 1 _ (r := Reg.CTL_ACC_ERR) rfl (by omega)]
  · rw [← hfld] at h0
    obtain ⟨-, hw, hp, hadr⟩ := accErr_first s.activity false 0 true 1 addr.toNat (r := Reg.CTL_ACC_ERR) rfl (by omega) h0
    exact ⟨by rw [hf, hadr, Nat.mod_eq_of_lt addr.isLt], by rw [hb, hw], by rw [hf, hp]⟩
  · rw [← hfld] at h0
    obtain ⟨-, hm, hadr⟩ := accErr_further s.activity false 0 true 1 addr.toNat (r := Reg.CTL_ACC_ERR) rfl (by omega) h0
    exact ⟨by rw [hb, hm], by rw [hf, hadr, hfld]⟩

end Sys2Proof.Machine
end

section
/-! The write of a register under its access codes (R9, R10). -/

namespace Sys2Proof.Machine

variable (s : State)

/-! ### The write of a register without an action (R9) -/

/-- What a register holds after a write of `v` under its access codes: RW bits take the value, W1C bits written 1 clear. -/
def RegRow.write (r : RegRow) (old v : Word) : Word :=
  ((old &&& ~~~BitVec.ofNat 32 r.rw) ||| (v &&& BitVec.ofNat 32 r.rw)) &&& ~~~(v &&& BitVec.ofNat 32 r.w1c)

theorem plain_eq {a : Nat} {r : RegRow} (h : regRow? a = some r) (v : Word) :
    s.plain a v = s.setReg a (r.write (s.reg a) v) := by
  unfold State.plain
  rw [h]
  rfl

theorem plain_frame (a : Nat) (v : Word) : s.plain a v = { s with regs := (s.plain a v).regs } := by
  cases h : regRow? a with
  | none => simp [State.plain, h]
  | some r =>
    rw [plain_eq s h]
    rfl

theorem plain_reg_other (a b : Nat) (v : Word) (h : b ≠ a) : (s.plain a v).reg b = s.reg b := by
  cases hr : regRow? a with
  | none => simp [State.plain, hr]
  | some r => rw [plain_eq s hr, reg_setReg_other _ _ _ _ h]

theorem forget_frame (ns : List Nat) : s.forget ns = { s with host := (s.forget ns).host } := rfl

@[simp] theorem forget_reg (ns : List Nat) (a : Nat) : (s.forget ns).reg a = s.reg a := by
  simp only [State.forget, State.reg]
@[simp] theorem forget_power (ns : List Nat) : (s.forget ns).power = s.power := by
  simp only [State.forget]
@[simp] theorem forget_wide (ns : List Nat) : (s.forget ns).wide = s.wide := by
  simp only [State.forget]
@[simp] theorem plain_power (a : Nat) (v : Word) : (s.plain a v).power = s.power := by rw [plain_frame]
@[simp] theorem plain_host (a : Nat) (v : Word) : (s.plain a v).host = s.host := by rw [plain_frame]

theorem forget_host_congr {t : State} (h : t.host = s.host) (ns : List Nat) : (t.forget ns).host = (s.forget ns).host := by
  unfold State.forget
  rw [h]

theorem clears_congr {t : State} {a : Nat} (h : t.reg a = s.reg a) (v : Word) : t.clears a v = s.clears a v := by
  unfold State.clears
  rw [h]

/-- The effect of a write to a plain register: after the activity of the access the cleared events are forgotten, and the
register takes its new value. -/
def State.plainWrite (s : State) (p : Path) (a : Nat) (v : Word) : State :=
  ((s.reached p a).forget ((s.reached p a).clears a v)).plain a v

/-- A full-word write to a register with no action of its own. -/
theorem execRegisterWrite_plain (p : Path) (addr : BitVec 16) (v : Word) (ha : s.answers p addr.toNat = true)
    (ht : s.regThere (p == .riath && isTileReg addr.toNat) p addr.toNat = true) (hf : s.regFrozen p addr.toNat = false)
    (hw : wideGroup addr.toNat = none)
    (hn : writeReg? addr.toNat (if isTileReg addr.toNat then tileWrites else mainWrites) = none) :
    execRegisterWrite p addr 0xF#4 v s = done (s.plainWrite p addr.toNat v) := by
  unfold execRegisterWrite
  simp only [ha, if_true, ne_eq, not_true_eq_false, and_false, if_false]
  unfold State.write
  simp only [reached_regThere, reached_regFrozen, ht, hf, if_true, Bool.false_eq_true, if_false]
  unfold State.writeWord State.act
  rw [hw, hn]
  rfl

theorem plainWrite_frame (p : Path) (a : Nat) (v : Word) :
    s.plainWrite p a v = { s with
      regs := (s.plainWrite p a v).regs, power := (s.plainWrite p a v).power, host := (s.plainWrite p a v).host } := by
  unfold State.plainWrite
  have hr := reached_frame s p a
  have hp := plain_frame ((s.reached p a).forget ((s.reached p a).clears a v)) a v
  generalize ((s.reached p a).forget ((s.reached p a).clears a v)).plain a v = t at hp ⊢
  rw [hp, forget_frame]
  generalize ((s.reached p a).forget ((s.reached p a).clears a v)).host = h
  rw [hr]

theorem plainWrite_powerFrom (p : Path) (a : Nat) (v : Word) : s.PowerFrom (s.plainWrite p a v) :=
  (reached_powerFrom s p a).congr (by rw [State.plainWrite, plain_power, forget_power])

theorem plainWrite_reg_other (p : Path) {a b : Nat} (v : Word) (hb : b ≠ a) (h : b ∉ s.latchRegs) :
    (s.plainWrite p a v).reg b = s.reg b := by
  rw [State.plainWrite, plain_reg_other _ _ _ _ hb, forget_reg, reached_reg_of_notMem s p a h]

theorem plainWrite_reg_same (p : Path) {a : Nat} {r : RegRow} (hr : regRow? a = some r) (v : Word) (h : a ∉ s.latchRegs) :
    (s.plainWrite p a v).reg a = r.write (s.reg a) v := by
  rw [State.plainWrite, plain_eq _ hr, reg_setReg_same, forget_reg, reached_reg_of_notMem s p a h]

theorem plainWrite_host (p : Path) {a : Nat} (v : Word) (h : a ∉ s.latchRegs) :
    (s.plainWrite p a v).host = (s.forget (s.clears a v)).host := by
  rw [State.plainWrite, plain_host, clears_congr s (reached_reg_of_notMem s p a h)]
  exact forget_host_congr s (reached_host s p a) _

/-- A BAR0 write whose byte enables are not all set is an access error (R15). -/
theorem execRegisterWrite_partial (addr : BitVec 16) (be : BitVec 4) (v : Word) (ha : s.answers .bar0 addr.toNat = true)
    (hb : be ≠ 0xF#4) : execRegisterWrite .bar0 addr be v s = done (s.activity.accErr false 1 true 1 addr.toNat) := by
  unfold execRegisterWrite
  simp only [ha, if_true, hb, ne_eq, not_false_eq_true, and_self]
  rfl

/-- Settles O7: a full-word write is the plain write of the register, after the activity of the access; a partial one is an
access error. -/
theorem registerWriteActsUnderItsAccessCode : Obligations.RegisterWriteActsUnderItsAccessCode := by
  unfold Obligations.RegisterWriteActsUnderItsAccessCode
  refine ⟨fun s p addr v r ha ht hf hw hn hr => ?_, fun s addr be v ha hb => ?_⟩
  · rw [exec, execRegisterWrite_plain s p addr v ha ht hf hw hn]
    have hp := plainWrite_powerFrom s p addr.toNat v
    refine answers_done ⟨fun h => ⟨?_, ?_⟩, ?_⟩
    · rw [settle_reg_of_notMem s hp h, plainWrite_reg_same s p hr v h, RegRow.write]
    · rw [← plainWrite_host s p v h]
      exact settle_host _
    · refine keeps_settle s hp rfl ?_ fun b hb hl => plainWrite_reg_other s p v (by simpa using hb) hl
      exact settle_eq_of (plainWrite_frame s p addr.toNat v)
  · rw [exec, execRegisterWrite_partial s addr be v ha hb]
    refine answers_done ⟨?_, accErr_activity_onlyRegs s 1 true 1 addr.toNat⟩
    rw [bit_congr _ (settle_reg_of_notMem s (powerFrom_activity.congr (by rw [accErr_frame])) (accErr_notMem_latchRegs s)),
      accErr_bit _ false 1 true 1 _ (r := Reg.CTL_ACC_ERR) rfl (by omega)]

end Sys2Proof.Machine
end

section
/-! Wide values (R14). -/

namespace Sys2Proof.Machine

variable (s : State)

/-! ### The host link after event messages (R519, R521) -/

/-- A message leaves what has been read. -/
theorem msix_reads (h : HostLink) (v : Nat) : (h.msix v).reads = h.reads := by
  unfold HostLink.msix
  split
  · rfl
  · split <;> rfl

theorem foldl_msix_reads (f : Nat → Nat) (l : List Nat) (h : HostLink) :
    (l.foldl (fun h n => h.msix (f n)) h).reads = h.reads := by
  induction l generalizing h with
  | nil => rfl
  | cons x t ih => rw [List.foldl_cons, ih, msix_reads]

theorem afterEvents_reads : s.afterEvents.reads = s.host.reads := by
  unfold State.afterEvents
  split
  · exact foldl_msix_reads _ _ _
  · rfl

theorem settle_reads : s.settle.host.reads = s.host.reads := by
  rw [settle_host, afterEvents_reads]

/-- A message does not look at the events seen. -/
theorem msix_evtSeen (h : HostLink) (e v : Nat) : ({ h with evtSeen := e } : HostLink).msix v = { h.msix v with evtSeen := e } := by
  unfold HostLink.msix HostLink.reach
  dsimp only
  split
  · rfl
  · split <;> rfl

theorem foldl_msix_evtSeen (f : Nat → Nat) (l : List Nat) (h : HostLink) (e : Nat) :
    l.foldl (fun h n => h.msix (f n)) { h with evtSeen := e } = { l.foldl (fun h n => h.msix (f n)) h with evtSeen := e } := by
  induction l generalizing h with
  | nil => rfl
  | cons x t ih => rw [List.foldl_cons, List.foldl_cons, msix_evtSeen, ih]

theorem testBit_flagsNat (l : List Bool) (i : Nat) : (flagsNat l).testBit i = l.getD i false := by
  induction l generalizing i with
  | nil => simp [flagsNat]
  | cons b t ih =>
    cases i with
    | zero => cases b <;> simp [flagsNat, b2n, Nat.testBit_zero]
    | succ i =>
      have e : (b2n b + 2 * flagsNat t) / 2 = flagsNat t := by
        have : b2n b < 2 := by cases b <;> decide
        omega
      rw [flagsNat, Nat.testBit_succ, e, ih]
      rfl

/-- Which events are raised and enabled, and their vectors, are told from the registers. -/
theorem evtLive_congr {t : State} (h : t.regs = s.regs) : t.evtLive = s.evtLive := by
  unfold State.evtLive State.evtStatus State.events State.any State.fld State.bit State.reg
  rw [h]

theorem evtVec_congr {t : State} (h : t.regs = s.regs) (n : Nat) : t.evtVec n = s.evtVec n := by
  unfold State.evtVec State.fld State.reg
  rw [h]

/-- Of the events seen only the 28 that there are matter to the messages. -/
theorem afterEvents_congr {t : State} (hr : t.regs = s.regs) (ha : t.align = s.align)
    (hh : t.host = { s.host with evtSeen := t.host.evtSeen })
    (he : ∀ n, n < 28 → t.host.evtSeen.testBit n = s.host.evtSeen.testBit n) : t.afterEvents = s.afterEvents := by
  have hm : t.mainUp = s.mainUp := by rw [State.mainUp, State.mainUp, ha]
  have hf : (bitsOf 28 s.evtLive).filter (fun n => !t.host.evtSeen.testBit n) =
      (bitsOf 28 s.evtLive).filter (fun n => !s.host.evtSeen.testBit n) := by
    refine List.filter_congr fun n hn => ?_
    rw [he n (List.mem_range.mp (List.mem_filter.mp hn).1)]
  unfold State.afterEvents
  simp only [hm, evtLive_congr s hr, evtVec_congr s hr, hf]
  split
  · rw [hh, foldl_msix_evtSeen]
  · rw [hh]

/-- To forget no event changes no message. -/
theorem afterEvents_forget_nil (t : State) :
    ({ t with host := (s.forget []).host } : State).afterEvents = ({ t with host := s.host } : State).afterEvents := by
  have he : (s.forget []).host = { s.host with evtSeen := (s.forget []).host.evtSeen } := by
    simp only [State.forget]
  refine afterEvents_congr { t with host := s.host } rfl rfl he fun n hn => ?_
  simp only [State.forget, testBit_flagsNat]
  simp [hn]

/-! ### The sides of a wide value (R14) -/

theorem wideKey_inj {b b' : Nat} {p p' : Path} (h : wideKey b p = wideKey b' p') : (b, p) = (b', p') := by
  unfold wideKey at h
  cases p <;> cases p' <;> simp only [pathCode] at h <;> simp <;> omega

theorem side_setSide_same (b : Nat) (p : Path) (x : WideSide) : (s.setSide b p x).side b p = x := by
  simp [State.side, State.setSide]

/-- The side of another value or another path stays. -/
theorem side_setSide_other (b : Nat) (p : Path) (x : WideSide) (b' : Nat) (q : Path) (h : (b', q) ≠ (b, p)) :
    (s.setSide b p x).side b' q = s.side b' q :=
  smap_look_put_other _ _ _ _ _ fun e => h (wideKey_inj e)

theorem side_congr {t : State} (h : t.wide = s.wide) (b : Nat) (p : Path) : t.side b p = s.side b p := by
  unfold State.side
  rw [h]

/-- The words that a commit takes depend on the staged words and on the low words as they stand. -/
theorem commitWords_congr {t : State} (b n : Nat) (p : Path) (v : Word) (hw : t.wide = s.wide)
    (hr : ∀ j, j < n - 1 → t.reg (b + j) = s.reg (b + j)) : t.commitWords b n p v = s.commitWords b n p v := by
  unfold State.commitWords
  rw [side_congr s hw]
  refine congrArg (· ++ [v]) (List.map_congr_left fun j hj => ?_)
  rw [hr j (List.mem_range.mp hj)]

/-! ### Reading the lowest word -/

/-- The higher words of a value of `n` words as a path finds them. -/
def State.higherWords (s : State) (p : Path) (base n : Nat) : List Word :=
  (List.range (n - 1)).map fun i => s.seen p (base + 1 + i)

/-- The effect of the read of a wide value's lowest word: the higher words are latched, the low one is returned. -/
def State.lowRead (s : State) (p : Path) (a base n : Nat) : State :=
  let t := s.reached p a
  let u := t.setSide base p { t.side base p with latched := some (t.higherWords p base n) }
  { u with host := { s.host with reads := s.host.reads ++ [(t.seen p a).toNat] } }

theorem readReg_low (p : Path) {a base n : Nat} (h : wideOf a = some (base, n, 0)) :
    s.readReg p a = (s.seen p a, s.setSide base p { s.side base p with latched := some (s.higherWords p base n) }) := by
  unfold State.readReg
  rw [h]
  rfl

theorem execWideValueLowRead_low (p : Path) (addr : BitVec 16) {base n : Nat} (ha : s.answers p addr.toNat = true)
    (ht : s.regThere (p == .riath && isTileReg addr.toNat) p addr.toNat = true) (hw : wideOf addr.toNat = some (base, n, 0)) :
    execWideValueLowRead p addr s = done (s.lowRead p addr.toNat base n) := by
  unfold execWideValueLowRead State.read
  simp only [ha, if_true, reached_regThere, ht, readReg_low _ p hw, setSide_host, reached_host, Option.getD_some]
  rfl

theorem lowRead_frame (p : Path) (a base n : Nat) :
    s.lowRead p a base n = { s with
      wide := (s.lowRead p a base n).wide, regs := (s.lowRead p a base n).regs, power := (s.lowRead p a base n).power
      host := (s.lowRead p a base n).host } := by
  have hr := reached_frame s p a
  unfold State.lowRead State.setSide
  generalize s.reached p a = t at hr
  dsimp only
  generalize SMap.put _ t.wide _ _ = w
  generalize (_ : HostLink) = h
  rw [hr]

/-- The read half of O9: the higher words are latched on the path's side, and nothing but reads and that side changes. -/
theorem wideValueLowRead_answers (p : Path) (addr : BitVec 16) (base n : Nat) (ha : s.answers p addr.toNat = true)
    (ht : s.regThere (p == .riath && isTileReg addr.toNat) p addr.toNat = true) (hw : wideOf addr.toNat = some (base, n, 0)) :
    Answers (exec (.wideValueLowRead p addr) s) fun t =>
      t.host.reads = s.host.reads ++ [((s.reached p addr.toNat).seen p addr.toNat).toNat] ∧
      (t.side base p).latched = some ((s.reached p addr.toNat).higherWords p base n) ∧
      (t.side base p).staged = (s.side base p).staged ∧
      (∀ b q, (b, q) ≠ (base, p) → t.side b q = s.side b q) ∧
      s.Keeps t { s with wide := t.wide, regs := t.regs, host := t.host } [] := by
  rw [exec, execWideValueLowRead_low s p addr ha ht hw]
  have hr : ∀ b q, (s.reached p addr.toNat).side b q = s.side b q := side_congr s (reached_wide s p addr.toNat)
  have hs : ∀ b q, (s.lowRead p addr.toNat base n).settle.side b q = ((s.reached p addr.toNat).setSide base p
      { (s.reached p addr.toNat).side base p with latched := some ((s.reached p addr.toNat).higherWords p base n) }).side b q :=
    side_congr _ (settle_wide _)
  have hp : (s.lowRead p addr.toNat base n).power = (s.reached p addr.toNat).power := rfl
  refine answers_done ⟨settle_reads _, ?_, ?_, fun b q h => ?_, ?_⟩
  · rw [hs, side_setSide_same]
  · rw [hs, side_setSide_same]
    dsimp only
    rw [hr]
  · rw [hs, side_setSide_other _ _ _ _ _ _ h, hr]
  · refine keeps_settle s ((reached_powerFrom s p addr.toNat).congr hp) rfl ?_ fun b _ hl => ?_
    · rw [settle_wide]
      exact settle_eq_of (u := { s with wide := (s.lowRead p addr.toNat base n).wide }) (lowRead_frame s p addr.toNat base n)
    · exact reached_reg_of_notMem s p addr.toNat hl

/-! ### Writing the highest word of CTL_TDT_BASE -/

/-- A register all of whose bits are RW takes the word written. -/
theorem plain_allRw {a : Nat} {r : RegRow} (h : regRow? a = some r) (hw : r.rw = 0xFFFFFFFF) (hc : r.w1c = 0) (v : Word) :
    s.plain a v = s.setReg a v := by
  have e : BitVec.ofNat 32 0xFFFFFFFF = BitVec.allOnes 32 := rfl
  rw [plain_eq s h, RegRow.write, hw, hc, e, BitVec.not_allOnes, BitVec.and_zero, BitVec.zero_or, BitVec.and_zero,
    BitVec.not_zero, BitVec.and_allOnes, BitVec.and_allOnes]

theorem regRow?_tdtBase : regRow? Reg.CTL_TDT_BASE_LO = some ⟨0x0048, 1, 1, 0xFFFFFFFF, 0⟩ ∧
    regRow? (Reg.CTL_TDT_BASE_LO + 1) = some ⟨0x0049, 1, 1, 0xFFFFFFFF, 0⟩ := by decide +kernel

/-- A write to a register that holds no event flag clears none. -/
theorem clears_eq_nil {a : Nat} (h : ∀ e ∈ eventFlags, e.2.1 ≠ a) (v : Word) : s.clears a v = [] := by
  unfold State.clears
  rw [List.filter_eq_nil_iff.mpr fun e he => by simp [h e he], List.map_nil]

theorem eventFlags_tdtBase : ∀ e ∈ eventFlags, e.2.1 ≠ Reg.CTL_TDT_BASE_LO + 1 := by decide

/-- The low word that a write of the highest word of CTL_TDT_BASE commits. -/
def State.tdtLow (s : State) (p : Path) : Word :=
  match (s.side Reg.CTL_TDT_BASE_LO p).staged.getD 0 none with
  | some w => w
  | none => match (s.side Reg.CTL_TDT_BASE_LO p).last with
    | some l => l.getD 0 0#32
    | none => s.reg Reg.CTL_TDT_BASE_LO

theorem commitWords_tdtBase (p : Path) (v : Word) : s.commitWords Reg.CTL_TDT_BASE_LO 2 p v = [s.tdtLow p, v] := rfl

theorem wideGroup_tdtBase : wideGroup (Reg.CTL_TDT_BASE_LO + 1) = some (Reg.CTL_TDT_BASE_LO, 2, 1) := by decide

/-- The commit of CTL_TDT_BASE stores both words and empties the path's stage. -/
theorem writeWord_tdtBase (p : Path) (v : Word) :
    s.writeWord p (Reg.CTL_TDT_BASE_LO + 1) v =
      ((s.setReg Reg.CTL_TDT_BASE_LO (s.tdtLow p)).setReg (Reg.CTL_TDT_BASE_LO + 1) v).committed Reg.CTL_TDT_BASE_LO 2 p := by
  have h : s.writeWord p (Reg.CTL_TDT_BASE_LO + 1) v =
      (s.plainWords Reg.CTL_TDT_BASE_LO (s.commitWords Reg.CTL_TDT_BASE_LO 2 p v)).committed Reg.CTL_TDT_BASE_LO 2 p := by
    rw [State.writeWord, wideGroup_tdtBase]
    rfl
  rw [h, commitWords_tdtBase, State.plainWords, State.plainWords, State.plainWords,
    plain_allRw _ regRow?_tdtBase.1 rfl rfl, plain_allRw _ regRow?_tdtBase.2 rfl rfl]

theorem committed_eq (base n : Nat) (p : Path) : s.committed base n p =
    s.setSide base p { s.side base p with staged := [], last := some (s.words base (n - 1)) } := rfl

@[simp] theorem committed_reg (base n : Nat) (p : Path) (a : Nat) : (s.committed base n p).reg a = s.reg a := rfl

theorem side_committed_same (base n : Nat) (p : Path) : ((s.committed base n p).side base p).staged = [] := by
  rw [committed_eq, side_setSide_same]

theorem side_committed_other (base n : Nat) (p : Path) (b : Nat) (q : Path) (h : (b, q) ≠ (base, p)) :
    (s.committed base n p).side b q = s.side b q :=
  side_setSide_other s base p _ b q h

/-- The effect of the write, after the activity of the access. -/
def State.tdtCommit (s : State) (p : Path) (v : Word) : State :=
  (((s.activity.forget []).setReg Reg.CTL_TDT_BASE_LO (s.tdtLow p)).setReg (Reg.CTL_TDT_BASE_LO + 1) v).committed
    Reg.CTL_TDT_BASE_LO 2 p

/-- An activity and the cleared events do not change the word staged. -/
theorem tdtLow_activity (p : Path) : (s.activity.forget []).tdtLow p = s.tdtLow p := by
  have hw : (s.activity.forget []).side Reg.CTL_TDT_BASE_LO p = s.side Reg.CTL_TDT_BASE_LO p :=
    side_congr s (by rw [forget_wide, activity_wide]) _ _
  have hr : (s.activity.forget []).reg Reg.CTL_TDT_BASE_LO = s.reg Reg.CTL_TDT_BASE_LO := by
    rw [forget_reg, activity_reg s _ (.inl (by decide))]
  rw [State.tdtLow, hw, hr]
  rfl

theorem execWideValueHighWrite_tdtBase (p : Path) (v : Word) (ha : s.hAnswers = true) :
    execWideValueHighWrite p (BitVec.ofNat 16 (Reg.CTL_TDT_BASE_LO + 1)) v s = done (s.tdtCommit p v) := by
  have e : (BitVec.ofNat 16 (Reg.CTL_TDT_BASE_LO + 1)).toNat = Reg.CTL_TDT_BASE_LO + 1 := rfl
  have ht : (p == .riath && isTileReg (Reg.CTL_TDT_BASE_LO + 1)) = false := by cases p <;> rfl
  have hans : s.answers p (Reg.CTL_TDT_BASE_LO + 1) = true := by
    rw [State.answers, ht]
    exact ha
  have hr : s.reached p (Reg.CTL_TDT_BASE_LO + 1) = s.activity := by
    rw [State.reached, ht]
    rfl
  have hthere : s.activity.regThere false p (Reg.CTL_TDT_BASE_LO + 1) = true := by
    rw [State.regThere, regRow?_tdtBase.2]
    rfl
  have hfree : s.activity.regFrozen p (Reg.CTL_TDT_BASE_LO + 1) = false := rfl
  unfold execWideValueHighWrite wideHigh State.write
  rw [e]
  simp only [hans, wideGroup_tdtBase, ht, hr, hthere, hfree, clears_eq_nil _ eventFlags_tdtBase, writeWord_tdtBase,
    tdtLow_activity, Bool.true_and, decide_true, if_true, Bool.false_eq_true, if_false]
  rfl

theorem tdtCommit_frame (p : Path) (v : Word) :
    s.tdtCommit p v = { s with
      wide := (s.tdtCommit p v).wide, regs := (s.tdtCommit p v).regs, power := (s.tdtCommit p v).power
      host := (s.tdtCommit p v).host } := by
  have hr := activity_frame s
  unfold State.tdtCommit
  rw [committed_eq]
  generalize WideSide.mk _ _ _ = x
  unfold State.setSide State.setReg State.forget
  generalize s.activity = t at hr
  dsimp only
  generalize (_ : HostLink) = h
  generalize (_ : SMap Word) = r
  rw [hr]

theorem tdtCommit_reg_other (p : Path) (v : Word) {a : Nat} (h : a ∉ s.latchRegs) (h0 : a ≠ Reg.CTL_TDT_BASE_LO)
    (h1 : a ≠ Reg.CTL_TDT_BASE_LO + 1) : (s.tdtCommit p v).reg a = s.reg a := by
  rw [State.tdtCommit, committed_reg, reg_setReg_other _ _ _ _ h1, reg_setReg_other _ _ _ _ h0, forget_reg,
    activity_reg_of_notMem s h]

/-- The write half of O9: the high word commits with what the stage or the last commit left. -/
theorem wideValueHighWrite_answers (p : Path) (v : Word) (ha : s.hAnswers = true) :
    Answers (exec (.wideValueHighWrite p (BitVec.ofNat 16 (Reg.CTL_TDT_BASE_LO + 1)) v) s) fun t =>
      t.reg (Reg.CTL_TDT_BASE_LO + 1) = v ∧ t.reg Reg.CTL_TDT_BASE_LO = s.tdtLow p ∧
      (t.side Reg.CTL_TDT_BASE_LO p).staged = [] ∧
      (∀ b q, (b, q) ≠ (Reg.CTL_TDT_BASE_LO, p) → t.side b q = s.side b q) ∧
      s.Frame t { s with regs := t.regs, wide := t.wide, host := t.host } [Reg.CTL_TDT_BASE_LO, Reg.CTL_TDT_BASE_LO + 1] := by
  rw [exec, execWideValueHighWrite_tdtBase s p v ha]
  have hp : s.PowerFrom (s.tdtCommit p v) := by
    refine powerFrom_activity.congr ?_
    rw [State.tdtCommit, committed_eq, setSide_power, setReg_power, setReg_power, forget_power]
  have hreg : ∀ a, a ≠ Reg.PWR_STATUS → (s.tdtCommit p v).settle.reg a = (s.tdtCommit p v).reg a :=
    fun a h => settle_reg _ a (.inl h)
  have hside : ∀ b q, (s.tdtCommit p v).settle.side b q = (s.tdtCommit p v).side b q :=
    side_congr _ (settle_wide _)
  refine answers_done ⟨?_, ?_, ?_, fun b q h => ?_, ?_, ?_⟩
  · rw [hreg _ (by decide), State.tdtCommit, committed_reg, reg_setReg_same]
  · rw [hreg _ (by decide), State.tdtCommit, committed_reg, reg_setReg_other _ _ _ _ (by decide), reg_setReg_same]
  · rw [hside, State.tdtCommit, side_committed_same]
  · rw [hside, State.tdtCommit, side_committed_other _ _ _ _ _ _ h]
    exact side_congr s (by rw [setReg_wide, setReg_wide, forget_wide, activity_wide]) b q
  · refine keeps_settle s hp rfl ?_ fun a h hl => ?_
    · rw [settle_wide]
      exact settle_eq_of (u := { s with wide := (s.tdtCommit p v).wide }) (tdtCommit_frame s p v)
    · simp only [List.mem_cons, List.not_mem_nil, or_false, not_or] at h
      exact tdtCommit_reg_other s p v hl h.1 h.2
  · have hh : (s.tdtCommit p v).host = (s.forget []).host := by
      rw [State.tdtCommit, committed_eq, setSide_host, setReg_host, setReg_host, forget_host_congr s (activity_host s) []]
    rw [State.EventsFrom, settle_host, hh, afterEvents_forget_nil]

/-- Settles O9: the halves for a read of the lowest and a write of the highest word. -/
theorem wideValuesLatchAndCommit : Obligations.WideValuesLatchAndCommit := by
  unfold Obligations.WideValuesLatchAndCommit
  exact ⟨wideValueLowRead_answers, wideValueHighWrite_answers⟩

end Sys2Proof.Machine
end

section
/-! Counters set and ended by the host (R245, R258). -/

namespace Sys2Proof.Machine

variable (s : State)

/-! ### What a set or an end value asks of the state (R245, R258) -/

theorem ctr_congr {t : State} (h : t.sync = s.sync) (c : Nat) : t.ctr c = s.ctr c := by
  unfold State.ctr
  rw [h]

theorem frozen_congr {t : State} (h : t.sync = s.sync) : t.frozen = s.frozen := by
  unfold State.frozen
  rw [h]

theorem queueBusy_congr {t : State} (hr : t.roots = s.roots) (hs : t.sched = s.sched) (q : Nat) :
    t.queueBusy q = s.queueBusy q := by
  unfold State.queueBusy State.qdt State.ctx
  rw [hr, hs]

theorem setRefused_congr {t : State} (hy : t.sync = s.sync) (hr : t.roots = s.roots) (hs : t.sched = s.sched)
    (hv : t.reg Reg.CTL_ROOT_STATUS = s.reg Reg.CTL_ROOT_STATUS) (c : Nat) : t.setRefused c = s.setRefused c := by
  unfold State.setRefused State.sotValid
  simp only [ctr_congr s hy, queueBusy_congr s hr hs, bit_congr s hv, hs]

/-! ### The record of an error of the counter stores (R261, R264) -/

theorem synError_reg_other (code ctr unit tag base : Nat) {a : Nat} (h : a ∉ synErrRegs) :
    (s.synError code ctr unit tag base).reg a = s.reg a := by
  simp only [synErrRegs, List.mem_cons, List.not_mem_nil, or_false, not_or] at h
  obtain ⟨h0, h1, h2, h3⟩ := h
  unfold State.synError State.recordFirst State.incSat
  dsimp only
  rw [reg_incFld_other _ _ _ _ _ _ h3]
  split
  · rw [reg_setBit_other _ _ _ _ _ h0]
  · rw [reg_setNat_other _ _ _ _ h2, reg_setNat_other _ _ _ _ h1, reg_setFld_other _ _ _ _ _ _ h0, reg_setBit_other _ _ _ _ _ h0]

theorem synError_frame (code ctr unit tag base : Nat) :
    s.synError code ctr unit tag base = { s with regs := (s.synError code ctr unit tag base).regs } := by
  unfold State.synError State.recordFirst
  dsimp only
  split <;> rfl

/-- An error sets valid. -/
theorem synError_valid (code ctr unit tag base : Nat) : (s.synError code ctr unit tag base).bit Reg.SYN_ERR_STATUS 0 = true := by
  unfold State.synError State.incSat
  dsimp only
  rw [bit_congr _ (reg_incFld_other _ _ _ _ _ _ (by decide))]
  unfold State.recordFirst
  split
  · next h => rw [bit_setBit_reg _ _ _ _ _ (by omega), if_neg (by omega), h]
  · rw [bit_congr _ (reg_setNat_other _ _ _ _ (by decide)), bit_congr _ (reg_setNat_other _ _ _ _ (by decide)),
      bit_setFld_reg_other _ _ _ _ _ _ (by omega) (by omega) (by omega), bit_setBit_reg _ _ _ _ _ (by omega), if_pos rfl]

/-- The first error since valid was cleared is recorded with its code, its counter and its unit. -/
theorem synError_first (code ctr unit tag base : Nat) (h : s.bit Reg.SYN_ERR_STATUS 0 = false) :
    (s.synError code ctr unit tag base).fld Reg.SYN_ERR_STATUS 7 4 = code % 16 ∧
      (s.synError code ctr unit tag base).reg Reg.SYN_ERR_SRC = BitVec.ofNat 32 (ctr + unit % 65536 * 65536) := by
  unfold State.synError State.incSat State.recordFirst
  dsimp only
  rw [h, if_neg (by decide)]
  constructor
  · rw [fld_congr _ (reg_incFld_other _ _ _ _ _ _ (by decide)), fld_congr _ (reg_setNat_other _ _ _ _ (by decide)),
      fld_congr _ (reg_setNat_other _ _ _ _ (by decide))]
    exact fld_setFld_reg _ _ _ _ _ (by omega) (by omega)
  · rw [reg_incFld_other _ _ _ _ _ _ (by decide), reg_setNat_other _ _ _ _ (by decide), reg_setNat_same]

/-! ### Counters -/

theorem ctr_setCtr (c m : Nat) (x : Counter) : (s.setCtr c x).ctr m = if m = c then x else s.ctr m := by
  simp [State.ctr, State.setCtr, smap_look_put]

@[simp] theorem setCtr_reg (c : Nat) (x : Counter) (a : Nat) : (s.setCtr c x).reg a = s.reg a := rfl

theorem fld_activity {a : Nat} (h : a ≠ Reg.PWR_STATUS) (hi lo : Nat) : s.activity.fld a hi lo = s.fld a hi lo :=
  fld_congr s (activity_reg s a (.inl h)) hi lo

theorem commitWords_activity (b n : Nat) (p : Path) (v : Word) (h : ∀ j, j < n - 1 → b + j ≠ Reg.PWR_STATUS) :
    s.activity.commitWords b n p v = s.commitWords b n p v :=
  commitWords_congr s b n p v (activity_wide s) fun j hj => activity_reg s _ (.inl (h j hj))

/-- The words of a wide value are stored, and the path's stage is empty. -/
def State.storeWide (s : State) (base : Nat) (p : Path) (ws : List Word) : State := (s.setRegs base ws).committed base 2 p

theorem setRegs_frame (a : Nat) (ws : List Word) : s.setRegs a ws = { s with regs := (s.setRegs a ws).regs } := by
  induction ws generalizing s a with
  | nil => rfl
  | cons w t ih =>
    rw [State.setRegs, ih]
    rfl

theorem storeWide_frame (base : Nat) (p : Path) (ws : List Word) :
    s.storeWide base p ws = { s with wide := (s.storeWide base p ws).wide, regs := (s.storeWide base p ws).regs } := by
  unfold State.storeWide
  rw [committed_eq, State.setSide, setRegs_frame]

theorem storeWide_reg_other (base : Nat) (p : Path) (w v : Word) {a : Nat} (h : a ≠ base) (h' : a ≠ base + 1) :
    (s.storeWide base p [w, v]).reg a = s.reg a := by
  rw [State.storeWide, committed_reg, State.setRegs, State.setRegs, State.setRegs, reg_setReg_other _ _ _ _ h',
    reg_setReg_other _ _ _ _ h]

theorem storeWide_reg_high (base : Nat) (p : Path) (w v : Word) : (s.storeWide base p [w, v]).reg (base + 1) = v := by
  rw [State.storeWide, committed_reg, State.setRegs, State.setRegs, State.setRegs, reg_setReg_same]

theorem storeWide_reg_low (base : Nat) (p : Path) (w v : Word) : (s.storeWide base p [w, v]).reg base = w := by
  rw [State.storeWide, committed_reg, State.setRegs, State.setRegs, State.setRegs, reg_setReg_other _ _ _ _ (by omega),
    reg_setReg_same]

theorem commitWords_two (base : Nat) (p : Path) (v : Word) :
    s.commitWords base 2 p v = [(s.commitWords base 2 p v).getD 0 0#32, v] := rfl

/-! ### COUNTER_SET -/

/-- What a set can do (R245, R259): it is refused and recorded, held by a frozen dump, or applied. -/
theorem setCounter_cases (c v : Nat) :
    s.setRefused c = true ∧ s.setCounter c v = s.synError 8 c 0x7000 ∨
    s.setRefused c = false ∧ s.frozen = true ∧ s.setCounter c v = s.hold (.set c v) ∨
    s.setRefused c = false ∧ s.frozen = false ∧ s.setCounter c v = s.applySet c v := by
  unfold State.setCounter
  cases s.setRefused c <;> cases s.frozen <;> simp

theorem setCounter_frame (c v : Nat) :
    s.setCounter c v = { s with sync := (s.setCounter c v).sync, regs := (s.setCounter c v).regs } := by
  rcases setCounter_cases s c v with ⟨-, h⟩ | ⟨-, -, h⟩ | ⟨-, -, h⟩
  · rw [h, synError_frame]
  · rw [h]
    rfl
  · rw [h]
    rfl

theorem setCounter_reg_other (c v : Nat) {a : Nat} (h : a ∉ synErrRegs) : (s.setCounter c v).reg a = s.reg a := by
  rcases setCounter_cases s c v with ⟨-, e⟩ | ⟨-, -, e⟩ | ⟨-, -, e⟩
  · rw [e, synError_reg_other _ _ _ _ _ _ h]
  · rw [e]
    rfl
  · rw [e]
    rfl

/-- An accepted set that no frozen dump holds gives the counter the value. -/
theorem setCounter_accepted {c v : Nat} (hr : s.setRefused c = false) (hf : s.frozen = false) (m : Nat) :
    (s.setCounter c v).ctr m = if m = c then { s.ctr c with
      v := v, sat := false, lastUnit := 0x7000, lastTime := s.now, shadowReq := (s.ctr c).shadowReq || (s.ctr c).shadowEn }
    else s.ctr m := by
  have e : s.setCounter c v = s.applySet c v := by simp [State.setCounter, hr, hf]
  rw [e]
  exact ctr_setCtr s c m _

theorem setCounter_refused {c v : Nat} (hr : s.setRefused c = true) : s.setCounter c v = s.synError 8 c 0x7000 := by
  simp [State.setCounter, hr]

/-- The effect of COUNTER_SET: after the activity of the access the words are stored and the counter is set. -/
def State.setEffect (s : State) (p : Path) (c : Nat) (ws : List Word) : State :=
  (s.activity.storeWide Reg.SYN_CTR_SET_LO p ws).setCounter c (words48 ws)

theorem execCounterSet_eq (p : Path) (val : Word) (ha : s.hAnswers = true) :
    execCounterSet p val s =
      done (s.setEffect p (s.fld Reg.SYN_CTR_SEL 15 0) (s.commitWords Reg.SYN_CTR_SET_LO 2 p (val &&& 0xFFFF#32))) := by
  unfold execCounterSet State.hAccess
  rw [if_pos ha, State.setEffect, ← fld_activity s (by decide), ← commitWords_activity s Reg.SYN_CTR_SET_LO 2 p _ (by decide)]
  rfl

theorem setEffect_frame (p : Path) (c : Nat) (ws : List Word) : s.setEffect p c ws = { s with
    sync := (s.setEffect p c ws).sync, wide := (s.setEffect p c ws).wide, regs := (s.setEffect p c ws).regs
    power := (s.setEffect p c ws).power } := by
  have hs := setCounter_frame (s.activity.storeWide Reg.SYN_CTR_SET_LO p ws) c (words48 ws)
  have hw := storeWide_frame s.activity Reg.SYN_CTR_SET_LO p ws
  have ha := activity_frame s
  unfold State.setEffect
  generalize (s.activity.storeWide Reg.SYN_CTR_SET_LO p ws).setCounter c (words48 ws) = v at hs ⊢
  generalize s.activity.storeWide Reg.SYN_CTR_SET_LO p ws = u at hs hw
  generalize s.activity = t at hw ha
  rw [hs]
  dsimp only
  rw [hw]
  dsimp only
  rw [ha]

theorem setEffect_powerFrom (p : Path) (c : Nat) (ws : List Word) : s.PowerFrom (s.setEffect p c ws) := by
  refine powerFrom_activity.congr ?_
  rw [State.setEffect, setCounter_frame, storeWide_frame]

/-- The state in which the set acts asks the same of counters and queues as the state before. -/
theorem storeWide_setRefused (p : Path) (w v : Word) (c : Nat) :
    (s.activity.storeWide Reg.SYN_CTR_SET_LO p [w, v]).setRefused c = s.setRefused c := by
  have hf := storeWide_frame s.activity Reg.SYN_CTR_SET_LO p [w, v]
  refine setRefused_congr s ?_ ?_ ?_ ?_ c
  · rw [hf, activity_sync]
  · rw [hf, activity_roots]
  · rw [hf, activity_sched]
  · rw [storeWide_reg_other _ _ _ _ _ (by decide) (by decide), activity_reg s _ (.inl (by decide))]

theorem storeWide_activity_sync (b : Nat) (p : Path) (ws : List Word) : (s.activity.storeWide b p ws).sync = s.sync := by
  rw [storeWide_frame, activity_sync]

theorem storeWide_activity_now (b : Nat) (p : Path) (ws : List Word) : (s.activity.storeWide b p ws).now = s.now := by
  rw [storeWide_frame]
  unfold State.now
  rw [activity_time]

theorem setEffect_accepted (p : Path) {c : Nat} (w v : Word) (hr : s.setRefused c = false) (hf : s.frozen = false) (m : Nat) :
    (s.setEffect p c [w, v]).ctr m = if m = c then { s.ctr c with
      v := words48 [w, v], sat := false, lastUnit := 0x7000, lastTime := s.now
      shadowReq := (s.ctr c).shadowReq || (s.ctr c).shadowEn } else s.ctr m := by
  have hy := storeWide_activity_sync s Reg.SYN_CTR_SET_LO p [w, v]
  rw [State.setEffect, setCounter_accepted _ (by rw [storeWide_setRefused, hr]) (by rw [frozen_congr s hy, hf]),
    ctr_congr s hy, ctr_congr s hy, storeWide_activity_now]

theorem setEffect_refused (p : Path) {c : Nat} (w v : Word) (hr : s.setRefused c = true) :
    s.setEffect p c [w, v] = (s.activity.storeWide Reg.SYN_CTR_SET_LO p [w, v]).synError 8 c 0x7000 :=
  setCounter_refused _ (by rw [storeWide_setRefused, hr])

theorem setEffect_reg_other (p : Path) (c : Nat) (w v : Word) {a : Nat}
    (h : a ∉ Reg.SYN_CTR_SET_LO :: Reg.SYN_CTR_SET_HI :: synErrRegs) (hl : a ∉ s.latchRegs) :
    (s.setEffect p c [w, v]).reg a = s.reg a := by
  simp only [List.mem_cons, not_or] at h
  obtain ⟨h0, h1, h2⟩ := h
  rw [State.setEffect, setCounter_reg_other _ _ _ h2, storeWide_reg_other _ _ _ _ _ h0 h1, activity_reg_of_notMem s hl]

/-- The frame of a command on a counter: its effect changes counters, a side, and registers. -/
theorem frame_settle_sync {v : State} {changed : List Nat} (hp : s.PowerFrom v)
    (hv : v = { s with sync := v.sync, wide := v.wide, regs := v.regs, power := v.power })
    (hr : ∀ a, a ∉ changed → a ∉ s.latchRegs → v.reg a = s.reg a) :
    s.Frame v.settle
      { s with sync := v.settle.sync, wide := v.settle.wide, regs := v.settle.regs, host := v.settle.host } changed := by
  have hh : v.host = s.host := by rw [hv]
  refine ⟨keeps_settle s hp rfl ?_ hr, eventsFrom_settle s hh⟩
  rw [settle_sync, settle_wide]
  exact settle_eq_of (u := { s with sync := v.sync, wide := v.wide }) (by rw [hh]; exact hv)

/-- A register of the counter stores after a command is that of its effect. -/
theorem settle_reg_of_ne (a : Nat) (h : a ≠ Reg.PWR_STATUS) : s.settle.reg a = s.reg a := settle_reg s a (.inl h)

theorem synError_record (c : Nat) (h : s.bit Reg.SYN_ERR_STATUS 0 = false) :
    (s.synError 8 c 0x7000).fld Reg.SYN_ERR_STATUS 7 4 = 8 ∧
      (s.synError 8 c 0x7000).reg Reg.SYN_ERR_SRC = BitVec.ofNat 32 (c + 0x70000000) := synError_first s 8 c 0x7000 0 0 h

/-- The set half of O35. -/
theorem counterSet_answers (p : Path) (val : Word) (c : Nat) (ws : List Word) (ha : s.hAnswers = true)
    (hc : c = s.fld Reg.SYN_CTR_SEL 15 0) (hws : ws = s.commitWords Reg.SYN_CTR_SET_LO 2 p (val &&& 0xFFFF#32)) :
    Answers (exec (.counterSet p val) s) fun u =>
      (s.setRefused c = false → s.frozen = false → u.ctr c = { s.ctr c with
          v := words48 ws, sat := false, lastUnit := 0x7000, lastTime := s.now, shadowReq := (s.ctr c).shadowReq || (s.ctr c).shadowEn } ∧
        (∀ m, m ≠ c → u.ctr m = s.ctr m)) ∧
      (s.setRefused c = true → u.sync = s.sync ∧ u.bit Reg.SYN_ERR_STATUS 0 = true ∧
        (s.bit Reg.SYN_ERR_STATUS 0 = false → u.fld Reg.SYN_ERR_STATUS 7 4 = 8 ∧ u.reg Reg.SYN_ERR_SRC = BitVec.ofNat 32 (c + 0x70000000))) ∧
      s.Frame u { s with sync := u.sync, wide := u.wide, regs := u.regs, host := u.host }
        (Reg.SYN_CTR_SET_LO :: Reg.SYN_CTR_SET_HI :: synErrRegs) := by
  rw [exec, execCounterSet_eq s p val ha, ← hc, ← hws]
  rw [commitWords_two] at hws
  generalize (s.commitWords Reg.SYN_CTR_SET_LO 2 p (val &&& 0xFFFF#32)).getD 0 0#32 = w at hws
  subst hws
  have hctr := ctr_congr (s.setEffect p c [w, val &&& 0xFFFF#32]) (settle_sync _)
  refine answers_done ⟨fun hr hf => ⟨?_, fun m hm => ?_⟩, fun hr => ?_, ?_⟩
  · rw [hctr, setEffect_accepted s p w _ hr hf, if_pos rfl]
  · rw [hctr, setEffect_accepted s p w _ hr hf, if_neg hm]
  · rw [setEffect_refused s p w _ hr]
    have hbit : (s.activity.storeWide Reg.SYN_CTR_SET_LO p [w, val &&& 0xFFFF#32]).bit Reg.SYN_ERR_STATUS 0 =
        s.bit Reg.SYN_ERR_STATUS 0 := by
      refine bit_congr s ?_ 0
      rw [storeWide_reg_other _ _ _ _ _ (by decide) (by decide), activity_reg s _ (.inl (by decide))]
    refine ⟨?_, ?_, fun h => ?_⟩
    · rw [settle_sync, synError_frame, storeWide_activity_sync]
    · rw [bit_congr _ (settle_reg_of_ne _ _ (by decide)), synError_valid]
    · rw [fld_congr _ (settle_reg_of_ne _ _ (by decide)), settle_reg_of_ne _ _ (by decide)]
      exact synError_record _ c (hbit.trans h)
  · exact frame_settle_sync s (setEffect_powerFrom s p c _) (setEffect_frame s p c _)
      fun a h hl => setEffect_reg_other s p c w _ h hl

/-! ### END_VALUE_COMMIT -/

/-- The selected counter takes an end value from the host: a package counter of the host, or of a queue at rest (R258). -/
def State.endAccepted (s : State) (c : Nat) : Prop :=
  c < 0x1000 ∧ ((s.ctr c).owner = 0x100 ∨ (s.ctr c).owner < 0x100 ∧ s.queueBusy (s.ctr c).owner = false)

theorem endAccepted_activity (c : Nat) : s.activity.endAccepted c ↔ s.endAccepted c := by
  unfold State.endAccepted
  rw [ctr_congr s (activity_sync s), queueBusy_congr s (activity_roots s) (activity_sched s)]

/-- The words that a write of SYN_CTR_END_HI commits. -/
def State.endWords (s : State) (p : Path) (val : Word) : List Word := s.commitWords Reg.SYN_CTR_END_LO 2 p (val &&& 0xFFFF#32)

theorem endCommit_accepted (p : Path) (val : Word) (h : s.endAccepted (s.fld Reg.SYN_CTR_SEL 15 0)) :
    s.endCommit p val = (s.setCtr (s.fld Reg.SYN_CTR_SEL 15 0)
      { s.ctr (s.fld Reg.SYN_CTR_SEL 15 0) with endv := words48 (s.endWords p val) }).storeWide Reg.SYN_CTR_END_LO p
        (s.endWords p val) := by
  unfold State.endCommit
  exact if_pos h

theorem endCommit_refused (p : Path) (val : Word) (h : ¬ s.endAccepted (s.fld Reg.SYN_CTR_SEL 15 0)) :
    s.endCommit p val = (s.synError 8 (s.fld Reg.SYN_CTR_SEL 15 0) 0x7000).committed Reg.SYN_CTR_END_LO 2 p := by
  unfold State.endCommit
  exact if_neg h

theorem endCommit_frame (p : Path) (val : Word) : s.endCommit p val = { s with
    sync := (s.endCommit p val).sync, wide := (s.endCommit p val).wide, regs := (s.endCommit p val).regs } := by
  by_cases h : s.endAccepted (s.fld Reg.SYN_CTR_SEL 15 0)
  · rw [endCommit_accepted s p val h, storeWide_frame]
    rfl
  · rw [endCommit_refused s p val h, committed_eq, State.setSide, synError_frame]

theorem endWords_eq (p : Path) (val : Word) :
    s.endWords p val = [(s.endWords p val).getD 0 0#32, val &&& 0xFFFF#32] := rfl

theorem endCommit_reg_other (p : Path) (val : Word) {a : Nat}
    (h : a ∉ Reg.SYN_CTR_END_LO :: Reg.SYN_CTR_END_HI :: synErrRegs) : (s.endCommit p val).reg a = s.reg a := by
  simp only [List.mem_cons, not_or] at h
  obtain ⟨h0, h1, h2⟩ := h
  by_cases hc : s.endAccepted (s.fld Reg.SYN_CTR_SEL 15 0)
  · rw [endCommit_accepted s p val hc, endWords_eq, storeWide_reg_other _ _ _ _ _ h0 h1, setCtr_reg]
  · rw [endCommit_refused s p val hc, committed_reg, synError_reg_other _ _ _ _ _ _ h2]

/-- An activity does not change the words that the commit takes. -/
theorem endWords_activity (p : Path) (val : Word) : s.activity.endWords p val = s.endWords p val :=
  commitWords_activity s Reg.SYN_CTR_END_LO 2 p _ (by decide)

theorem execEndValueCommit_eq (p : Path) (val : Word) (ha : s.hAnswers = true) :
    execEndValueCommit p val s = done (s.activity.endCommit p val) := by
  unfold execEndValueCommit State.hAccess
  rw [if_pos ha]

theorem endCommit_activity_frame (p : Path) (val : Word) : s.activity.endCommit p val = { s with
    sync := (s.activity.endCommit p val).sync, wide := (s.activity.endCommit p val).wide
    regs := (s.activity.endCommit p val).regs, power := (s.activity.endCommit p val).power } := by
  have hf := endCommit_frame s.activity p val
  have ha := activity_frame s
  generalize s.activity.endCommit p val = v at hf ⊢
  generalize s.activity = t at hf ha
  rw [hf]
  dsimp only
  rw [ha]

/-- The end value half of O35. -/
theorem endValueCommit_answers (p : Path) (val : Word) (c : Nat) (ws : List Word) (ha : s.hAnswers = true)
    (hc : c = s.fld Reg.SYN_CTR_SEL 15 0) (hws : ws = s.endWords p val) :
    Answers (exec (.endValueCommit p val) s) fun u =>
      (c < 0x1000 → ((s.ctr c).owner = 0x100 ∨ (s.ctr c).owner < 0x100 ∧ s.queueBusy (s.ctr c).owner = false) →
        u.ctr c = { s.ctr c with endv := words48 ws } ∧ (∀ m, m ≠ c → u.ctr m = s.ctr m) ∧
        u.reg Reg.SYN_CTR_END_HI = val &&& 0xFFFF#32 ∧ u.reg Reg.SYN_CTR_END_LO = ws.getD 0 0#32) ∧
      ((0x1000 ≤ c ∨ (s.ctr c).owner < 0x100 ∧ s.queueBusy (s.ctr c).owner = true) →
        u.sync = s.sync ∧ u.bit Reg.SYN_ERR_STATUS 0 = true ∧ u.reg Reg.SYN_CTR_END_LO = s.reg Reg.SYN_CTR_END_LO) ∧
      s.Frame u { s with sync := u.sync, wide := u.wide, regs := u.regs, host := u.host }
        (Reg.SYN_CTR_END_LO :: Reg.SYN_CTR_END_HI :: synErrRegs) := by
  rw [exec, execEndValueCommit_eq s p val ha]
  have hsel : s.activity.fld Reg.SYN_CTR_SEL 15 0 = c := by rw [fld_activity s (by decide), hc]
  have hacc : s.activity.endAccepted (s.activity.fld Reg.SYN_CTR_SEL 15 0) ↔ s.endAccepted c := by
    rw [hsel, endAccepted_activity]
  have hw : s.activity.endWords p val = ws := by rw [endWords_activity, hws]
  have hctr := ctr_congr (s.activity.endCommit p val) (settle_sync _)
  refine answers_done ⟨fun h0 h1 => ?_, fun h => ?_, ?_⟩
  · have e := endCommit_accepted s.activity p val (hacc.mpr ⟨h0, h1⟩)
    rw [hsel, hw, ctr_congr s (activity_sync s)] at e
    have hm : ∀ m, (s.activity.endCommit p val).ctr m = if m = c then { s.ctr c with endv := words48 ws } else s.ctr m := by
      intro m
      rw [e, ctr_congr (s.activity.setCtr c _) (by rw [storeWide_frame]), ctr_setCtr, ctr_congr s (activity_sync s)]
    have hwe : ws = [ws.getD 0 0#32, val &&& 0xFFFF#32] := by rw [hws]; rfl
    refine ⟨by rw [hctr, hm, if_pos rfl], fun m hne => by rw [hctr, hm, if_neg hne], ?_, ?_⟩
    · rw [settle_reg_of_ne _ _ (by decide), e, hwe]
      exact storeWide_reg_high _ _ _ _ _
    · rw [settle_reg_of_ne _ _ (by decide), e, hwe, storeWide_reg_low]
      rfl
  · have hn : ¬ s.endAccepted c := by
      rintro ⟨h0, h1 | ⟨h1, h2⟩⟩
      · rcases h with h | ⟨h, -⟩ <;> omega
      · rcases h with h | ⟨-, h⟩
        · omega
        · rw [h] at h2
          exact absurd h2 (by decide)
    have e := endCommit_refused s.activity p val fun c => hn (hacc.mp c)
    rw [e]
    refine ⟨?_, ?_, ?_⟩
    · rw [settle_sync, committed_eq, setSide_sync, synError_frame, activity_sync]
    · rw [bit_congr _ (settle_reg_of_ne _ _ (by decide)), bit_congr _ (committed_reg _ _ _ _ _), synError_valid]
    · rw [settle_reg_of_ne _ _ (by decide), committed_reg, synError_reg_other _ _ _ _ _ _ (by decide),
        activity_reg s _ (.inl (by decide))]
  · refine frame_settle_sync s (powerFrom_activity.congr ?_) (endCommit_activity_frame s p val) fun a h hl => ?_
    · rw [endCommit_frame]
    · rw [endCommit_reg_other _ _ _ h, activity_reg_of_notMem s hl]

/-- Settles O35: the halves for COUNTER_SET and END_VALUE_COMMIT. -/
theorem counterSetAndEnd : Obligations.CounterSetAndEnd := by
  unfold Obligations.CounterSetAndEnd
  exact ⟨counterSet_answers, endValueCommit_answers⟩

end Sys2Proof.Machine
end

section
/-! Resets of the main dies (R12, R48, R460, R518). -/

namespace Sys2Proof.Machine

variable (s : State)

/-! ### Sparse maps put together -/

theorem smap_look_absent {α : Type} (d : α) (m : SMap α) (k : Nat) (h : ∀ e ∈ m, e.1 ≠ k) : SMap.look d m k = d := by
  induction m with
  | nil => rfl
  | cons e t ih =>
    rw [SMap.look, if_neg fun c => h e (by simp) c.symm]
    exact ih fun x hx => h x (by simp [hx])

theorem smap_look_append_left {α : Type} (d : α) (m n : SMap α) (k : Nat) (h : ∀ e ∈ n, e.1 ≠ k) :
    SMap.look d (m ++ n) k = SMap.look d m k := by
  induction m with
  | nil => exact smap_look_absent d n k h
  | cons e t ih => rw [List.cons_append, SMap.look, SMap.look, ih]

theorem smap_look_append_right {α : Type} (d : α) (m n : SMap α) (k : Nat) (h : ∀ e ∈ m, e.1 ≠ k) :
    SMap.look d (m ++ n) k = SMap.look d n k := by
  induction m with
  | nil => rfl
  | cons e t ih =>
    rw [List.cons_append, SMap.look, if_neg fun c => h e (by simp) c.symm]
    exact ih fun x hx => h x (by simp [hx])

/-- A key that a filter lets through reads as before. -/
theorem smap_look_filter {α : Type} (d : α) (m : SMap α) (p : Nat → Bool) (k : Nat) (h : p k = true) :
    SMap.look d (m.filter fun e => p e.1) k = SMap.look d m k := by
  induction m with
  | nil => rfl
  | cons e t ih =>
    by_cases hk : k = e.1
    · rw [List.filter_cons_of_pos (by rw [← hk, h]), SMap.look, SMap.look, if_pos hk, if_pos hk]
    · rw [SMap.look, if_neg hk, ← ih, List.filter_cons]
      split
      · rw [SMap.look, if_neg hk]
      · rfl

/-- A key that a filter stops is absent. -/
theorem filter_keys {α : Type} (m : SMap α) (p : Nat → Bool) (k : Nat) (h : p k = false) :
    ∀ e ∈ m.filter fun e => p e.1, e.1 ≠ k := by
  intro e he c
  rw [List.mem_filter, c, h] at he
  exact absurd he.2 (by decide)

/-- Entries put one by one, the first last: a key reads as the first entry for it, or as before. -/
theorem smap_look_foldr_put {α : Type} [DecidableEq α] (d : α) (l m : SMap α) (k : Nat) :
    SMap.look d (l.foldr (fun e acc => SMap.put d acc e.1 e.2) m) k = SMap.look (SMap.look d m k) l k := by
  induction l with
  | nil => rfl
  | cons e t ih => rw [List.foldr_cons, smap_look_put, SMap.look, ih]

/-- A key that is listed reads the same whatever an unlisted one reads as. -/
theorem smap_look_listed {α : Type} (d d' : α) (m : SMap α) (k : Nat) (h : SMap.look d m k ≠ d) :
    SMap.look d' m k = SMap.look d m k := by
  induction m with
  | nil => exact absurd rfl h
  | cons e t ih =>
    rw [SMap.look] at h ⊢
    rw [SMap.look]
    split
    · rfl
    · next hk => exact ih (by rwa [if_neg hk] at h)

theorem smap_mem_enter {α : Type} (m : SMap α) (k : Nat) (v : α) : ∀ e ∈ m.enter k v, e = (k, v) ∨ e ∈ m := by
  induction m with
  | nil => simp [SMap.enter]
  | cons x t ih =>
    intro e he
    rw [SMap.enter] at he
    split at he
    · simpa using he
    · rw [List.mem_cons] at he
      rcases he with rfl | he
      · simp
      · rcases ih e he with h | h <;> simp [h]

/-- The keys of a map after a write. -/
theorem smap_put_keys {α : Type} [DecidableEq α] (d : α) (m : SMap α) (k : Nat) (v : α) (P : Nat → Prop) (hk : P k)
    (h : ∀ e ∈ m, P e.1) : ∀ e ∈ m.put d k v, P e.1 := by
  intro e he
  unfold SMap.put at he
  split at he
  · exact h e (List.mem_filter.mp he).1
  · rcases smap_mem_enter _ _ _ e he with rfl | he
    · exact hk
    · exact h e (List.mem_filter.mp he).1

theorem smap_foldr_put_keys {α : Type} [DecidableEq α] (d : α) (l m : SMap α) (P : Nat → Prop) (hl : ∀ e ∈ l, P e.1)
    (h : ∀ e ∈ m, P e.1) : ∀ e ∈ l.foldr (fun e acc => SMap.put d acc e.1 e.2) m, P e.1 := by
  induction l with
  | nil => exact h
  | cons x t ih =>
    exact smap_put_keys d _ _ _ P (hl x (by simp)) (ih fun e he => hl e (by simp [he]))

/-! ### The register file after a reset of the main dies (R12) -/

theorem mainResets_keys : ∀ e ∈ mainResets, isTileReg e.1 = false := by decide
theorem tileResets_keys : ∀ e ∈ tileResets, isTileReg e.1 = true := by decide

theorem isTileReg_of_isRws {a : Nat} (h : isRws a = true) : isTileReg a = false := by
  simp only [isRws, Bool.or_eq_true, Bool.and_eq_true, decide_eq_true_eq] at h
  simp only [isTileReg, decide_eq_false_iff_not]
  rcases h with h | rfl
  · omega
  · decide

/-- The main-die registers that a reset leaves: their Reset values, after a warm reset under the RWS registers kept. -/
def mainRegs (warm : Bool) (m : SMap Word) : SMap Word :=
  if warm then (m.filter fun e => isRws e.1).foldr (fun e acc => SMap.put 0#32 acc e.1 e.2) mainResets else mainResets

theorem resetRegs_eq (warm : Bool) (m : SMap Word) : resetRegs warm m = mainRegs warm m ++ m.filter fun e => isTileReg e.1 := rfl

theorem mainRegs_keys (warm : Bool) (m : SMap Word) : ∀ e ∈ mainRegs warm m, isTileReg e.1 = false := by
  unfold mainRegs
  split
  · refine smap_foldr_put_keys 0#32 _ _ (fun a => isTileReg a = false) (fun e he => ?_) mainResets_keys
    exact isTileReg_of_isRws (List.mem_filter.mp he).2
  · exact mainResets_keys

/-- A tile register stays. -/
theorem look_resetRegs_tile (warm : Bool) (m : SMap Word) {a : Nat} (h : isTileReg a = true) :
    SMap.look 0#32 (resetRegs warm m) a = SMap.look 0#32 m a := by
  rw [resetRegs_eq, smap_look_append_right, smap_look_filter _ _ _ _ h]
  intro e he c
  have := mainRegs_keys warm m e he
  rw [c, h] at this
  exact absurd this (by decide)

theorem look_resetRegs_main (warm : Bool) (m : SMap Word) {a : Nat} (h : isTileReg a = false) :
    SMap.look 0#32 (resetRegs warm m) a = SMap.look 0#32 (mainRegs warm m) a := by
  rw [resetRegs_eq, smap_look_append_left _ _ _ _ (filter_keys m isTileReg a h)]

theorem look_mainResets {a : Nat} (h : isTileReg a = false) : SMap.look 0#32 mainResets a = resetValue a := by
  rw [resetValue, smap_look_append_left]
  intro e he c
  have := tileResets_keys e he
  rw [c, h] at this
  exact absurd this (by decide)

/-- A main-die register that the reset does not keep takes its Reset value. -/
theorem look_resetRegs_reset (warm : Bool) (m : SMap Word) {a : Nat} (h : isTileReg a = false)
    (hk : warm = false ∨ isRws a = false) :
    SMap.look 0#32 (resetRegs warm m) a = resetValue a := by
  rw [look_resetRegs_main warm m h, mainRegs]
  split
  · next hw =>
    have hr : isRws a = false := hk.resolve_left (by rw [hw]; decide)
    rw [smap_look_foldr_put, smap_look_absent _ _ _ (filter_keys m isRws a hr), look_mainResets h]
  · exact look_mainResets h

/-- A register kept over a warm reset holds its value. -/
theorem look_resetRegs_kept (m : SMap Word) {a : Nat} (hr : isRws a = true) (hn : SMap.look 0#32 m a ≠ 0#32) :
    SMap.look 0#32 (resetRegs true m) a = SMap.look 0#32 m a := by
  have hf := smap_look_filter 0#32 m isRws a hr
  rw [look_resetRegs_main true m (isTileReg_of_isRws hr), mainRegs, if_pos rfl, smap_look_foldr_put,
    smap_look_listed 0#32 _ _ _ (by rwa [hf]), hf]

/-! ### A reset of the main dies -/

theorem mainReset_reg (kind a : Nat) : (s.mainReset kind).reg a =
    if a = Reg.PWR_RST_CAUSE then BitVec.ofNat 32 kind else SMap.look 0#32 (resetRegs (decide (kind = 2)) s.regs) a :=
  smap_look_put _ _ _ _ _

/-- With the main dies in reset no event is raised, and what follows a command is told by the host link alone. -/
theorem settle_of_down (h : s.mainUp = false) : s.settle = { s with host := s.afterEvents } := by
  have e : s.evtRises = false := by rw [State.evtRises, h, Bool.false_and]
  unfold State.settle
  rw [e]
  rfl

/-- The state after a reset of the main dies with a power controller `q`. -/
def State.afterReset (s : State) (q : Power) (kind : Nat) : State := (({ s with power := q } : State).mainReset kind).settle

theorem afterReset_eq (q : Power) (kind : Nat) : s.afterReset q kind =
    { ({ s with power := q } : State).mainReset kind with host := (({ s with power := q } : State).mainReset kind).afterEvents } :=
  settle_of_down _ rfl

theorem runOrHold_iff : s.runOrHold = true ↔
    s.power.state = .run ∨ s.power.state = .hold ∨ s.power.state = .toHold ∨ s.power.state = .fromHold := by
  unfold State.runOrHold
  cases s.power.state <;> simp

/-- PERST# in RUN, in HOLD or in a transition between them resets the main dies. -/
theorem execWarmReset_of_runOrHold (h : s.runOrHold = true) :
    execWarmReset s = done (({ s with power := { s.power with perst := false } } : State).mainReset 2) := by
  unfold execWarmReset
  rcases (runOrHold_iff s).mp h with h | h | h | h <;> simp only [h]

/-- PERST# in any other state than these and an exit to RUN only shows that it is low. -/
theorem execWarmReset_of_low (h : s.runOrHold = false) (hx : s.power.state ≠ .toRun) :
    execWarmReset s = done { s with power := { s.power with perst := false } } := by
  unfold execWarmReset
  have hn := mt (runOrHold_iff s).mpr (by rw [h]; decide)
  cases hs : s.power.state <;> simp only [hs] at hn hx ⊢ <;> simp at hn hx

/-- The commands that reset the main dies, with the kind that PWR_RST_CAUSE shows. -/
theorem exec_resets {c : Instr} {kind : Nat}
    (h : c = .powerOnReset ∧ kind = 1 ∨ c = .supervisorReset ∧ kind = 1 ∧ s.power.pgMain = true ∨
      c = .warmReset ∧ kind = 2 ∧ s.runOrHold = true ∨
      c = .warmReset ∧ kind = s.fld Reg.PWR_RST_CAUSE 1 0 ∧ s.power.state = .toRun) :
    exec c s = .next (s.afterReset (if c = .warmReset then { s.power with perst := false } else s.power) kind) := by
  rcases h with ⟨rfl, rfl⟩ | ⟨rfl, rfl, h⟩ | ⟨rfl, rfl, h⟩ | ⟨rfl, rfl, h⟩
  · rw [if_neg (by decide)]
    rfl
  · rw [if_neg (by decide), exec, execSupervisorReset, if_pos h]
    rfl
  · rw [if_pos rfl, exec]
    exact execWarmReset_of_runOrHold s h
  · rw [if_pos rfl, exec]
    unfold execWarmReset
    simp only [h]
    rfl

/-- The parts of the state after a reset of the main dies, the register file apart. -/
theorem afterReset_parts (q : Power) (kind : Nat) :
    let t := s.afterReset q kind
    t.mainUp = false ∧ (∀ a, 0x8000000000000000 ≤ a → t.byte a = s.byte a) ∧
      t.sched = {} ∧ t.sync = {} ∧ t.roots = {} ∧ t.ingest = {} ∧ t.engines = {} ∧ t.links = {} ∧ t.time = {} ∧
      t.meas = s.meas ∧ t.learn = s.learn ∧ t.subCopy = s.subCopy ∧ t.pending = s.pending ∧ t.power = q := by
  rw [afterReset_eq]
  exact ⟨rfl, fun a ha => smap_look_filter 0#8 s.mem (fun k => decide (0x8000000000000000 ≤ k)) a (decide_eq_true ha),
    rfl, rfl, rfl, rfl, rfl, rfl, rfl, rfl, rfl, rfl, rfl, rfl⟩

/-- The register file after a reset of the main dies: the cause shows the kind, and any other register reads as `resetRegs`
gives it. -/
theorem afterReset_reg (q : Power) (kind a : Nat) : (s.afterReset q kind).reg a =
    if a = Reg.PWR_RST_CAUSE then BitVec.ofNat 32 kind else SMap.look 0#32 (resetRegs (decide (kind = 2)) s.regs) a := by
  rw [afterReset_eq]
  exact mainReset_reg _ kind a

theorem afterReset_reg_cause (q : Power) (kind : Nat) : (s.afterReset q kind).reg Reg.PWR_RST_CAUSE = BitVec.ofNat 32 kind := by
  rw [afterReset_reg, if_pos rfl]

theorem afterReset_reg_tile (q : Power) (kind : Nat) {a : Nat} (h : isTileReg a = true) :
    (s.afterReset q kind).reg a = s.reg a := by
  rw [afterReset_reg, if_neg (by rintro rfl; exact absurd h (by decide)), look_resetRegs_tile _ _ h]
  rfl

theorem afterReset_reg_reset (q : Power) {kind a : Nat} (h : isTileReg a = false) (hc : a ≠ Reg.PWR_RST_CAUSE)
    (hk : kind ≠ 2 ∨ isRws a = false) : (s.afterReset q kind).reg a = resetValue a := by
  rw [afterReset_reg, if_neg hc, look_resetRegs_reset _ _ h (hk.imp_left fun c => decide_eq_false c)]

theorem afterReset_reg_kept (q : Power) {a : Nat} (h : isRws a = true) (hn : s.reg a ≠ 0#32) :
    (s.afterReset q 2).reg a = s.reg a := by
  rw [afterReset_reg, if_neg (by rintro rfl; exact absurd h (by decide))]
  exact look_resetRegs_kept s.regs h hn

/-- Settles O12: every reset ends in `State.afterReset`; the other two transitions by their definitions. -/
theorem mainDieResetsByKind : Obligations.MainDieResetsByKind := by
  unfold Obligations.MainDieResetsByKind
  refine ⟨fun s c kind h => ⟨_, exec_resets s h, ?_⟩, fun s h => ?_, fun s h hx => ?_⟩
  · generalize (if c = .warmReset then { s.power with perst := false } else s.power) = q
    obtain ⟨hup, hmem, hsched, hsync, hroots, hing, heng, hlinks, htime, hmeas, hlearn, hsub, hpend, hpow⟩ :=
      afterReset_parts s q kind
    refine ⟨hup, hmem, hsched, hsync, hroots, hing, heng, hlinks, htime, hmeas, hlearn, hsub, hpend, hpow,
      fun _ => ⟨?_, ?_, ?_, ?_⟩⟩
    · exact afterReset_reg_cause s q kind
    · exact fun a ha => afterReset_reg_tile s q kind ha
    · exact fun a ha hc hk => afterReset_reg_reset s q ha hc hk
    · rintro rfl a _ ha hn
      exact afterReset_reg_kept s q ha hn
  · rw [exec, execSupervisorReset, if_neg (by rw [h]; decide)]
    rfl
  · rw [exec, execWarmReset_of_low s h hx]
    rfl

end Sys2Proof.Machine
end

section
/-! What the operations on the state leave of the queue of waiting commands. -/

namespace Sys2Proof.Machine

variable (s : State)

/- One lemma per operation on the state: it leaves the queue of waiting commands. The proofs follow the operation's own
branches and cite the lemmas of the operations it is made of. They are given to `simp` without definitional unfolding
(`-implicitDefEqProofs`): a step that holds by `rfl` would have the kernel compare whole states field by field. -/

@[simp] theorem pending_ite (c : Prop) [Decidable c] (a b : State) :
    (if c then a else b).pending = if c then a.pending else b.pending :=
  apply_ite _ _ _ _

/-- A fold of operations that each leave the queue leaves it. -/
@[simp] theorem foldl_pending {α : Type} {f : State → α → State} (h : ∀ t x, (f t x).pending = t.pending)
    (l : List α) (s : State) : (l.foldl f s).pending = s.pending := by
  induction l generalizing s with
  | nil => rfl
  | cons x t ih => rw [List.foldl_cons, ih, h]

/-! ### Registers, memory bytes and faults -/

@[simp] theorem setRegs_pending (a : Nat) (ws : List Word) : (s.setRegs a ws).pending = s.pending := by
  induction ws generalizing s a with
  | nil => rfl
  | cons w t ih => rw [State.setRegs, ih, setReg_pending]
@[simp] theorem plain_pending (a : Nat) (v : Word) : (s.plain a v).pending = s.pending := by
  unfold State.plain
  split <;> simp -implicitDefEqProofs
@[simp] theorem plainWords_pending (a : Nat) (ws : List Word) : (s.plainWords a ws).pending = s.pending := by
  induction ws generalizing s a with
  | nil => rfl
  | cons w t ih => rw [State.plainWords, ih, plain_pending]
@[simp] theorem recordFirst_pending (a : Nat) (put : State → State) (hput : ∀ t, (put t).pending = t.pending) :
    (s.recordFirst a put).pending = s.pending := by
  simp -implicitDefEqProofs [State.recordFirst, hput]
@[simp] theorem accErr_pending (tile : Bool) (n : Nat) (wr : Bool) (path a : Nat) :
    (s.accErr tile n wr path a).pending = s.pending := by
  simp -implicitDefEqProofs [State.accErr]
@[simp] theorem badWrite_pending (p : Path) (a : Nat) : (s.badWrite p a).pending = s.pending := by
  simp -implicitDefEqProofs [State.badWrite]
@[simp] theorem writeByte_pending (a : Nat) (b : Byte) : (s.writeByte a b).pending = s.pending := by
  simp -implicitDefEqProofs [State.writeByte]
@[simp] theorem scramble_pending (a : Nat) (n : Nat) : (s.scramble a n).pending = s.pending := by
  induction n generalizing s a with
  | zero => rfl
  | succ n ih => rw [State.scramble, ih, draw_pending, writeByte_pending]
@[simp] theorem addrFault_pending (src : Nat) (wr : Bool) (kind a stream : Nat) :
    (s.addrFault src wr kind a stream).pending = s.pending := by
  simp -implicitDefEqProofs [State.addrFault]
@[simp] theorem raise_pending (f : FaultReport) : (s.raise f).pending = s.pending := by
  simp -implicitDefEqProofs [State.raise]

/-! ### Memory -/

@[simp] theorem eccShow_pending (arr : SramArray) (word : Nat) (ue scrub : Bool) :
    (s.eccShow arr word ue scrub).pending = s.pending := by
  simp -implicitDefEqProofs [State.eccShow]
@[simp] theorem eccRecord_pending (arr : SramArray) (word : Nat) (ue scrub : Bool) :
    (s.eccRecord arr word ue scrub).pending = s.pending := by
  simp -implicitDefEqProofs [State.eccRecord]
@[simp] theorem eccFound_pending (e : EccError) (scrub : Bool) : (s.eccFound e scrub).pending = s.pending := by
  simp -implicitDefEqProofs [State.eccFound]
@[simp] theorem eccReadSpans_pending (ps : List (SramArray × Nat × Nat)) (scrub : Bool) :
    (s.eccReadSpans ps scrub).pending = s.pending := by
  simp -implicitDefEqProofs [State.eccReadSpans]
@[simp] theorem eccReads_pending (rs : List (Nat × Nat)) : (s.eccReads rs).pending = s.pending := by
  simp -implicitDefEqProofs [State.eccReads]
@[simp] theorem eccRead_pending (a n : Nat) : (s.eccRead a n).pending = s.pending := by
  simp -implicitDefEqProofs [State.eccRead]
@[simp] theorem eccOverwrite_pending (p : SramArray × Nat × Nat) : (s.eccOverwrite p).pending = s.pending := by
  simp -implicitDefEqProofs [State.eccOverwrite]
@[simp] theorem flipBit_pending (a p : Nat) : (s.flipBit a p).pending = s.pending := by
  simp -implicitDefEqProofs [State.flipBit]
@[simp] theorem flipTwo_pending (a : Nat) : (s.flipTwo a).pending = s.pending := by simp -implicitDefEqProofs [State.flipTwo]
@[simp] theorem eccWriteSpan_pending (p : SramArray × Nat × Nat) : (s.eccWriteSpan p).pending = s.pending := by
  simp -implicitDefEqProofs [State.eccWriteSpan]
@[simp] theorem spanWrite_pending (p : SramArray × Nat × Nat) : (s.spanWrite p).pending = s.pending := by
  unfold State.spanWrite
  split <;> simp -implicitDefEqProofs
@[simp] theorem store_pending (a : Nat) (bs : List Byte) : (s.store a bs).pending = s.pending := by
  simp -implicitDefEqProofs [State.store]
@[simp] theorem plantFlaw_pending (arr : SramArray) (word : Nat) (flaw : Flaw) :
    (s.plantFlaw arr word flaw).pending = s.pending := by
  unfold State.plantFlaw
  split <;> simp -implicitDefEqProofs
@[simp] theorem train_pending : s.train.pending = s.pending := by simp -implicitDefEqProofs [State.train]
@[simp] theorem clrEcc_pending : s.clrEcc.pending = s.pending := by simp -implicitDefEqProofs [State.clrEcc]
@[simp] theorem clrSpill_pending : s.clrSpill.pending = s.pending := by simp -implicitDefEqProofs [State.clrSpill]
@[simp] theorem creditError_pending (c : CreditError) : (s.creditError c).pending = s.pending := by
  simp -implicitDefEqProofs [State.creditError]
@[simp] theorem pairLost_pending : s.pairLost.pending = s.pending := by simp -implicitDefEqProofs [State.pairLost]
@[simp] theorem linkFail_pending (i : Nat) : (s.linkFail i).pending = s.pending := by
  simp -implicitDefEqProofs [State.linkFail]
@[simp] theorem pairTrain_pending (p : Path) : (s.pairTrain p).pending = s.pending := by
  simp -implicitDefEqProofs [State.pairTrain]
@[simp] theorem pairStop_pending : s.pairStop.pending = s.pending := by simp -implicitDefEqProofs [State.pairStop]
@[simp] theorem lnkClr_pending : s.lnkClr.pending = s.pending := by simp -implicitDefEqProofs [State.lnkClr]

/-! ### Queues -/

@[simp] theorem mapCtxs_pending (ks : List Nat) (f : Ctx → Ctx) : (s.mapCtxs ks f).pending = s.pending := by
  simp -implicitDefEqProofs [State.mapCtxs]
@[simp] theorem unspecify_pending (o : Op) (keep : Nat → Nat → Bool) : (s.unspecify o keep).pending = s.pending := by
  simp -implicitDefEqProofs [State.unspecify]
@[simp] theorem blur_pending (o : Op) (a n : Nat) : (s.blur o a n).pending = s.pending := by
  simp -implicitDefEqProofs [State.blur]
@[simp] theorem withdraw_pending (k : Nat) : (s.withdraw k).pending = s.pending := by
  unfold State.withdraw
  split <;> simp -implicitDefEqProofs
@[simp] theorem dropUnits_pending (q : Nat) : (s.dropUnits q).pending = s.pending := by
  simp -implicitDefEqProofs [State.dropUnits]
@[simp] theorem stopQueue_pending (q : Nat) (keep : Op → Nat → Nat → Bool) : (s.stopQueue q keep).pending = s.pending := by
  simp -implicitDefEqProofs [State.stopQueue]
@[simp] theorem recordOpFault_pending (q cause code : Nat) (slot : Option Nat) (entry : Nat) :
    (s.recordOpFault q cause code slot entry).pending = s.pending := by
  simp -implicitDefEqProofs [State.recordOpFault]
@[simp] theorem faultQueue_pending (q cause code : Nat) (slot : Option Nat) (entry : Nat) (keep : Op → Nat → Nat → Bool) :
    (s.faultQueue q cause code slot entry keep).pending = s.pending := by
  simp -implicitDefEqProofs [State.faultQueue]
@[simp] theorem contractError_pending (k code : Nat) (slot : Option Nat) :
    (s.contractError k code slot).pending = s.pending := by
  simp -implicitDefEqProofs [State.contractError]
@[simp] theorem opAddrFault_pending (q entry : Nat) (wr : Bool) (fs : List (Nat × Nat)) :
    (s.opAddrFault q entry wr fs).pending = s.pending := by
  unfold State.opAddrFault
  split <;> simp -implicitDefEqProofs
@[simp] theorem haltCheck_pending (q : Nat) : (s.haltCheck q).pending = s.pending := by
  simp -implicitDefEqProofs [State.haltCheck]

/-! ### Wide values -/

@[simp] theorem stage_pending (base n i : Nat) (p : Path) (w : Word) : (s.stage base n i p w).pending = s.pending := by
  simp -implicitDefEqProofs [State.stage]
@[simp] theorem committed_pending (base n : Nat) (p : Path) : (s.committed base n p).pending = s.pending := by
  simp -implicitDefEqProofs [State.committed]

/-! ### Counter stores -/

@[simp] theorem synError_pending (code ctr unit : Nat) (tag : Nat) (base : Nat) :
    (s.synError code ctr unit tag base).pending = s.pending := by
  simp -implicitDefEqProofs [State.synError]
@[simp] theorem syncFault_pending (k : Nat) : (s.syncFault k).pending = s.pending := by
  simp -implicitDefEqProofs [State.syncFault]
@[simp] theorem monError_pending (m : Nat) : (s.monError m).pending = s.pending := by
  simp -implicitDefEqProofs [State.monError]
@[simp] theorem monStart_pending (m : Nat) (n : Nat) : (s.monStart m n).pending = s.pending := by
  induction n generalizing s with
  | zero => rfl
  | succ n ih => simp -implicitDefEqProofs [State.monStart, ih]
@[simp] theorem monEnd_pending (m : Nat) (n : Nat) : (s.monEnd m n).pending = s.pending := by
  induction n generalizing s with
  | zero => rfl
  | succ n ih =>
    rw [State.monEnd]
    dsimp only
    split <;> simp -implicitDefEqProofs [ih]
@[simp] theorem monitors_pending (c n : Nat) : (s.monitors c n).pending = s.pending := by
  simp -implicitDefEqProofs [State.monitors]
@[simp] theorem wake_pending (k : Nat) : (s.wake k).pending = s.pending := by simp -implicitDefEqProofs [State.wake]
@[simp] theorem applyAdd_pending (c k unit : Nat) : (s.applyAdd c k unit).pending = s.pending := by
  simp -implicitDefEqProofs [State.applyAdd]
@[simp] theorem addCtr_pending (c k unit : Nat) : (s.addCtr c k unit).pending = s.pending := by
  simp -implicitDefEqProofs [State.addCtr]
@[simp] theorem hostAdd_pending (p : Path) (n amount : Nat) : (s.hostAdd p n amount).pending = s.pending := by
  simp -implicitDefEqProofs [State.hostAdd]
@[simp] theorem shadowOut_pending (x : Counter) : (s.shadowOut x).pending = s.pending := by
  simp -implicitDefEqProofs [State.shadowOut]
@[simp] theorem applySet_pending (c v : Nat) : (s.applySet c v).pending = s.pending := by
  simp -implicitDefEqProofs [State.applySet]
@[simp] theorem setCounter_pending (c v : Nat) : (s.setCounter c v).pending = s.pending := by
  simp -implicitDefEqProofs [State.setCounter]
@[simp] theorem counterSet_pending (p : Path) (val : Word) : (s.counterSet p val).pending = s.pending := by
  simp -implicitDefEqProofs [State.counterSet]
@[simp] theorem endCommit_pending (p : Path) (val : Word) : (s.endCommit p val).pending = s.pending := by
  simp -implicitDefEqProofs [State.endCommit]
@[simp] theorem capture_pending (p : Path) (val : Word) : (s.capture p val).pending = s.pending := by
  unfold State.capture
  dsimp only
  rw [pending_ite, badWrite_pending, ite_self, foldl_pending]
  · simp -implicitDefEqProofs
  · intro t i
    split <;> simp -implicitDefEqProofs
@[simp] theorem endCheck_pending (owner : Nat) : (s.endCheck owner).pending = s.pending := by
  unfold State.endCheck
  dsimp only
  split <;> simp -implicitDefEqProofs
@[simp] theorem synClr_pending : s.synClr.pending = s.pending := by simp -implicitDefEqProofs [State.synClr]
@[simp] theorem forward_pending (a : Arrival) (b m : Nat) : (s.forward a b m).pending = s.pending := by
  simp -implicitDefEqProofs [State.forward]
@[simp] theorem advanceNode_pending (a : Arrival) (fuel : Nat) : (s.advanceNode a fuel).pending = s.pending := by
  induction fuel generalizing s with
  | zero => rfl
  | succ n ih => simp -implicitDefEqProofs [State.advanceNode, ih]
@[simp] theorem discardArrival_pending (a : Arrival) (code base : Nat) :
    (s.discardArrival a code base).pending = s.pending := by
  unfold State.discardArrival
  split <;> simp -implicitDefEqProofs
@[simp] theorem arrive_pending (a : Arrival) : (s.arrive a).pending = s.pending := by
  unfold State.arrive
  dsimp only
  (repeat' split) <;> simp -implicitDefEqProofs
@[simp] theorem hostArrive_pending (root tag unit : Nat) : (s.hostArrive root tag unit).pending = s.pending := by
  simp -implicitDefEqProofs [State.hostArrive]
@[simp] theorem releaseHeld_pending : s.releaseHeld.pending = s.pending := by
  unfold State.releaseHeld
  rw [foldl_pending]
  intro t h
  cases h <;> simp -implicitDefEqProofs
@[simp] theorem dumpStart_pending (freeze : Bool) : (s.dumpStart freeze).pending = s.pending := by
  simp -implicitDefEqProofs [State.dumpStart]

/-! ### Roots and tables -/

@[simp] theorem setRoot_pending (t : Root) (x : Table) : (s.setRoot t x).pending = s.pending := by
  unfold State.setRoot
  split <;> simp -implicitDefEqProofs
@[simp] theorem commitRoot_pending (t : Root) : (s.commitRoot t).pending = s.pending := by
  simp -implicitDefEqProofs [State.commitRoot]
@[simp] theorem sotEntry_pending (base n : Nat) : (s.sotEntry base n).pending = s.pending := by
  simp -implicitDefEqProofs [State.sotEntry]
@[simp] theorem loadSot_pending : s.loadSot.pending = s.pending := by simp -implicitDefEqProofs [State.loadSot]
@[simp] theorem loadEnds_pending (t : Root) : (s.loadEnds t).pending = s.pending := by
  unfold State.loadEnds
  split <;> simp -implicitDefEqProofs

/-! ### Resets, alignment and the voltage loop -/

@[simp] theorem mainReset_pending (kind : Nat) : (s.mainReset kind).pending = s.pending := by
  simp -implicitDefEqProofs [State.mainReset]
@[simp] theorem restoreSubs_pending : s.restoreSubs.pending = s.pending := by simp -implicitDefEqProofs [State.restoreSubs]
@[simp] theorem releaseReset_pending : s.releaseReset.pending = s.pending := by simp -implicitDefEqProofs [State.releaseReset]
@[simp] theorem markerGone_pending (d : Nat) (side : Bool) : (s.markerGone d side).pending = s.pending := by
  simp -implicitDefEqProofs [State.markerGone]
@[simp] theorem startCrossing_pending (d : Nat) (side : Bool) : (s.startCrossing d side).pending = s.pending := by
  simp -implicitDefEqProofs [State.startCrossing]
@[simp] theorem setHeadroom_pending : s.setHeadroom.pending = s.pending := by
  unfold State.setHeadroom
  dsimp only
  split <;> simp -implicitDefEqProofs
@[simp] theorem recordEnables_pending : s.recordEnables.pending = s.pending := by
  simp -implicitDefEqProofs [State.recordEnables]
@[simp] theorem avsUpdate_pending (hottest : Int) : (s.avsUpdate hottest).pending = s.pending := by
  simp -implicitDefEqProofs [State.avsUpdate]
@[simp] theorem monitorEnable_pending (m : Nat) (val : Word) : (s.monitorEnable m val).pending = s.pending := by
  simp -implicitDefEqProofs [State.monitorEnable]

/-! ### Statistics -/

@[simp] theorem statInc_pending (a cfg b k : Nat) : (s.statInc a cfg b k).pending = s.pending := by
  simp -implicitDefEqProofs [State.statInc]
@[simp] theorem statAdd_pending (n count err clips const nonfin : Nat) :
    (s.statAdd n count err clips const nonfin).pending = s.pending := by
  simp -implicitDefEqProofs [State.statAdd]
@[simp] theorem statRow_pending (entry : Nat) (e : Encoded) : (s.statRow entry e).pending = s.pending := by
  simp -implicitDefEqProofs [State.statRow]
@[simp] theorem qntClear_pending (n : Nat) : (s.qntClear n).pending = s.pending := by
  simp -implicitDefEqProofs [State.qntClear]
@[simp] theorem qntSnap_pending (n : Nat) : (s.qntSnap n).pending = s.pending := by simp -implicitDefEqProofs [State.qntSnap]
@[simp] theorem qntCfgWrite_pending (n : Nat) (val : Word) : (s.qntCfgWrite n val).pending = s.pending := by
  simp -implicitDefEqProofs [State.qntCfgWrite]

/-! ### Engines -/

@[simp] theorem satRecord_pending (o : Op) (eng : Nat) : (s.satRecord o eng).pending = s.pending := by
  simp -implicitDefEqProofs [State.satRecord]
@[simp] theorem writePiece_pending (o : Op) (t r scale : Nat) (ls : List CombLane) :
    (s.writePiece o t r scale ls).pending = s.pending := by
  unfold State.writePiece
  dsimp only
  (repeat' split) <;> simp -implicitDefEqProofs
@[simp] theorem showPart_pending (p : OpPart) (rows : Nat) : (s.showPart p rows).pending = s.pending := by
  unfold State.showPart
  split <;> simp -implicitDefEqProofs
@[simp] theorem progress_pending (q entry core : Nat) : (s.progress q entry core).pending = s.pending := by
  unfold State.progress
  dsimp only
  (repeat' split) <;> simp -implicitDefEqProofs
@[simp] theorem hashed_pending (o : Op) (r place n a : Nat) (bs : List Byte) :
    (s.hashed o r place n a bs).pending = s.pending := by
  unfold State.hashed
  split <;> simp -implicitDefEqProofs
@[simp] theorem pieceDone_pending (o : Op) (t r : Nat) (sat : Bool) : (s.pieceDone o t r sat).pending = s.pending := by
  unfold State.pieceDone
  split <;> simp -implicitDefEqProofs
@[simp] theorem engRecord_pending (o : Op) (cause eng : Nat) (row : Option Nat) (rru : Bool) :
    (s.engRecord o cause eng row rru).pending = s.pending := by
  simp -implicitDefEqProofs [State.engRecord]
@[simp] theorem completeBefore_pending (o : Op) (pass row : Nat) : (s.completeBefore o pass row).pending = s.pending := by
  simp -implicitDefEqProofs [State.completeBefore]
@[simp] theorem engStop_pending (o : Op) (pass row : Nat) : (s.engStop o pass row).pending = s.pending := by
  simp -implicitDefEqProofs [State.engStop]
@[simp] theorem engFault_pending (o : Op) (cause eng pass row : Nat) :
    (s.engFault o cause eng pass row).pending = s.pending := by
  unfold State.engFault
  split <;> simp -implicitDefEqProofs
@[simp] theorem engFaultIssue_pending (o : Op) (cause : Nat) (more : Bool) :
    (s.engFaultIssue o cause more).pending = s.pending := by
  simp -implicitDefEqProofs [State.engFaultIssue]
@[simp] theorem opAccess_pending (o : Op) (core : Nat) (reads writes : List (Nat × Nat)) (k : State → State) (hk :
    ∀ t, (k t).pending = t.pending) : (s.opAccess o core reads writes k).pending = s.pending := by
  unfold State.opAccess
  split
  · split <;> simp -implicitDefEqProofs [hk]
  · rfl
@[simp] theorem opWrite_pending (o : Op) (writes : List (Nat × Nat)) (k : State → State) (hk :
    ∀ t, (k t).pending = t.pending) : (s.opWrite o writes k).pending = s.pending := by
  unfold State.opWrite
  split <;> simp -implicitDefEqProofs [hk]
@[simp] theorem granted_pending (key c : Nat) : (s.granted key c).pending = s.pending := by
  simp -implicitDefEqProofs [State.granted]
@[simp] theorem countLoad_pending (a n : Nat) : (s.countLoad a n).pending = s.pending := by
  unfold State.countLoad
  split <;> simp -implicitDefEqProofs
@[simp] theorem partBusy_pending (o : Op) (core : Nat) : (s.partBusy o core).pending = s.pending := by
  unfold State.partBusy
  split <;> simp -implicitDefEqProofs
@[simp] theorem loadWeights_pending (o : Op) (e er : Nat) (h : Bool) : (s.loadWeights o e er h).pending = s.pending := by
  unfold State.loadWeights
  dsimp only
  split <;> simp -implicitDefEqProofs
@[simp] theorem fillRow_pending (o : Op) (e er a : Nat) (h : Bool) : (s.fillRow o e er a h).pending = s.pending := by
  simp -implicitDefEqProofs [State.fillRow]
@[simp] theorem fillHalf_pending (e : Nat) (h : Bool) (n : Nat) : (s.fillHalf e h n).pending = s.pending := by
  induction n generalizing s with
  | zero => rfl
  | succ n ih =>
    rw [State.fillHalf]
    split <;> simp -implicitDefEqProofs [ih]
@[simp] theorem filled_pending (e : Nat) : (s.filled e).pending = s.pending := by simp -implicitDefEqProofs [State.filled]
@[simp] theorem startRow_pending (o : Op) (e er : Nat) (h : Bool) : (s.startRow o e er h).pending = s.pending := by
  unfold State.startRow
  dsimp only
  split <;> simp -implicitDefEqProofs
@[simp] theorem checkRow_pending (e : Nat) (r : RowRun) (o : Op) : (s.checkRow e r o).pending = s.pending := by
  unfold State.checkRow
  dsimp only
  (repeat' split) <;> simp -implicitDefEqProofs
@[simp] theorem endRow_pending (e : Nat) (r : RowRun) (o : Op) : (s.endRow e r o).pending = s.pending := by
  unfold State.endRow
  dsimp only
  split <;> simp -implicitDefEqProofs
@[simp] theorem convert_pending (o : Op) (eng t r scale : Nat) (ls : List CombLane) (leave : State → State) (hleave :
    ∀ t, (leave t).pending = t.pending) : (s.convert o eng t r scale ls leave).pending = s.pending := by
  simp -implicitDefEqProofs [State.convert, hleave]
@[simp] theorem unlatch_pending (e : Nat) : (s.unlatch e).pending = s.pending := by simp -implicitDefEqProofs [State.unlatch]
@[simp] theorem combine_pending (p : Partial) (o : Op) : (s.combine p o).pending = s.pending := by
  simp -implicitDefEqProofs [State.combine]
@[simp] theorem flipWeight_pending (e word : Nat) : (s.flipWeight e word).pending = s.pending := by
  unfold State.flipWeight
  dsimp only
  (repeat' split) <;> simp -implicitDefEqProofs
@[simp] theorem flipAct_pending (e word : Nat) : (s.flipAct e word).pending = s.pending := by
  simp -implicitDefEqProofs [State.flipAct]
@[simp] theorem plantArray_pending (arr : SramArray) (word : Nat) (flaw : Flaw) :
    (s.plantArray arr word flaw).pending = s.pending := by
  unfold State.plantArray
  split <;> simp -implicitDefEqProofs

/-! ### Vector units -/

@[simp] theorem blockStats_pending (o : Op) (k b : Nat) : (s.blockStats o k b).pending = s.pending := by
  simp -implicitDefEqProofs [State.blockStats]
@[simp] theorem redRecord_pending (o : Op) (n : Nat) : (s.redRecord o n).pending = s.pending := by
  simp -implicitDefEqProofs [State.redRecord]
@[simp] theorem advancePart_pending (o : Op) (p : OpPart) (sat : Bool) : (s.advancePart o p sat).pending = s.pending := by
  unfold State.advancePart
  split <;> simp -implicitDefEqProofs
@[simp] theorem opStep_pending (o : Op) (p : OpPart) : (s.opStep o p).pending = s.pending := by
  unfold State.opStep
  refine opAccess_pending _ _ _ _ _ _ fun t => opWrite_pending _ _ _ _ fun u => ?_
  simp -implicitDefEqProofs
@[simp] theorem encodeRow_pending (o : Op) (r : Nat) : (s.encodeRow o r).pending = s.pending := by
  simp -implicitDefEqProofs [State.encodeRow]
@[simp] theorem encodeStep_pending (o : Op) (p : OpPart) : (s.encodeStep o p).pending = s.pending := by
  simp -implicitDefEqProofs [State.encodeStep]

/-! ### Issue and retirement -/

@[simp] theorem qRefuse_pending (q cause : Nat) : (s.qRefuse q cause).pending = s.pending := by
  simp -implicitDefEqProofs [State.qRefuse]
@[simp] theorem qCommand_pending (q cmd : Nat) (act : State → State) (hact : ∀ t, (act t).pending = t.pending) :
    (s.qCommand q cmd act).pending = s.pending := by
  unfold State.qCommand
  split <;> simp -implicitDefEqProofs [hact]
@[simp] theorem qStart_pending (q : Nat) : (s.qStart q).pending = s.pending := by simp -implicitDefEqProofs [State.qStart]
@[simp] theorem haltLead_pending (k : Nat) : (s.haltLead k).pending = s.pending := by
  simp -implicitDefEqProofs [State.haltLead]
@[simp] theorem qHalt_pending (q : Nat) : (s.qHalt q).pending = s.pending := by simp -implicitDefEqProofs [State.qHalt]
@[simp] theorem qResume_pending (q : Nat) : (s.qResume q).pending = s.pending := by simp -implicitDefEqProofs [State.qResume]
@[simp] theorem qRelease_pending (q : Nat) : (s.qRelease q).pending = s.pending := by
  simp -implicitDefEqProofs [State.qRelease]
@[simp] theorem qCtrl_pending (q cmd : Nat) : (s.qCtrl q cmd).pending = s.pending := by
  unfold State.qCtrl
  split <;> simp -implicitDefEqProofs
@[simp] theorem trackHigh_pending (core : Nat) : (s.trackHigh core).pending = s.pending := by
  simp -implicitDefEqProofs [State.trackHigh]
@[simp] theorem takeCheck_pending (o : Op) (core c : Nat) : (s.takeCheck o core c).pending = s.pending := by
  unfold State.takeCheck
  dsimp only
  split <;> simp -implicitDefEqProofs
@[simp] theorem digMore_pending (core : Nat) : (s.digMore core).pending = s.pending := by
  simp -implicitDefEqProofs [State.digMore]
@[simp] theorem checkAdmit_pending (o : Op) (core : Nat) : (s.checkAdmit o core).pending = s.pending := by
  simp -implicitDefEqProofs [State.checkAdmit]
@[simp] theorem admitPart_pending (o : Op) (core : Nat) : (s.admitPart o core).pending = s.pending := by
  simp -implicitDefEqProofs [State.admitPart]
@[simp] theorem issueEngine_pending (o : Op) : (s.issueEngine o).pending = s.pending := by
  simp -implicitDefEqProofs [State.issueEngine]
@[simp] theorem issueOp_pending (o : Op) : (s.issueOp o).pending = s.pending := by simp -implicitDefEqProofs [State.issueOp]
@[simp] theorem tryIssue_pending (q entry : Nat) : (s.tryIssue q entry).pending = s.pending := by
  unfold State.tryIssue
  split <;> simp -implicitDefEqProofs
@[simp] theorem followerAdmit_pending (k : Nat) : (s.followerAdmit k).pending = s.pending := by
  unfold State.followerAdmit
  split <;> simp -implicitDefEqProofs
@[simp] theorem waitFor_pending (k c v : Nat) : (s.waitFor k c v).pending = s.pending := by
  simp -implicitDefEqProofs [State.waitFor]
@[simp] theorem fetchEntry_pending (k : Nat) : (s.fetchEntry k).pending = s.pending := by
  unfold State.fetchEntry
  dsimp only
  (repeat' split) <;> simp -implicitDefEqProofs
@[simp] theorem fetchAhead_pending (k : Nat) : (s.fetchAhead k).pending = s.pending := by
  simp -implicitDefEqProofs [State.fetchAhead]
@[simp] theorem slotAdd_pending (k : Nat) : (s.slotAdd k).pending = s.pending := by simp -implicitDefEqProofs [State.slotAdd]
@[simp] theorem entryDone_pending (k : Nat) : (s.entryDone k).pending = s.pending := by
  simp -implicitDefEqProofs [State.entryDone]
@[simp] theorem ctrRemote_pending (k c : Nat) : (s.ctrRemote k c).pending = s.pending := by
  simp -implicitDefEqProofs [State.ctrRemote]
@[simp] theorem leadWait_pending (k c v : Nat) : (s.leadWait k c v).pending = s.pending := by
  simp -implicitDefEqProofs [State.leadWait]
@[simp] theorem arrivalWait_pending (k : Nat) : (s.arrivalWait k).pending = s.pending := by
  simp -implicitDefEqProofs [State.arrivalWait]
@[simp] theorem admitOp_pending (k : Nat) (x : Opds) : (s.admitOp k x).pending = s.pending := by
  simp -implicitDefEqProofs [State.admitOp]
@[simp] theorem admitLead_pending (k : Nat) : (s.admitLead k).pending = s.pending := by
  unfold State.admitLead
  dsimp only
  split <;> simp -implicitDefEqProofs
@[simp] theorem opWork_pending (k code : Nat) : (s.opWork k code).pending = s.pending := by
  unfold State.opWork
  split
  · split <;> simp -implicitDefEqProofs
  · split <;> simp -implicitDefEqProofs
@[simp] theorem operator_pending (k code : Nat) : (s.operator k code).pending = s.pending := by
  simp -implicitDefEqProofs [State.operator]
@[simp] theorem unblock_pending (q entry : Nat) : (s.unblock q entry).pending = s.pending := by
  unfold State.unblock
  refine foldl_pending (fun t o => ?_) _ _
  split
  · refine foldl_pending (fun u p => ?_) _ _
    split <;> simp -implicitDefEqProofs
  · rfl
@[simp] theorem retireCheck_pending (q entry : Nat) : (s.retireCheck q entry).pending = s.pending := by
  unfold State.retireCheck
  split <;> simp -implicitDefEqProofs
@[simp] theorem retirePart_pending (o : Op) (core idx : Nat) : (s.retirePart o core idx).pending = s.pending := by
  simp -implicitDefEqProofs [State.retirePart]
@[simp] theorem sbCapture_pending (val : Word) : (s.sbCapture val).pending = s.pending := by
  simp -implicitDefEqProofs [State.sbCapture]
@[simp] theorem clrHw_pending : s.clrHw.pending = s.pending := by simp -implicitDefEqProofs [State.clrHw]
@[simp] theorem ctxCfgWrite_pending (p : Path) (k : Nat) (val : Word) : (s.ctxCfgWrite p k val).pending = s.pending := by
  simp -implicitDefEqProofs [State.ctxCfgWrite]

/-! ### Safety monitors -/

@[simp] theorem stopAffected_pending (f : FaultReport) : (s.stopAffected f).1.pending = s.pending := by
  unfold State.stopAffected
  split <;> simp -implicitDefEqProofs
@[simp] theorem recMask_pending (qs : List Nat) (union : Bool) : (s.recMask qs union).pending = s.pending := by
  simp -implicitDefEqProofs [State.recMask]
@[simp] theorem setRec_pending (st cls : Nat) : (s.setRec st cls).pending = s.pending := by
  simp -implicitDefEqProofs [State.setRec]
@[simp] theorem recover_pending (f : FaultReport) : (s.recover f).pending = s.pending := by
  simp -implicitDefEqProofs [State.recover]
@[simp] theorem linkGone_pending (f : FaultReport) : (s.linkGone f).pending = s.pending := by
  unfold State.linkGone
  split <;> simp -implicitDefEqProofs
@[simp] theorem copySubs_pending : s.copySubs.pending = s.pending := by simp -implicitDefEqProofs [State.copySubs]
@[simp] theorem recordFault_pending (f : FaultReport) : (s.recordFault f).pending = s.pending := by
  simp -implicitDefEqProofs [State.recordFault]
@[simp] theorem react_pending (first : Bool) (f : FaultReport) : (s.react first f).pending = s.pending := by
  simp -implicitDefEqProofs [State.react]
@[simp] theorem monitorTake_pending (f : FaultReport) (fs : List FaultReport) : (s.monitorTake f fs).pending = s.pending := by
  simp -implicitDefEqProofs [State.monitorTake]
@[simp] theorem dblKey_pending (r : DigestRec) : (s.dblKey r).pending = s.pending := by
  simp -implicitDefEqProofs [State.dblKey]
@[simp] theorem dblFault_pending (src : Nat) (r : DigestRec) : (s.dblFault src r).pending = s.pending := by
  simp -implicitDefEqProofs [State.dblFault]
@[simp] theorem tablePut_pending (r : DigestRec) (peer : Bool) : (s.tablePut r peer).pending = s.pending := by
  simp -implicitDefEqProofs [State.tablePut]
@[simp] theorem matchPut_pending (r : DigestRec) (peer : Bool) : (s.matchPut r peer).pending = s.pending := by
  unfold State.matchPut
  split
  · exact dblFault_pending s _ r
  · split <;> simp -implicitDefEqProofs
@[simp] theorem tstDig_pending (r : DigestRec) : (s.tstDig r).1.pending = s.pending := by
  unfold State.tstDig
  split <;> simp -implicitDefEqProofs
@[simp] theorem recordReady_pending (r : DigestRec) : (s.recordReady r).pending = s.pending := by
  simp -implicitDefEqProofs [State.recordReady]
@[simp] theorem cfgCheck_pending : s.cfgCheck.pending = s.pending := by simp -implicitDefEqProofs [State.cfgCheck]
@[simp] theorem modeWrite_pending (val : Word) : (s.modeWrite val).pending = s.pending := by
  simp -implicitDefEqProofs [State.modeWrite]
@[simp] theorem goldSkip_pending : s.goldSkip.pending = s.pending := by simp -implicitDefEqProofs [State.goldSkip]
/- The outcome is named first and its `let`s are kept as they stand: expanded, each would be repeated in every field. -/
@[simp] theorem goldCheck_pending (r : DigestRec) : (s.goldCheck r).pending = s.pending := by
  generalize hf : State.goldCheck = f
  generalize ht : f s r = t
  delta State.goldCheck at hf
  subst hf
  dsimp -zeta only at ht
  extract_lets +onlyGivenNames a capture at ht
  split at ht
  · rw [← ht, goldSkip_pending, addrFault_pending]
  · rw [← ht]
    simp -implicitDefEqProofs
@[simp] theorem spareFail_pending (u : Nat) : (s.spareFail u).pending = s.pending := by
  unfold State.spareFail
  split <;> simp -implicitDefEqProofs
@[simp] theorem clearUnit_pending (u : Nat) : (s.clearUnit u).pending = s.pending := by
  unfold State.clearUnit
  dsimp only
  (repeat' split) <;> simp -implicitDefEqProofs
@[simp] theorem subEngine_pending (n j : Nat) : (s.subEngine n j).pending = s.pending := by
  simp -implicitDefEqProofs [State.subEngine]
@[simp] theorem subCore_pending (n : Nat) : (s.subCore n).pending = s.pending := by simp -implicitDefEqProofs [State.subCore]
@[simp] theorem holdCore_pending (n : Nat) : (s.holdCore n).pending = s.pending := by
  simp -implicitDefEqProofs [State.holdCore]
@[simp] theorem substitute_pending (cls u : Nat) : (s.substitute cls u).1.pending = s.pending := by
  unfold State.substitute
  dsimp only
  (repeat' split) <;> simp -implicitDefEqProofs
/-- The same for a fold that carries a result beside the state. -/
theorem foldl_fst_pending {α β : Type} {f : State × β → α → State × β} (h : ∀ p x, (f p x).1.pending = p.1.pending) (l : List α)
    (p : State × β) : (l.foldl f p).1.pending = p.1.pending := by
  induction l generalizing p with
  | nil => rfl
  | cons x t ih => rw [List.foldl_cons, ih, h]

@[simp] theorem diagnosed_pending (fails : List Nat) : (s.diagnosed fails).pending = s.pending := by
  unfold State.diagnosed
  dsimp only
  simp -implicitDefEqProofs [foldl_fst_pending]
@[simp] theorem replayDone_pending : s.replayDone.pending = s.pending := by simp -implicitDefEqProofs [State.replayDone]
@[simp] theorem dieReset_pending (p : Path) (val : Word) : (s.dieReset p val).pending = s.pending := by
  simp -implicitDefEqProofs [State.dieReset]
@[simp] theorem tstKey_pending (p : Path) (val : Word) : (s.tstKey p val).pending = s.pending := by
  simp -implicitDefEqProofs [State.tstKey]
@[simp] theorem tstWrite_pending (p : Path) (a : Nat) (act : State → State) (hact : ∀ t, (act t).pending = t.pending) :
    (s.tstWrite p a act).pending = s.pending := by
  simp -implicitDefEqProofs [State.tstWrite, hact]

/-! ### Ingest -/

@[simp] theorem setStrm_pending (n : Nat) (x : Stream) : (s.setStrm n x).pending = s.pending := by
  simp -implicitDefEqProofs [State.setStrm]
@[simp] theorem backlog_pending (kib : Nat) : (s.backlog kib).pending = s.pending := by
  simp -implicitDefEqProofs [State.backlog]
@[simp] theorem lose_pending (n : Nat) (l : Loss) : (s.lose n l).pending = s.pending := by
  unfold State.lose
  split <;> simp -implicitDefEqProofs
@[simp] theorem stopCheck_pending (n : Nat) : (s.stopCheck n).pending = s.pending := by
  simp -implicitDefEqProofs [State.stopCheck]
@[simp] theorem loseBroken_pending (n : Nat) (k : Nat) : (s.loseBroken n k).pending = s.pending := by
  induction k generalizing s with
  | zero => rfl
  | succ k ih => rw [State.loseBroken, ih, lose_pending]
@[simp] theorem breakFrame_pending (n : Nat) (rest : Bool) : (s.breakFrame n rest).pending = s.pending := by
  unfold State.breakFrame
  dsimp only
  split <;> simp -implicitDefEqProofs
@[simp] theorem strmFault_pending (n code : Nat) : (s.strmFault n code).pending = s.pending := by
  simp -implicitDefEqProofs [State.strmFault]
@[simp] theorem strmRefuse_pending (n cause : Nat) : (s.strmRefuse n cause).pending = s.pending := by
  simp -implicitDefEqProofs [State.strmRefuse]
@[simp] theorem strmCommand_pending (n : Nat) (causes : List Nat) (act : State → State) (hact :
    ∀ t, (act t).pending = t.pending) : (s.strmCommand n causes act).pending = s.pending := by
  unfold State.strmCommand
  split <;> simp -implicitDefEqProofs [hact]
@[simp] theorem strmStart_pending (n : Nat) : (s.strmStart n).pending = s.pending := by
  simp -implicitDefEqProofs [State.strmStart]
@[simp] theorem strmStop_pending (n : Nat) : (s.strmStop n).pending = s.pending := by
  simp -implicitDefEqProofs [State.strmStop]
@[simp] theorem strmAbort_pending (n : Nat) : (s.strmAbort n).pending = s.pending := by
  simp -implicitDefEqProofs [State.strmAbort]
@[simp] theorem strmReload_pending (n : Nat) : (s.strmReload n).pending = s.pending := by
  simp -implicitDefEqProofs [State.strmReload]
@[simp] theorem strmClear_pending (n : Nat) : (s.strmClear n).pending = s.pending := by
  simp -implicitDefEqProofs [State.strmClear]
@[simp] theorem strmCtrl_pending (n cmd : Nat) : (s.strmCtrl n cmd).pending = s.pending := by
  unfold State.strmCtrl
  split <;> simp -implicitDefEqProofs
@[simp] theorem ingClr_pending : s.ingClr.pending = s.pending := by simp -implicitDefEqProofs [State.ingClr]
@[simp] theorem ingClrHw_pending : s.ingClrHw.pending = s.pending := by simp -implicitDefEqProofs [State.ingClrHw]
@[simp] theorem breakSource_pending (src port : Nat) : (s.breakSource src port).pending = s.pending := by
  simp -implicitDefEqProofs [State.breakSource]
@[simp] theorem canRecover_pending (c : Nat) : (s.canRecover c).pending = s.pending := by
  simp -implicitDefEqProofs [State.canRecover]
@[simp] theorem txBegin_pending (t : Nat) : (s.txBegin t).pending = s.pending := by simp -implicitDefEqProofs [State.txBegin]
@[simp] theorem sourceWrite_pending (p : Path) (src : Source) (val : Word) : (s.sourceWrite p src val).pending = s.pending := by
  unfold State.sourceWrite
  split <;> simp -implicitDefEqProofs
@[simp] theorem admitFrame_pending (n fnum t kib : Nat) : (s.admitFrame n fnum t kib).pending = s.pending := by
  simp -implicitDefEqProofs [State.admitFrame]
@[simp] theorem writeUnit_pending (n : Nat) (f : FrameRun) (bs row : List Byte) (payload : Nat) :
    (s.writeUnit n f bs row payload).pending = s.pending := by
  unfold State.writeUnit
  dsimp only
  split <;> simp -implicitDefEqProofs
@[simp] theorem bufUe_pending (n : Nat) : (s.bufUe n).pending = s.pending := by simp -implicitDefEqProofs [State.bufUe]
@[simp] theorem frameStart_pending (n fnum kib : Nat) : (s.frameStart n fnum kib).pending = s.pending := by
  simp -implicitDefEqProofs [State.frameStart]
@[simp] theorem csiCount_pending (r : Nat) (fixed bad : Bool) : (s.csiCount r fixed bad).pending = s.pending := by
  simp -implicitDefEqProofs [State.csiCount]
@[simp] theorem line_pending (n : Nat) (data : List Byte) (crcBad lost ue : Bool) :
    (s.line n data crcBad lost ue).pending = s.pending := by
  unfold State.line
  dsimp only
  split <;> simp -implicitDefEqProofs
@[simp] theorem headerError_pending (r : Nat) : (s.headerError r).pending = s.pending := by
  simp -implicitDefEqProofs [State.headerError]
@[simp] theorem closeFrame_pending (n : Nat) (gap : Bool) : (s.closeFrame n gap).pending = s.pending := by
  unfold State.closeFrame
  dsimp only
  split <;> simp -implicitDefEqProofs
@[simp] theorem deliver_pending (n : Nat) (f : FrameRun) (rest : List FrameRun) : (s.deliver n f rest).pending = s.pending := by
  unfold State.deliver
  dsimp only
  split <;> simp -implicitDefEqProofs
@[simp] theorem packet_pending (n t kib : Nat) (bs row : List Byte) (payload : Nat) (lost ue : Bool) :
    (s.packet n t kib bs row payload lost ue).pending = s.pending := by
  unfold State.packet
  dsimp only
  (repeat' split) <;> simp -implicitDefEqProofs
@[simp] theorem canGood_pending (c : Nat) (tx : Bool) : (s.canGood c tx).pending = s.pending := by
  simp -implicitDefEqProofs [State.canGood]
@[simp] theorem setTx_pending (t : Nat) (x : TxRing) : (s.setTx t x).pending = s.pending := by
  simp -implicitDefEqProofs [State.setTx]
@[simp] theorem txFinish_pending (t i : Nat) (err : Bool) (time : Option Nat) :
    (s.txFinish t i err time).pending = s.pending := by
  simp -implicitDefEqProofs [State.txFinish]
/- The outcome is named first and its `let`s are kept as they stand: expanded, each would be repeated in every field. -/
@[simp] theorem txSend_pending (t : Nat) : (s.txSend t).pending = s.pending := by
  generalize hf : State.txSend = f
  generalize ht : f s t = u
  delta State.txSend at hf
  subst hf
  dsimp -zeta only at ht
  extract_lets +onlyGivenNames i a at ht
  split at ht
  · rw [← ht, addrFault_pending]
  · rw [← ht, pending_ite]
    split
    · simp -implicitDefEqProofs
    · rw [txFinish_pending]
      split <;> simp -implicitDefEqProofs

/-! ### Timebase and triggers -/

@[simp] theorem cycle_pending : s.cycle.pending = s.pending := by simp -implicitDefEqProofs [State.cycle]
@[simp] theorem setKick_pending (i : Nat) (k : Kickoff) : (s.setKick i k).pending = s.pending := by
  simp -implicitDefEqProofs [State.setKick]
@[simp] theorem stepPast_pending (a b : Nat) : (s.stepPast a b).pending = s.pending := by
  simp -implicitDefEqProofs [State.stepPast]
@[simp] theorem timeStep_pending (p : Path) (val : Word) : (s.timeStep p val).pending = s.pending := by
  simp -implicitDefEqProofs [State.timeStep]
@[simp] theorem offsetCommit_pending (p : Path) (val : Word) : (s.offsetCommit p val).pending = s.pending := by
  simp -implicitDefEqProofs [State.offsetCommit]
@[simp] theorem setTsi_pending (i : Nat) (l : List TsiEntry) : (s.setTsi i l).pending = s.pending := by
  simp -implicitDefEqProofs [State.setTsi]
@[simp] theorem tsiEdge_pending (i : Nat) (level : Bool) (age : Nat) : (s.tsiEdge i level age).pending = s.pending := by
  simp -implicitDefEqProofs [State.tsiEdge]
@[simp] theorem tsiPop_pending (i : Nat) : (s.tsiPop i).pending = s.pending := by
  unfold State.tsiPop
  dsimp only
  split <;> simp -implicitDefEqProofs
@[simp] theorem kickArm_pending (i : Nat) (val : Word) : (s.kickArm i val).pending = s.pending := by
  simp -implicitDefEqProofs [State.kickArm]
@[simp] theorem setTrigger_pending (o : Nat) (x : Trigger) : (s.setTrigger o x).pending = s.pending := by
  simp -implicitDefEqProofs [State.setTrigger]
@[simp] theorem kickOutput_pending (i : Nat) : (s.kickOutput i).pending = s.pending := by
  unfold State.kickOutput
  dsimp only
  split <;> simp -implicitDefEqProofs
@[simp] theorem kickFire_pending (i : Nat) : (s.kickFire i).pending = s.pending := by
  simp -implicitDefEqProofs [State.kickFire]
@[simp] theorem fireUpTo_pending (i : Nat) : (s.fireUpTo i).pending = s.pending := by
  simp -implicitDefEqProofs [State.fireUpTo]
@[simp] theorem pending_kickDisarm (i : Nat) (val : Word) : (s.kickDisarm i val).pending = s.pending := by
  simp -implicitDefEqProofs [State.kickDisarm]

/-! ### The tile -/

@[simp] theorem mt_pending (f : Metrology → Metrology) : (s.mt f).pending = s.pending := by
  simp -implicitDefEqProofs [State.mt]
@[simp] theorem msrErr_pending : s.msrErr.pending = s.pending := by simp -implicitDefEqProofs [State.msrErr]
@[simp] theorem blankShow_pending : s.blankShow.pending = s.pending := by simp -implicitDefEqProofs [State.blankShow]
@[simp] theorem blankEval_pending : s.blankEval.pending = s.pending := by simp -implicitDefEqProofs [State.blankEval]
@[simp] theorem setSw_pending (k : Nat) (x : Switch) : (s.setSw k x).pending = s.pending := by
  simp -implicitDefEqProofs [State.setSw]
@[simp] theorem swValue_pending (src idx : Nat) (v : Int) (blank bad : Bool) :
    (s.swValue src idx v blank bad).pending = s.pending := by
  simp -implicitDefEqProofs [State.swValue]
@[simp] theorem swCommit_pending (k : Nat) (val : Word) : (s.swCommit k val).pending = s.pending := by
  simp -implicitDefEqProofs [State.swCommit]
@[simp] theorem swAck_pending (mask : Nat) : (s.swAck mask).pending = s.pending := by simp -implicitDefEqProofs [State.swAck]
@[simp] theorem cfgSave_pending : s.cfgSave.pending = s.pending := by simp -implicitDefEqProofs [State.cfgSave]

/-! ### Measurement -/

@[simp] theorem setVib_pending (v : Nat) (x : VibChan) : (s.setVib v x).pending = s.pending := by
  simp -implicitDefEqProofs [State.setVib]
@[simp] theorem vibModeCheck_pending : s.vibModeCheck.pending = s.pending := by simp -implicitDefEqProofs [State.vibModeCheck]
@[simp] theorem modeChanged_pending (old : Nat) : (s.modeChanged old).pending = s.pending := by
  simp -implicitDefEqProofs [State.modeChanged]
@[simp] theorem vibModeWrite_pending (val : Word) : (s.vibModeWrite val).pending = s.pending := by
  simp -implicitDefEqProofs [State.vibModeWrite]
@[simp] theorem vibCfgCheck_pending (v : Nat) : (s.vibCfgCheck v).pending = s.pending := by
  simp -implicitDefEqProofs [State.vibCfgCheck]
@[simp] theorem vibCfgWrite_pending (v : Nat) (val : Word) : (s.vibCfgWrite v val).pending = s.pending := by
  simp -implicitDefEqProofs [State.vibCfgWrite]
@[simp] theorem vibSample_pending (v : Nat) (raw : Int) (full : Bool) : (s.vibSample v raw full).pending = s.pending := by
  simp -implicitDefEqProofs [State.vibSample]
@[simp] theorem pc_pending (f : Prec → Prec) : (s.pc f).pending = s.pending := by simp -implicitDefEqProofs [State.pc]
@[simp] theorem slotErr_pending : s.slotErr.pending = s.pending := by simp -implicitDefEqProofs [State.slotErr]
@[simp] theorem slotBegin_pending (c : Nat) : (s.slotBegin c).pending = s.pending := by
  simp -implicitDefEqProofs [State.slotBegin]
@[simp] theorem convertBegin_pending : s.convertBegin.pending = s.pending := by simp -implicitDefEqProofs [State.convertBegin]
@[simp] theorem scanStart_pending : s.scanStart.pending = s.pending := by
  unfold State.scanStart
  split
  · split <;> simp -implicitDefEqProofs
  · exact pc_pending s _
@[simp] theorem scanNext_pending : s.scanNext.pending = s.pending := by
  unfold State.scanNext
  dsimp only
  (repeat' split) <;> simp -implicitDefEqProofs
@[simp] theorem precPublish_pending (cm cl : Int) (ovr : Bool) : (s.precPublish cm cl ovr).pending = s.pending := by
  simp -implicitDefEqProofs [State.precPublish]

/-! ### Metrology -/

@[simp] theorem setPulse_pending (p : Nat) (x : Pulse) : (s.setPulse p x).pending = s.pending := by
  simp -implicitDefEqProofs [State.setPulse]
@[simp] theorem setMeter_pending (e : Nat) (x : Meter) : (s.setMeter e x).pending = s.pending := by
  simp -implicitDefEqProofs [State.setMeter]
@[simp] theorem rateValue_pending (p v : Nat) : (s.rateValue p v).pending = s.pending := by
  simp -implicitDefEqProofs [State.rateValue]
@[simp] theorem pulseEdge_pending (p : Nat) : (s.pulseEdge p).pending = s.pending := by
  unfold State.pulseEdge
  dsimp only
  split <;> simp -implicitDefEqProofs
@[simp] theorem checkpoint_pending : s.checkpoint.pending = s.pending := by simp -implicitDefEqProofs [State.checkpoint]
@[simp] theorem ckptSelect_pending : s.ckptSelect.pending = s.pending := by simp -implicitDefEqProofs [State.ckptSelect]
@[simp] theorem logDue_pending (d : LogDue) : (s.logDue d).pending = s.pending := by simp -implicitDefEqProofs [State.logDue]
@[simp] theorem logTry_pending (r tries : Nat) (ok : Bool) : (s.logTry r tries ok).pending = s.pending := by
  simp -implicitDefEqProofs [State.logTry]
@[simp] theorem logSelect_pending (seq : Word) : (s.logSelect seq).pending = s.pending := by
  simp -implicitDefEqProofs [State.logSelect]
@[simp] theorem dwellEnd_pending (e : Nat) (on : Bool) (start : Nat) : (s.dwellEnd e on start).pending = s.pending := by
  simp -implicitDefEqProofs [State.dwellEnd]
@[simp] theorem sealShow_pending : s.sealShow.pending = s.pending := by simp -implicitDefEqProofs [State.sealShow]
@[simp] theorem calEnd_pending (code : Nat) : (s.calEnd code).pending = s.pending := by
  simp -implicitDefEqProofs [State.calEnd]
@[simp] theorem recalibrate_pending (n ctr : Nat) : (s.recalibrate n ctr).pending = s.pending := by
  simp -implicitDefEqProofs [State.recalibrate]
@[simp] theorem calImage_pending (ack : Bool) (n : Nat) (okA okB : Bool) : (s.calImage ack n okA okB).pending = s.pending := by
  simp -implicitDefEqProofs [State.calImage]
@[simp] theorem restoreCkpt_pending (r : Nat) : (s.restoreCkpt r).pending = s.pending := by
  simp -implicitDefEqProofs [State.restoreCkpt]
@[simp] theorem restoreRecord_pending (r : Nat) : (s.restoreRecord r).pending = s.pending := by
  simp -implicitDefEqProofs [State.restoreRecord]
@[simp] theorem restoreMeters_pending : s.restoreMeters.pending = s.pending := by
  refine (foldl_pending restoreRecord_pending s.meas.met.recordsSince _).trans ?_
  split
  · exact restoreCkpt_pending s _
  · rfl
@[simp] theorem restoreCfg_pending : s.restoreCfg.pending = s.pending := by
  unfold State.restoreCfg
  split <;> simp -implicitDefEqProofs
@[simp] theorem measPowerOn_pending : s.measPowerOn.pending = s.pending := by simp -implicitDefEqProofs [State.measPowerOn]

/-! ### The event core -/

@[simp] theorem bu_pending (f : Burst → Burst) : (s.bu f).pending = s.pending := by simp -implicitDefEqProofs [State.bu]
@[simp] theorem lrnErr_pending : s.lrnErr.pending = s.pending := by simp -implicitDefEqProofs [State.lrnErr]
@[simp] theorem lrnRefused_pending : s.lrnRefused.pending = s.pending := by simp -implicitDefEqProofs [State.lrnRefused]
@[simp] theorem sentCheck_pending (v : Word) : (s.sentCheck v).pending = s.pending := by
  simp -implicitDefEqProofs [State.sentCheck]
@[simp] theorem winCheck_pending (v : Word) : (s.winCheck v).pending = s.pending := by
  simp -implicitDefEqProofs [State.winCheck]
@[simp] theorem sweep_pending : s.sweep.pending = s.pending := by simp -implicitDefEqProofs [State.sweep]
@[simp] theorem endEpoch_pending : s.endEpoch.pending = s.pending := by simp -implicitDefEqProofs [State.endEpoch]
@[simp] theorem epochBegin_pending : s.epochBegin.pending = s.pending := by simp -implicitDefEqProofs [State.epochBegin]
@[simp] theorem coreStep_pending : s.coreStep.pending = s.pending := by simp -implicitDefEqProofs [State.coreStep]
@[simp] theorem epochCheck_pending : s.epochCheck.pending = s.pending := by simp -implicitDefEqProofs [State.epochCheck]
@[simp] theorem confirmWrite_pending (val : Word) : (s.confirmWrite val).pending = s.pending := by
  simp -implicitDefEqProofs [State.confirmWrite]

/-! ### Learning and its store -/

@[simp] theorem jrnShow_pending : s.jrnShow.pending = s.pending := by simp -implicitDefEqProofs [State.jrnShow]
@[simp] theorem commitBegin_pending (v : Save) : (s.commitBegin v).pending = s.pending := by
  unfold State.commitBegin
  dsimp only
  split <;> simp -implicitDefEqProofs
@[simp] theorem saveEnds_pending : s.saveEnds.pending = s.pending := by simp -implicitDefEqProofs [State.saveEnds]
@[simp] theorem saveFails_pending (v : Save) : (s.saveFails v).pending = s.pending := by
  simp -implicitDefEqProofs [State.saveFails]
@[simp] theorem jrnTry_pending (v : Save) (ok : Bool) : (s.jrnTry v ok).pending = s.pending := by
  simp -implicitDefEqProofs [State.jrnTry]
@[simp] theorem headerDone_pending (v : Save) : (s.headerDone v).pending = s.pending := by
  unfold State.headerDone
  split <;> simp -implicitDefEqProofs
@[simp] theorem rowTry_pending (v : Save) (ok : Bool) : (s.rowTry v ok).pending = s.pending := by
  simp -implicitDefEqProofs [State.rowTry, -Nat.reducePow]
@[simp] theorem commitModel_pending : s.commitModel.pending = s.pending := by simp -implicitDefEqProofs [State.commitModel]
@[simp] theorem endEpochCmd_pending : s.endEpochCmd.pending = s.pending := by simp -implicitDefEqProofs [State.endEpochCmd]
@[simp] theorem relearn_pending : s.relearn.pending = s.pending := by simp -implicitDefEqProofs [State.relearn]
@[simp] theorem saveCfg_pending : s.saveCfg.pending = s.pending := by simp -implicitDefEqProofs [State.saveCfg]
@[simp] theorem lrnClr_pending : s.lrnClr.pending = s.pending := by simp -implicitDefEqProofs [State.lrnClr]
@[simp] theorem synSelect_pending (i : Nat) : (s.synSelect i).pending = s.pending := by
  simp -implicitDefEqProofs [State.synSelect]
@[simp] theorem synData_pending (val : Word) : (s.synData val).pending = s.pending := by
  simp -implicitDefEqProofs [State.synData]
@[simp] theorem srcData_pending (val : Word) : (s.srcData val).pending = s.pending := by
  simp -implicitDefEqProofs [State.srcData]
@[simp] theorem lrnResets_pending : s.lrnResets.pending = s.pending := by simp -implicitDefEqProofs [State.lrnResets]
@[simp] theorem loadHeader_pending (h : Nat) : (s.loadHeader h).pending = s.pending := by
  unfold State.loadHeader
  dsimp only
  simp -implicitDefEqProofs only [ln_pending, winCheck_pending, sentCheck_pending]
  rw [foldl_pending, foldl_pending]
  · simp -implicitDefEqProofs
  · intro t i
    split <;> simp -implicitDefEqProofs
@[simp] theorem recoverFrom_pending (h : Nat) (copy1 : Bool) : (s.recoverFrom h copy1).pending = s.pending := by
  simp -implicitDefEqProofs [State.recoverFrom, -Nat.reducePow]
@[simp] theorem recovered_pending : s.recovered.pending = s.pending := by
  unfold State.recovered
  dsimp only
  (repeat' split) <;> simp -implicitDefEqProofs

/-! ### Power states -/

@[simp] theorem pwrErr_pending : s.pwrErr.pending = s.pending := by simp -implicitDefEqProofs [State.pwrErr]
@[simp] theorem pllLost_pending (n : Nat) : (s.pllLost n).pending = s.pending := by simp -implicitDefEqProofs [State.pllLost]
@[simp] theorem pllCtrl_pending (val : Word) : (s.pllCtrl val).pending = s.pending := by
  simp -implicitDefEqProofs [State.pllCtrl]
@[simp] theorem clkSrcSet_pending (val : Nat) : (s.clkSrcSet val).pending = s.pending := by
  simp -implicitDefEqProofs [State.clkSrcSet]
@[simp] theorem clkSrcWrite_pending (val : Nat) : (s.clkSrcWrite val).pending = s.pending := by
  simp -implicitDefEqProofs [State.clkSrcWrite]
@[simp] theorem resumeErr_pending : s.resumeErr.pending = s.pending := by simp -implicitDefEqProofs [State.resumeErr]
@[simp] theorem resumeEnds_pending : s.resumeEnds.pending = s.pending := by simp -implicitDefEqProofs [State.resumeEnds]
@[simp] theorem resumeStart_pending : s.resumeStart.pending = s.pending := by simp -implicitDefEqProofs [State.resumeStart]
@[simp] theorem resumeSwitch_pending : s.resumeSwitch.pending = s.pending := by simp -implicitDefEqProofs [State.resumeSwitch]
@[simp] theorem pllLock_pending (n : Nat) (ok : Bool) : (s.pllLock n ok).pending = s.pending := by
  simp -implicitDefEqProofs [State.pllLock]
@[simp] theorem mainOff_pending : s.mainOff.pending = s.pending := by simp -implicitDefEqProofs [State.mainOff]
@[simp] theorem wakeRecord_pending (r : PwrReq) (from' : Nat) : (s.wakeRecord r from').pending = s.pending := by
  simp -implicitDefEqProofs [State.wakeRecord]
@[simp] theorem tileRestart_pending : s.tileRestart.pending = s.pending := by simp -implicitDefEqProofs [State.tileRestart]
@[simp] theorem startExit_pending (r : PwrReq) : (s.startExit r).pending = s.pending := by
  simp -implicitDefEqProofs [State.startExit]
@[simp] theorem dormantToDugout_pending (r : PwrReq) : (s.dormantToDugout r).pending = s.pending := by
  simp -implicitDefEqProofs [State.dormantToDugout]
@[simp] theorem sentinelStops_pending : s.sentinelStops.pending = s.pending := by
  simp -implicitDefEqProofs [State.sentinelStops]
@[simp] theorem begin_pending (r : PwrReq) : (s.begin r).pending = s.pending := by
  unfold State.begin
  split <;> simp -implicitDefEqProofs
@[simp] theorem request_pending (r : PwrReq) : (s.request r).pending = s.pending := by
  simp -implicitDefEqProofs [State.request]
@[simp] theorem pwrArrive_pending (x : PwrState) : (s.pwrArrive x).pending = s.pending := by
  unfold State.pwrArrive
  split <;> simp -implicitDefEqProofs
@[simp] theorem wakeSeen_pending (code : Nat) : (s.wakeSeen code).pending = s.pending := by
  simp -implicitDefEqProofs [State.wakeSeen]
@[simp] theorem raiseWake_pending (code target : Nat) : (s.raiseWake code target).pending = s.pending := by
  simp -implicitDefEqProofs [State.raiseWake]
@[simp] theorem holdRequest_pending : s.holdRequest.pending = s.pending := by
  unfold State.holdRequest
  split <;> simp -implicitDefEqProofs
@[simp] theorem pwrReq_pending (target : Nat) : (s.pwrReq target).pending = s.pending := by
  simp -implicitDefEqProofs [State.pwrReq]
@[simp] theorem offCheck_pending : s.offCheck.pending = s.pending := by simp -implicitDefEqProofs [State.offCheck]
@[simp] theorem pgLow_pending : s.pgLow.pending = s.pending := by simp -implicitDefEqProofs [State.pgLow]
@[simp] theorem alignDone_pending : s.alignDone.pending = s.pending := by
  unfold State.alignDone
  dsimp only
  split <;> simp -implicitDefEqProofs
@[simp] theorem logNow_pending (d : LogDue) : (s.logNow d).pending = s.pending := by
  unfold State.logNow
  split <;> simp -implicitDefEqProofs
@[simp] theorem alarmCfg_pending (val : Word) : (s.alarmCfg val).pending = s.pending := by
  simp -implicitDefEqProofs [State.alarmCfg]
@[simp] theorem rtcSet_pending (p : Path) (val : Word) : (s.rtcSet p val).pending = s.pending := by
  simp -implicitDefEqProofs [State.rtcSet]
@[simp] theorem pairCapture_pending : s.pairCapture.pending = s.pending := by simp -implicitDefEqProofs [State.pairCapture]
@[simp] theorem railLoss_pending : s.railLoss.pending = s.pending := by simp -implicitDefEqProofs [State.railLoss]
@[simp] theorem tilePowerOn_pending (addrH addrM : Nat) (boot : Bool) :
    (s.tilePowerOn addrH addrM boot).pending = s.pending := by
  simp -implicitDefEqProofs [State.tilePowerOn]

/-! ### The sentinel -/

@[simp] theorem lrnCtrl_pending (val : Word) : (s.lrnCtrl val).pending = s.pending := by
  simp -implicitDefEqProofs [State.lrnCtrl]
@[simp] theorem burstTake_pending : s.burstTake.pending = s.pending := by simp -implicitDefEqProofs [State.burstTake]
@[simp] theorem burstJudge_pending : s.burstJudge.pending = s.pending := by simp -implicitDefEqProofs [State.burstJudge]
@[simp] theorem features_pending : s.features.pending = s.pending := by simp -implicitDefEqProofs [State.features]
@[simp] theorem present_pending : s.present.pending = s.pending := by simp -implicitDefEqProofs [State.present]
@[simp] theorem compareValid_pending : s.compareValid.pending = s.pending := by simp -implicitDefEqProofs [State.compareValid]
@[simp] theorem publish_pending : s.publish.pending = s.pending := by simp -implicitDefEqProofs [State.publish]
@[simp] theorem resultSelect_pending (n : Nat) : (s.resultSelect n).pending = s.pending := by
  simp -implicitDefEqProofs [State.resultSelect]

/-! ### Register writes with actions -/

@[simp] theorem readReg_pending (p : Path) (a : Nat) : (s.readReg p a).2.pending = s.pending := by
  unfold State.readReg
  dsimp only
  (repeat' split) <;> simp -implicitDefEqProofs
@[simp] theorem read_pending (tile : Bool) (p : Path) (a : Nat) : (s.read tile p a).2.pending = s.pending := by
  unfold State.read
  split <;> simp -implicitDefEqProofs
@[simp] theorem onBit_pending (v : Word) (n : Nat) (f : State → State) (hf : ∀ t, (f t).pending = t.pending) :
    (s.onBit v n f).pending = s.pending := by
  simp -implicitDefEqProofs [State.onBit, hf]
@[simp] theorem avsLimitWrite_pending (v : Word) : (s.avsLimitWrite v).pending = s.pending := by
  simp -implicitDefEqProofs [State.avsLimitWrite]
@[simp] theorem avsThrottleWrite_pending (v : Word) : (s.avsThrottleWrite v).pending = s.pending := by
  simp -implicitDefEqProofs [State.avsThrottleWrite]
@[simp] theorem avsCtrlWrite_pending (v : Word) : (s.avsCtrlWrite v).pending = s.pending := by
  simp -implicitDefEqProofs [State.avsCtrlWrite]
@[simp] theorem lpddrCfgWrite_pending (p : Path) (v : Word) : (s.lpddrCfgWrite p v).pending = s.pending := by
  simp -implicitDefEqProofs [State.lpddrCfgWrite]
@[simp] theorem canTimingWrite_pending (p : Path) (c a : Nat) (v : Word) : (s.canTimingWrite p c a v).pending = s.pending := by
  simp -implicitDefEqProofs [State.canTimingWrite]
@[simp] theorem rateCheck_pending : s.rateCheck.pending = s.pending := by simp -implicitDefEqProofs [State.rateCheck]
@[simp] theorem servoCheck_pending : s.servoCheck.pending = s.pending := by simp -implicitDefEqProofs [State.servoCheck]
@[simp] theorem dblCfgWrite_pending (v : Word) : (s.dblCfgWrite v).pending = s.pending := by
  simp -implicitDefEqProofs [State.dblCfgWrite]
@[simp] theorem sentCfgWrite_pending (v : Word) : (s.sentCfgWrite v).pending = s.pending := by
  simp -implicitDefEqProofs [State.sentCfgWrite]
@[simp] theorem winWrite_pending (v : Word) : (s.winWrite v).pending = s.pending := by
  simp -implicitDefEqProofs [State.winWrite]
@[simp] theorem grpWrite_pending (a : Nat) (v : Word) : (s.grpWrite a v).pending = s.pending := by
  simp -implicitDefEqProofs [State.grpWrite]
@[simp] theorem lrnCmd_pending (v : Word) : (s.lrnCmd v).pending = s.pending := by simp -implicitDefEqProofs [State.lrnCmd]
@[simp] theorem riClear_pending (a : Nat) : (s.riClear a).pending = s.pending := by simp -implicitDefEqProofs [State.riClear]
/-- The action that an address selects is one of the list's. -/
theorem writeReg?_mem {a : Nat} {l : List WriteReg} {r : WriteReg} {i : Nat} (h : writeReg? a l = some (r, i)) : r ∈ l := by
  induction l with
  | nil => simp [writeReg?] at h
  | cons x t ih =>
    rw [writeReg?] at h
    split at h
    · simp only [Option.some.injEq, Prod.mk.injEq] at h
      simp [h.1]
    · exact List.mem_cons_of_mem _ (ih h)

theorem mainWrites_pending : ∀ r ∈ mainWrites, ∀ (s : State) (p : Path) (i : Nat) (v : Word),
    (r.act s p i v).pending = s.pending := by
  simp -implicitDefEqProofs [mainWrites]

theorem tileWrites_pending : ∀ r ∈ tileWrites, ∀ (s : State) (p : Path) (i : Nat) (v : Word),
    (r.act s p i v).pending = s.pending := by
  simp -implicitDefEqProofs [tileWrites]

theorem writeReg?_pending {a i : Nat} {r : WriteReg}
    (h : writeReg? a (if isTileReg a then tileWrites else mainWrites) = some (r, i)) (s : State) (p : Path) (v : Word) :
    (r.act s p i v).pending = s.pending := by
  have hm := writeReg?_mem h
  split at hm
  · exact tileWrites_pending r hm s p i v
  · exact mainWrites_pending r hm s p i v

@[simp] theorem act_pending (p : Path) (a : Nat) (v : Word) : (s.act p a v).pending = s.pending := by
  unfold State.act
  split
  · rename_i r i h
    exact writeReg?_pending h s p v
  · exact plain_pending s a v
@[simp] theorem wideCommit_pending (base n : Nat) (p : Path) (v : Word) : (s.wideCommit base n p v).pending = s.pending := by
  simp -implicitDefEqProofs [State.wideCommit]
@[simp] theorem writeWord_pending (p : Path) (a : Nat) (v : Word) : (s.writeWord p a v).pending = s.pending := by
  unfold State.writeWord
  split <;> simp -implicitDefEqProofs
@[simp] theorem forget_pending (ns : List Nat) : (s.forget ns).pending = s.pending := by
  simp -implicitDefEqProofs [State.forget]
@[simp] theorem write_pending (tile : Bool) (p : Path) (a : Nat) (v : Word) : (s.write tile p a v).2.pending = s.pending := by
  unfold State.write
  split <;> simp -implicitDefEqProofs
@[simp] theorem reached_pending (p : Path) (a : Nat) : (s.reached p a).pending = s.pending := by
  simp -implicitDefEqProofs [State.reached]

/-! ### The host link and Riath -/

@[simp] theorem setListener_pending (tile : Bool) (l : Listener) : (s.setListener tile l).pending = s.pending := by
  simp -implicitDefEqProofs [State.setListener]
@[simp] theorem respond_pending (tile : Bool) (r : RiathResp) : (s.respond tile r).pending = s.pending := by
  simp -implicitDefEqProofs [State.respond]
@[simp] theorem riExec_pending (tile : Bool) (q : RiathReq) : (s.riExec tile q).2.pending = s.pending := by
  unfold State.riExec
  dsimp only
  (repeat' split) <;> simp -implicitDefEqProofs
@[simp] theorem riFresh_pending (tile : Bool) (q : RiathReq) : (s.riFresh tile q).pending = s.pending := by
  simp -implicitDefEqProofs [State.riFresh]
@[simp] theorem riServe_pending (tile : Bool) (q : RiathReq) : (s.riServe tile q).pending = s.pending := by
  unfold State.riServe
  split <;> simp -implicitDefEqProofs
@[simp] theorem riWake_pending (f : RiathFrame) : (s.riWake f).pending = s.pending := by
  simp -implicitDefEqProofs [State.riWake]
@[simp] theorem riath_pending (f : RiathFrame) : (s.riath f).pending = s.pending := by
  unfold State.riath
  split <;> simp -implicitDefEqProofs
@[simp] theorem riWire_pending (f : RiathFrame) : (s.riWire f).pending = s.pending := by
  unfold State.riWire
  split <;> simp -implicitDefEqProofs
@[simp] theorem riCount_pending (dest : Option (BitVec 7)) (hi lo : Nat) : (s.riCount dest hi lo).pending = s.pending := by
  simp -implicitDefEqProofs [State.riCount]
@[simp] theorem winStore_pending (a : Nat) (bs : List (Option Byte)) : (s.winStore a bs).pending = s.pending := by
  induction bs generalizing s a with
  | nil => rfl
  | cons b t ih =>
    cases b with
    | none => rw [State.winStore, ih]
    | some b => rw [State.winStore, ih, store_pending]
@[simp] theorem winWriteBytes_pending (a : Nat) (bs : List (Option Byte)) : (s.winWriteBytes a bs).pending = s.pending := by
  simp -implicitDefEqProofs [State.winWriteBytes]
@[simp] theorem winFault_pending (off : Nat) (wr : Bool) : (s.winFault off wr).pending = s.pending := by
  simp -implicitDefEqProofs [State.winFault]
@[simp] theorem reissue_pending : s.reissue.pending = s.pending := by simp -implicitDefEqProofs [State.reissue]
@[simp] theorem linkSettles_pending : s.linkSettles.pending = s.pending := by simp -implicitDefEqProofs [State.linkSettles]

end Sys2Proof.Machine
end

section
/-! Every command answers and leaves the queue of waiting commands. -/

namespace Sys2Proof.Machine

variable (s : State)

/-- The outcome is a next state whose queue of waiting commands is that of `s`. -/
def QueueKept (s : State) (o : Host.Outcome State Fault Refusal) : Prop := Answers o fun t => t.pending = s.pending

/-- A command that the device takes keeps the queue if its effect does. -/
@[simp] theorem queueKept_done (t : State) : QueueKept s (done t) ↔ t.pending = s.pending := by
  simp [QueueKept, Answers, done]

@[simp] theorem queueKept_ite (c : Prop) [Decidable c] (a b : Host.Outcome State Fault Refusal) :
    QueueKept s (if c then a else b) ↔ if c then QueueKept s a else QueueKept s b := by
  split <;> rfl

/-- The queue of `t` is that of `s`. -/
def SameQueue (s t : State) : Prop := t.pending = s.pending

@[simp] theorem sameQueue_iff (t : State) : SameQueue s t ↔ t.pending = s.pending := Iff.rfl

@[simp] theorem queueKept_hAccess (f : State → State) (hf : ∀ t, SameQueue t (f t)) : QueueKept s (s.hAccess f) := by
  have h := hf s.activity
  simp only [sameQueue_iff, activity_pending] at h
  simp -implicitDefEqProofs [State.hAccess, h]

@[simp] theorem queueKept_hWrite (a : Nat) (f : State → State) (hf : ∀ t, SameQueue t (f t)) : QueueKept s (s.hWrite a f) := by
  have h := hf s.activity
  simp only [sameQueue_iff, activity_pending] at h
  simp -implicitDefEqProofs [State.hWrite, State.hAccess, h]

/-! ### The commands that branch -/

@[simp] theorem execEccWriteback_queue : QueueKept s (execEccWriteback s) := by
  unfold execEccWriteback
  split <;> simp -implicitDefEqProofs
@[simp] theorem execFlitReceive_queue (link : Fin 4) (dirB : Bool) (seq : Nat) (crcOk : Bool) (corrected : Nat) (ue : Bool)
    (credit : Option CreditError) : QueueKept s (execFlitReceive link dirB seq crcOk corrected ue credit s) := by
  unfold execFlitReceive
  dsimp only
  (repeat' split) <;> simp -implicitDefEqProofs
@[simp] theorem execWaitRegister_queue (k : Fin 256) : QueueKept s (execWaitRegister k s) := by
  unfold execWaitRegister
  dsimp only
  split <;> simp -implicitDefEqProofs
@[simp] theorem execHuddleNodeArrive_queue (idx : Nat) : QueueKept s (execHuddleNodeArrive idx s) := by
  unfold execHuddleNodeArrive
  split <;> simp -implicitDefEqProofs
@[simp] theorem execDumpDone_queue : QueueKept s (execDumpDone s) := by
  unfold execDumpDone
  dsimp only
  (repeat' split) <;> simp -implicitDefEqProofs
@[simp] theorem execWarmReset_queue : QueueKept s (execWarmReset s) := by
  unfold execWarmReset
  split <;> simp -implicitDefEqProofs
@[simp] theorem execAvsbusTransactionDone_queue (ok : Bool) : QueueKept s (execAvsbusTransactionDone ok s) := by
  unfold execAvsbusTransactionDone
  split <;> simp -implicitDefEqProofs
@[simp] theorem execWeightLoad_queue (e : Fin 1024) (half : Bool) : QueueKept s (execWeightLoad e half s) := by
  unfold execWeightLoad
  dsimp only
  (repeat' split) <;> simp -implicitDefEqProofs
@[simp] theorem execEngineRowStart_queue (e : Fin 1024) : QueueKept s (execEngineRowStart e s) := by
  unfold execEngineRowStart
  dsimp only
  (repeat' split) <;> simp -implicitDefEqProofs
@[simp] theorem execTableBuild_queue (e : Fin 1024) : QueueKept s (execTableBuild e s) := by
  unfold execTableBuild
  split <;> simp -implicitDefEqProofs
@[simp] theorem execEngineRowEnd_queue (e : Fin 1024) : QueueKept s (execEngineRowEnd e s) := by
  unfold execEngineRowEnd
  split <;> simp -implicitDefEqProofs
@[simp] theorem execDrainConvert_queue (e : Fin 1024) : QueueKept s (execDrainConvert e s) := by
  unfold execDrainConvert
  dsimp only
  (repeat' split) <;> simp -implicitDefEqProofs
@[simp] theorem execReductionCombine_queue (core : Fin 64) : QueueKept s (execReductionCombine core s) := by
  unfold execReductionCombine
  split <;> simp -implicitDefEqProofs
@[simp] theorem execScrubRead_queue (arr : SramArray) (granule : Nat) (flips : List (Nat × Flaw)) :
    QueueKept s (execScrubRead arr granule flips s) := by
  unfold execScrubRead
  dsimp only
  split <;> simp -implicitDefEqProofs
@[simp] theorem execRowEncode_queue (core : Fin 64) : QueueKept s (execRowEncode core s) := by
  unfold execRowEncode
  split <;> simp -implicitDefEqProofs
@[simp] theorem execIssueGrant_queue (core : Fin 64) : QueueKept s (execIssueGrant core s) := by
  unfold execIssueGrant
  dsimp only
  (repeat' split) <;> simp -implicitDefEqProofs
@[simp] theorem execForwardedOperator_queue (k : Fin 256) : QueueKept s (execForwardedOperator k s) := by
  unfold execForwardedOperator
  dsimp only
  split <;> simp -implicitDefEqProofs
@[simp] theorem execOperatorRetire_queue (core : Fin 64) (idx : Fin 64) : QueueKept s (execOperatorRetire core idx s) := by
  unfold execOperatorRetire
  dsimp only
  (repeat' split) <;> simp -implicitDefEqProofs
@[simp] theorem execRetirementReport_queue (core : Fin 64) (q : BitVec 8) (entry : Nat) :
    QueueKept s (execRetirementReport core q entry s) := by
  unfold execRetirementReport
  dsimp only
  (repeat' split) <;> simp -implicitDefEqProofs
@[simp] theorem execDangerousFault_queue (extra : Nat) : QueueKept s (execDangerousFault extra s) := by
  unfold execDangerousFault
  split <;> simp -implicitDefEqProofs
@[simp] theorem execDigestRecordReady_queue : QueueKept s (execDigestRecordReady s) := by
  unfold execDigestRecordReady
  split <;> simp -implicitDefEqProofs
@[simp] theorem execGoldenCheck_queue : QueueKept s (execGoldenCheck s) := by
  unfold execGoldenCheck
  split <;> simp -implicitDefEqProofs
@[simp] theorem execFrameDeliver_queue (n : Fin 64) : QueueKept s (execFrameDeliver n s) := by
  unfold execFrameDeliver
  split <;> simp -implicitDefEqProofs
@[simp] theorem execEthernetFrameRx_queue (m : Fin 2) (data : List Byte) (fcsOk : Bool) (age : Nat) (backlog : Fin 2049)
    (lost ue : Bool) : QueueKept s (execEthernetFrameRx m data fcsOk age backlog lost ue s) := by
  unfold execEthernetFrameRx
  dsimp only
  (repeat' split) <;> simp -implicitDefEqProofs
@[simp] theorem execCanMessageRx_queue (c : Fin 2) (id : BitVec 29) (ide fdf brs rtr esi : Bool) (dlc : BitVec 4)
    (data : List Byte) (age : Nat) (backlog : Fin 2049)
    (lost ue : Bool) : QueueKept s (execCanMessageRx c id ide fdf brs rtr esi dlc data age backlog lost ue s) := by
  unfold execCanMessageRx
  dsimp only
  (repeat' split) <;> simp -implicitDefEqProofs
@[simp] theorem execTxComplete_queue (t : Fin 4) (ok : Bool) (age : Nat) : QueueKept s (execTxComplete t ok age s) := by
  unfold execTxComplete
  split <;> simp -implicitDefEqProofs
@[simp] theorem execTriggerPulseEnd_queue (o : Fin 16) : QueueKept s (execTriggerPulseEnd o s) := by
  unfold execTriggerPulseEnd
  split <;> simp -implicitDefEqProofs
@[simp] theorem execCfgSaveDone_queue : QueueKept s (execCfgSaveDone s) := by
  unfold execCfgSaveDone
  split <;> simp -implicitDefEqProofs
@[simp] theorem execPrecisionConversionEnd_queue (raw : BitVec 24) (full : Bool) :
    QueueKept s (execPrecisionConversionEnd raw full s) := by
  unfold execPrecisionConversionEnd
  dsimp only
  (repeat' split) <;> simp -implicitDefEqProofs
@[simp] theorem execPulseRateTimeout_queue (p : Fin 4) : QueueKept s (execPulseRateTimeout p s) := by
  unfold execPulseRateTimeout
  split <;> simp -implicitDefEqProofs
@[simp] theorem execCheckpointSearchDone_queue : QueueKept s (execCheckpointSearchDone s) := by
  unfold execCheckpointSearchDone
  dsimp only
  (repeat' split) <;> simp -implicitDefEqProofs
@[simp] theorem execLogRecordWrite_queue (ok : Bool) : QueueKept s (execLogRecordWrite ok s) := by
  unfold execLogRecordWrite
  dsimp only
  (repeat' split) <;> simp -implicitDefEqProofs
@[simp] theorem execLogSearchDone_queue : QueueKept s (execLogSearchDone s) := by
  unfold execLogSearchDone
  dsimp only
  (repeat' split) <;> simp -implicitDefEqProofs
@[simp] theorem execRunDwellEnd_queue (e : Fin 2) : QueueKept s (execRunDwellEnd e s) := by
  unfold execRunDwellEnd
  split <;> simp -implicitDefEqProofs
@[simp] theorem execEpochCommit_queue : QueueKept s (execEpochCommit s) := by
  unfold execEpochCommit
  split <;> simp -implicitDefEqProofs
@[simp] theorem execNvsWriteDone_queue (ok : Bool) : QueueKept s (execNvsWriteDone ok s) := by
  unfold execNvsWriteDone
  split <;> simp -implicitDefEqProofs
@[simp] theorem execRiathResponse_queue (tile : Bool) : QueueKept s (execRiathResponse tile s) := by
  unfold execRiathResponse
  split <;> simp -implicitDefEqProofs

/-- Every command's effect is made of operations that each leave the queue. -/
theorem exec_queue (c : Instr) : QueueKept s (exec c s) := by
  cases c <;> simp -implicitDefEqProofs [exec,
    execScrubPassStart, execLpddrTrain, execMemClrEcc, execMemClrSpill, execDramTempReport, execReplayRequest,
    execPairTrain, execPairTrainDone, execPairTrainTimeout, execPairStop, execLnkClr, execPairLinkDown, execCounterAdd,
    execHostAdd, execShadowWrite, execCounterSet, execEndValueCommit, execCounterCapture, execHostEndCheck, execSynClr,
    execHostHuddleArrive, execDumpStart, execCommitSdt, execCommitQdt, execCommitSot, execCommitTdt,
    execTableLoadComplete, execPowerOnReset, execSupervisorReset, execPerstRelease, execHDieResetRelease,
    execAlignMarkerReturn, execAlignMarkerTimeout, execRateMeasure, execAvsUpdate, execMonitorEnable, execQntSnap,
    execQntClear, execQntExpChange, execEngClrSat, execEngClrBusy, execQStart, execQHalt, execQResume, execQRelease,
    execQCmdReserved, execEntryFetch, execWaitEntry, execSignalEntry, execHuddleArrivalEntry, execReservedEntryKind,
    execOpUnimplemented, execLinear, execConv2d, execEncodeRow, execEncodeWeight, execAdd, execSub, execMul, execFma,
    execMin, execMax, execAbs, execNeg, execCmp, execSelect, execRelu, execClamp, execConvert, execExp, execRecip,
    execSqrt, execRsqrt, execSigmoid, execTanh, execGelu, execSilu, execRescale, execRowMax, execRowMin, execRowSum,
    execRowSumsq, execSoftmax, execLayernorm, execRmsnorm, execReduce, execCopy, execPoolMax, execWatchdogScan,
    execSbCapture, execSchClrHw, execCtxCfgWrite, execOverTemperature, execPeerRecordReceive, execMatchTableScan,
    execSafModeWrite, execBistSlice, execBistPeriodEnd, execDiagnosticBistDone, execRecoveryReady, execReplayDone,
    execFullDieReset, execTstKeyWrite, execTstDigArm, execTstFault, execTstEccArm, execStreamStart, execStreamStop,
    execStreamAbort, execStreamReload, execStreamClear, execStreamCmdReserved, execIngClr, execIngClrHw,
    execSourceEnable, execSourceDisable, execFrameStart, execLongPacket, execFrameEnd, execFrameGapTimeout,
    execTxDescriptorSend, execCanRecover, execCanBusOffRecovery, execCanBusError, execEthernetLinkChange,
    execTimebaseCycle, execTimeStep, execOffsetCommit, execTsiEdge, execTsiPop, execKickoffArm, execKickoffDisarm, execKickoffFire,
    execBlankEdge, execBlankHoldoffEnd, execSwitchDwellTick, execSwitchCommit, execSwitchAck, execSwoOvercurrent,
    execSwoRetry, execCfgSave, execVibModeWrite, execVibSample, execBiasCheck, execPrecisionDischargeEnd,
    execPrecisionSettleEnd, execBurnoutTrip, execPulseEdge, execCheckpointTimer, execCheckpointSelect, execLogPeriodic,
    execLogSelect, execCalSessionOpen, execCalImageRead, execEventCoreStep, execConfirmWrite, execConfirmMinute,
    execConfirmBall, execCommitModel, execEndEpoch, execRelearn, execLrnSaveCfg, execLrnClr, execSynSelect,
    execSynDataWrite, execSrcDataWrite, execModelRecoveryDone, execPllEnable, execClkSrcSwitch, execPllLossOfLock,
    execPllLock, execLpddrTrainDone, execHoldTimer, execDugoutTimer, execHoldExitActivity, execPwrReqRun,
    execPwrReqDugout, execPwrReqDormant, execPgMainLow, execMinOffExpiry, execPgMainHigh, execPgTimeout,
    execAlignmentComplete, execDormantEntryComplete, execWakeEdge, execWakeCan, execHwake, execRtcAlarm, execAlarmArm,
    execRtcSet, execPairCapture, execTileRailLoss, execTilePowerOnReset, execSentinelRun, execBurstDue, execExcitationOn,
    execBurstComplete, execFeaturesReady, execEventsReady, execScoreCompare, execResultPublish, execResultSelect,
    execRegisterWrite, execWideValueLowRead, execWideValueHighWrite, execRiathRead, execRiathWrite, execRiathIdent,
    execRiathReserved, execRiathFramingError, execRiathFrameTimeout, execRiStatClr, execBar2Access, execPcieHotReset,
    execPcieLinkUp, execMsixUnmask, execPcieConfigWrite, execEventEnableWrite]

/-- Settles O2, by cases over the commands (`exec_queue`). -/
theorem execKeepsQueueAndAnswers : Obligations.ExecKeepsQueueAndAnswers := by
  unfold Obligations.ExecKeepsQueueAndAnswers
  exact fun c s => exec_queue s c

end Sys2Proof.Machine
end

section
/-! What the commands of the fabric share: what follows a command keeps, and the frame of one that is no access. -/

namespace Sys2Proof.Machine

variable (s : State)

/-! ### What follows a command leaves of the power controller -/

/-- An activity touches the state of the power controller and its slot of requests only. -/
theorem active_frame (p : Power) : p.active = { p with
    state := p.active.state, pending := p.active.pending, slotTick := p.active.slotTick, slotWas := p.active.slotWas
    slotReqs := p.active.slotReqs } := by
  unfold Power.active
  split
  · rfl
  · split <;> rfl

theorem settle_power_eq_or : s.settle.power = s.power ∨ s.settle.power = s.power.active := by
  rw [← activity_power]
  exact settle_power s

@[simp] theorem settle_perst : s.settle.power.perst = s.power.perst := by
  rcases settle_power_eq_or s with h | h
  · rw [h]
  · rw [h, active_frame]

@[simp] theorem settle_hiZ : s.settle.power.hiZ = s.power.hiZ := by
  rcases settle_power_eq_or s with h | h
  · rw [h]
  · rw [h, active_frame]

/-- In RUN nothing that follows a command changes the power controller. -/
theorem settle_power_of_run (h : s.power.state = .run) : s.settle.power = s.power := by
  rw [settle_none s (by rw [h]; decide) (by rw [h]; decide)]

/-! ### Registers after a command -/

theorem settle_bit {a : Nat} (h : a ≠ Reg.PWR_STATUS) (n : Nat) : s.settle.bit a n = s.bit a n :=
  bit_congr s (settle_reg_of_ne s a h) n

theorem settle_fld {a : Nat} (h : a ≠ Reg.PWR_STATUS) (hi lo : Nat) : s.settle.fld a hi lo = s.fld a hi lo :=
  fld_congr s (settle_reg_of_ne s a h) hi lo

/-- A field of a register stays when a bit of another register is set. -/
theorem bit_setBit_other (a n b m : Nat) (v : Bool) (h : b ≠ a) : (s.setBit a n v).bit b m = s.bit b m :=
  bit_congr s (reg_setBit_other s a n b v h) m

theorem setNat_frame (a v : Nat) : s.setNat a v = { s with regs := (s.setNat a v).regs } := rfl
theorem setFld_frame (a hi lo v : Nat) : s.setFld a hi lo v = { s with regs := (s.setFld a hi lo v).regs } := rfl
theorem setBit_frame (a n : Nat) (b : Bool) : s.setBit a n b = { s with regs := (s.setBit a n b).regs } := rfl

/-! ### The frame of a command that is no access -/

/-- The frame of a command whose effect `v` leaves the power controller as `u` names it. -/
theorem frame_settle {v u : State} {changed : List Nat} (hp : v.power = u.power) (hh : v.host = s.host)
    (he : v.settle = { u with power := v.settle.power }) (hr : ∀ a, a ∉ changed → v.reg a = s.reg a) :
    s.Frame v.settle u changed :=
  ⟨keeps_settle { s with power := u.power } (.refl hp) rfl he fun a h _ => hr a h, eventsFrom_settle s hh⟩

end Sys2Proof.Machine
end

section
/-! The release of the H-die's reset (R52, R186, R443, R543). -/

namespace Sys2Proof.Machine

variable (s : State)

/-! ### The substitution state from the tile's copy (R186) -/

theorem foldl_setReg_frame (m : SMap Word) : m.foldl (fun t e => t.setReg e.1 e.2) s =
    { s with regs := (m.foldl (fun t e => t.setReg e.1 e.2) s).regs } := by
  induction m generalizing s with
  | nil => rfl
  | cons e t ih =>
    rw [List.foldl_cons, ih]
    rfl

/-- Registers written one by one leave every register that is not listed. -/
theorem foldl_setReg_reg_other (m : SMap Word) {a : Nat} (h : a ∉ m.map (·.1)) :
    (m.foldl (fun t e => t.setReg e.1 e.2) s).reg a = s.reg a := by
  induction m generalizing s with
  | nil => rfl
  | cons e t ih =>
    rw [List.map_cons, List.mem_cons, not_or] at h
    rw [List.foldl_cons, ih _ h.2, reg_setReg_other _ _ _ _ h.1]

theorem restoreSubs_frame : s.restoreSubs = { s with safety := s.restoreSubs.safety, regs := s.restoreSubs.regs } := by
  unfold State.restoreSubs
  dsimp only
  rw [foldl_setReg_frame]

/-- The state with the substitution state restored where a release restores it. -/
def State.restored (s : State) : State := if s.align.restore then s.restoreSubs else s

/-- The registers that a release restores. -/
def State.restoredRegs (s : State) : List Nat := if s.align.restore = false then [] else s.subCopy.maps.map (·.1)

theorem restored_frame : s.restored = { s with safety := s.restored.safety, regs := s.restored.regs } := by
  unfold State.restored
  split
  · exact restoreSubs_frame s
  · rfl

theorem restored_reg_other {a : Nat} (h : a ∉ s.restoredRegs) : s.restored.reg a = s.reg a := by
  unfold State.restoredRegs at h
  unfold State.restored
  split
  · next hr =>
    rw [if_neg (by rw [hr]; decide)] at h
    exact foldl_setReg_reg_other _ _ h
  · rfl

/-! ### H_DIE_RESET_RELEASE -/

/-- PLL 6 is enabled and locked, PLL 2 is enabled. -/
def State.pllsStart (s : State) : State :=
  ((s.setBit Reg.CLK_PLL_CTRL 6 true).setBit Reg.CLK_PLL_STATUS 6 true).setBit Reg.CLK_PLL_CTRL 2 true

theorem pllsStart_bits : s.pllsStart.bit Reg.CLK_PLL_CTRL 6 = true ∧ s.pllsStart.bit Reg.CLK_PLL_STATUS 6 = true ∧
    s.pllsStart.bit Reg.CLK_PLL_CTRL 2 = true := by
  unfold State.pllsStart
  refine ⟨?_, ?_, ?_⟩
  · rw [bit_setBit_reg _ _ _ _ _ (by omega), if_neg (by omega), bit_setBit_other _ _ _ _ _ _ (by decide),
      bit_setBit_reg _ _ _ _ _ (by omega), if_pos rfl]
  · rw [bit_setBit_other _ _ _ _ _ _ (by decide), bit_setBit_reg _ _ _ _ _ (by omega), if_pos rfl]
  · rw [bit_setBit_reg _ _ _ _ _ (by omega), if_pos rfl]

theorem pllsStart_reg_other {a : Nat} (h : a ∉ [Reg.CLK_PLL_CTRL, Reg.CLK_PLL_STATUS]) : s.pllsStart.reg a = s.reg a := by
  simp only [List.mem_cons, List.not_mem_nil, or_false, not_or] at h
  obtain ⟨hc, hs⟩ := h
  rw [State.pllsStart, reg_setBit_other _ _ _ _ _ hc, reg_setBit_other _ _ _ _ _ hs, reg_setBit_other _ _ _ _ _ hc]

/-- The dies leave reset: every crossing awaits its marker with its pointers held at 0, no block is held, the balls are
driven and the timebase counts (R52, R430). -/
def State.leavesReset (s : State) : State :=
  { s with
    align := { inReset := false, line := false, waiting := crossings, held := [], fifos := [], restore := false }
    power := { s.power with hiZ := false }
    time := { s.time with counting := true } }

@[simp] theorem leavesReset_reg (a : Nat) : s.leavesReset.reg a = s.reg a := rfl

theorem releaseReset_eq : s.releaseReset = s.restored.pllsStart.leavesReset := by
  unfold State.releaseReset
  dsimp only
  rw [← State.restored, ← State.pllsStart, ← State.leavesReset]

theorem pllsStart_frame : s.pllsStart = { s with regs := s.pllsStart.regs } := by
  rw [State.pllsStart, setBit_frame, setBit_frame (s.setBit _ _ _), setBit_frame s]

theorem releaseReset_frame : s.releaseReset = { s with
    align := s.leavesReset.align, time := { s.time with counting := true }, safety := s.releaseReset.safety
    power := { s.power with hiZ := false }, regs := s.releaseReset.regs } := by
  rw [releaseReset_eq]
  have hr := restored_frame s
  have hp := pllsStart_frame s.restored
  generalize s.restored.pllsStart = v at hp ⊢
  generalize s.restored = u at hr hp
  rw [hp]
  dsimp only
  rw [hr]
  rfl

theorem releaseReset_reg_other {a : Nat} (h : a ∉ [Reg.CLK_PLL_CTRL, Reg.CLK_PLL_STATUS] ++ s.restoredRegs) :
    s.releaseReset.reg a = s.reg a := by
  rw [List.mem_append, not_or] at h
  rw [releaseReset_eq, leavesReset_reg, pllsStart_reg_other _ h.1, restored_reg_other s h.2]

theorem releaseReset_bit (a n : Nat) : s.releaseReset.bit a n = s.restored.pllsStart.bit a n := by
  rw [releaseReset_eq]
  exact bit_congr _ (leavesReset_reg _ a) n

/-- The release half of O13. -/
theorem hDieResetRelease_answers (hr : s.align.inReset = true) (hl : s.align.line = false) (hg : s.power.pgMain = true)
    (he : s.power.enables = true) : Answers (exec .hDieResetRelease s) fun t =>
      t.align = s.leavesReset.align ∧ t.time.counting = true ∧ t.power.hiZ = false ∧
      t.bit Reg.CLK_PLL_CTRL 6 = true ∧ t.bit Reg.CLK_PLL_STATUS 6 = true ∧ t.bit Reg.CLK_PLL_CTRL 2 = true ∧
      s.Frame t { s with
          align := t.align, time := { s.time with counting := true }, safety := t.safety
          power := { s.power with hiZ := false }, regs := t.regs, host := t.host }
        ([Reg.CLK_PLL_CTRL, Reg.CLK_PLL_STATUS] ++ s.restoredRegs) := by
  have hx : exec .hDieResetRelease s = done s.releaseReset := by
    simp only [exec, execHDieResetRelease, hr, hl, hg, he, Bool.not_false, Bool.and_self, if_true]
  have hf := releaseReset_frame s
  have hbit := releaseReset_bit s
  have hreg := fun a => releaseReset_reg_other s (a := a)
  obtain ⟨hc6, hs6, hc2⟩ := pllsStart_bits s.restored
  rw [hx]
  generalize s.releaseReset = v at hf hbit hreg ⊢
  have halign : v.align = s.leavesReset.align := by rw [hf]
  have htime : v.time = { s.time with counting := true } := by rw [hf]
  have hpower : v.power = { s.power with hiZ := false } := by rw [hf]
  have hhost : v.host = s.host := by rw [hf]
  refine answers_done ⟨?_, ?_, ?_, ?_, ?_, ?_, frame_settle s hpower hhost ?_ hreg⟩
  · rw [settle_align, halign]
  · rw [settle_time, htime]
  · rw [settle_hiZ, hpower]
  · rw [settle_bit _ (by decide), hbit, hc6]
  · rw [settle_bit _ (by decide), hbit, hs6]
  · rw [settle_bit _ (by decide), hbit, hc2]
  · rw [settle_align, settle_safety]
    refine settle_eq_of (u := { s with
      align := v.align, time := { s.time with counting := true }, safety := v.safety }) ?_
    rw [hpower, hhost, halign]
    exact hf

/-! ### PERST_RELEASE -/

/-- PERST# is high: it holds the reset line no longer where PG_MAIN is high (R543). -/
def State.perstHigh (s : State) : State :=
  { s with power := { s.power with perst := true }, align := { s.align with line := s.align.line && !s.power.pgMain } }

/-- The other half of O13. -/
theorem perstRelease_answers : Answers (exec .perstRelease s) fun t =>
    t.power.perst = true ∧ t.align = { s.align with line := s.align.line && !s.power.pgMain } ∧
    s.Frame t { s with
      power := { s.power with perst := true }, align := t.align, regs := t.regs, host := t.host } [] := by
  have hx : exec .perstRelease s = done s.perstHigh := rfl
  rw [hx]
  refine answers_done ⟨settle_perst _, settle_align _, frame_settle s rfl rfl ?_ fun a _ => rfl⟩
  rw [settle_align]
  exact settle_eq_of (u := { s with align := s.perstHigh.align }) rfl

/-- Settles O13: the halves for PERST# and for the reset of the H-die. -/
theorem releaseOfHDieReset : Obligations.ReleaseOfHDieReset := by
  unfold Obligations.ReleaseOfHDieReset
  exact ⟨perstRelease_answers, hDieResetRelease_answers⟩

end Sys2Proof.Machine
end

section
/-! The alignment of the crossings (R52, R54, R56). -/

namespace Sys2Proof.Machine

variable (s : State)

/-! ### Markers and crossings -/

/-- The marker that is gone is awaited no longer. -/
theorem markerGone_contains (d : Nat) (side : Bool) : (s.markerGone d side).align.waiting.contains (d, side) = false := by
  simp [State.markerGone]

@[simp] theorem markerGone_reg (d : Nat) (side : Bool) (a : Nat) : (s.markerGone d side).reg a = s.reg a := rfl

@[simp] theorem startCrossing_reg (d : Nat) (side : Bool) (a : Nat) : (s.startCrossing d side).reg a = s.reg a := rfl

theorem crossing_congr {t : State} (h : t.align = s.align) (d : Nat) (side : Bool) : t.crossing d side = s.crossing d side := by
  unfold State.crossing
  rw [h]

/-- The two sides of a crossing start with their pointers at 0 and credit for 8 entries (R51, R52). -/
theorem crossing_startCrossing_same (d : Nat) (side : Bool) :
    (s.startCrossing d side).crossing d side = { toDomain := ⟨0, 0, 8⟩, toFabric := ⟨0, 0, 8⟩ } := by
  simp only [State.startCrossing, State.crossing, smap_look_put_same, XFifo.start]

/-- Crossings are kept at keys of their own. -/
theorem crossingKey_inj {d e : Nat} {x y : Bool} (h : 2 * e + b2n y = 2 * d + b2n x) : (e, y) = (d, x) := by
  unfold b2n at h
  cases x <;> cases y <;> simp at h ⊢ <;> omega

theorem crossing_startCrossing_other {d e : Nat} {x y : Bool} (h : (e, y) ≠ (d, x)) :
    (s.startCrossing d x).crossing e y = s.crossing e y := by
  have hk : 2 * e + b2n y ≠ 2 * d + b2n x := fun k => h (crossingKey_inj k)
  simp only [State.startCrossing, State.crossing, smap_look_put_other _ _ _ _ _ hk]

/-! ### ALIGN_MARKER_RETURN -/

/-- The effect of a returned marker: its crossing starts, and the tile link's sets tile_ok (R56). -/
def State.markerBack (s : State) (d : Nat) (side : Bool) : State :=
  let t := (s.markerGone d side).startCrossing d side
  if d = 24 then t.setBit Reg.CLK_ALIGN_STATUS 2 true else t

theorem markerBack_align (d : Nat) (side : Bool) :
    (s.markerBack d side).align = ((s.markerGone d side).startCrossing d side).align := by
  unfold State.markerBack
  dsimp only
  split <;> rfl

theorem markerBack_frame (d : Nat) (side : Bool) : s.markerBack d side =
    { s with align := (s.markerBack d side).align, regs := (s.markerBack d side).regs } := by
  unfold State.markerBack
  dsimp only
  split <;> rfl

theorem markerBack_reg_other (d : Nat) (side : Bool) {a : Nat} (h : a ∉ if d = 24 then [Reg.CLK_ALIGN_STATUS] else []) :
    (s.markerBack d side).reg a = s.reg a := by
  unfold State.markerBack
  dsimp only
  split
  · next hd =>
    rw [if_pos hd, List.mem_singleton] at h
    rw [reg_setBit_other _ _ _ _ _ h, startCrossing_reg, markerGone_reg]
  · rw [startCrossing_reg, markerGone_reg]

theorem markerBack_tile_ok (side : Bool) : (s.markerBack 24 side).bit Reg.CLK_ALIGN_STATUS 2 = true := by
  rw [State.markerBack, if_pos rfl, bit_setBit_reg _ _ _ _ _ (by omega), if_pos rfl]

/-- The return part of O14. -/
theorem alignMarkerReturn_answers (d : Fin 25) (side : Bool) (h : s.align.waiting.contains (d.val, side) = true) :
    Answers (exec (.alignMarkerReturn d side) s) fun t =>
      t.align.waiting.contains (d.val, side) = false ∧ t.align.held = s.align.held ∧
      t.crossing d side = { toDomain := ⟨0, 0, 8⟩, toFabric := ⟨0, 0, 8⟩ } ∧
      (∀ e x, (e, x) ∈ crossings → (e, x) ≠ (d.val, side) → t.crossing e x = s.crossing e x) ∧
      (d.val = 24 → t.bit Reg.CLK_ALIGN_STATUS 2 = true) ∧
      s.Frame t { s with align := t.align, regs := t.regs, host := t.host } (if d.val = 24 then [Reg.CLK_ALIGN_STATUS] else []) := by
  have hx : exec (.alignMarkerReturn d side) s = done (s.markerBack d side) := by
    rw [exec, execAlignMarkerReturn, if_pos h]
    rfl
  have ha : (s.markerBack d side).settle.align = _ := (settle_align _).trans (markerBack_align s d side)
  have hf := markerBack_frame s d side
  rw [hx]
  refine answers_done ⟨?_, ?_, ?_, fun e x _ hne => ?_, fun hd => ?_, ?_⟩
  · rw [ha]
    exact markerGone_contains s d side
  · rw [ha]
    rfl
  · rw [crossing_congr _ ha]
    exact crossing_startCrossing_same _ _ _
  · rw [crossing_congr _ ha]
    exact crossing_startCrossing_other (s.markerGone d side) hne
  · rw [settle_bit _ (by decide), hd, markerBack_tile_ok]
  · refine frame_settle s (by rw [hf]) (by rw [hf]) ?_ fun a h => markerBack_reg_other s d side h
    rw [settle_align]
    exact settle_eq_of (u := { s with align := (s.markerBack d side).align }) (by rw [hf])

/-! ### ALIGN_MARKER_TIMEOUT -/

/-- The held domains with one more. -/
def holdDomain (held : List Nat) (d : Nat) : List Nat := if held.contains d then held else held ++ [d]

theorem holdDomain_contains (held : List Nat) (d e : Nat) : (holdDomain held d).contains e = (held.contains e || decide (e = d)) := by
  unfold holdDomain
  split
  · next h =>
    by_cases he : e = d
    · rw [he, h, Bool.true_or]
    · rw [decide_eq_false he, Bool.or_false]
  · simp

/-- The effect of a lost marker: its domain's block is held, and CLK_ALIGN_FAIL and failed show it (R54, R56). -/
def State.markerLost (s : State) (d : Nat) (side : Bool) : State :=
  let t := (s.markerGone d side).setBit Reg.CLK_ALIGN_FAIL d true
  let held := holdDomain s.align.held d
  ({ t with align := { t.align with held := held } }).setFld Reg.CLK_ALIGN_STATUS 7 3 held.length

theorem markerLost_align (d : Nat) (side : Bool) : (s.markerLost d side).align =
    { (s.markerGone d side).align with held := holdDomain s.align.held d } := rfl

theorem markerLost_frame (d : Nat) (side : Bool) : s.markerLost d side =
    { s with align := (s.markerLost d side).align, regs := (s.markerLost d side).regs } := rfl

theorem markerLost_reg_fail (d : Nat) (side : Bool) :
    (s.markerLost d side).reg Reg.CLK_ALIGN_FAIL = ((s.markerGone d side).setBit Reg.CLK_ALIGN_FAIL d true).reg Reg.CLK_ALIGN_FAIL :=
  reg_setFld_other _ _ _ _ _ _ (by decide)

theorem markerLost_fail {d : Nat} (side : Bool) (hd : d < 32) : (s.markerLost d side).bit Reg.CLK_ALIGN_FAIL d = true := by
  rw [bit_congr _ (markerLost_reg_fail s d side), bit_setBit_reg _ _ _ _ _ hd, if_pos rfl]

theorem markerLost_failed (d : Nat) (side : Bool) :
    (s.markerLost d side).fld Reg.CLK_ALIGN_STATUS 7 3 = (s.markerLost d side).align.held.length % 32 :=
  fld_setFld_reg _ _ _ _ _ (by omega) (by omega)

theorem markerLost_reg_other (d : Nat) (side : Bool) {a : Nat} (h : a ∉ [Reg.CLK_ALIGN_FAIL, Reg.CLK_ALIGN_STATUS]) :
    (s.markerLost d side).reg a = s.reg a := by
  simp only [List.mem_cons, List.not_mem_nil, or_false, not_or] at h
  obtain ⟨hf, hs⟩ := h
  have h1 : (s.markerLost d side).reg a = ((s.markerGone d side).setBit Reg.CLK_ALIGN_FAIL d true).reg a :=
    reg_setFld_other _ _ _ _ _ _ hs
  rw [h1, reg_setBit_other _ _ _ _ _ hf, markerGone_reg]

/-- The timeout part of O14. -/
theorem alignMarkerTimeout_answers (d : Fin 25) (side : Bool) (h : s.align.waiting.contains (d.val, side) = true) :
    Answers (exec (.alignMarkerTimeout d side) s) fun t =>
      t.align.waiting.contains (d.val, side) = false ∧ t.domHeld d.val = true ∧
      (∀ e, e ≠ d.val → t.domHeld e = s.domHeld e) ∧ t.bit Reg.CLK_ALIGN_FAIL d.val = true ∧
      t.fld Reg.CLK_ALIGN_STATUS 7 3 = t.align.held.length % 32 ∧
      s.Frame t { s with align := t.align, regs := t.regs, host := t.host } [Reg.CLK_ALIGN_FAIL, Reg.CLK_ALIGN_STATUS] := by
  have hx : exec (.alignMarkerTimeout d side) s = done (s.markerLost d side) := by
    rw [exec, execAlignMarkerTimeout, if_pos h]
    rfl
  have ha : (s.markerLost d side).settle.align = _ := (settle_align _).trans (markerLost_align s d side)
  have hheld : ∀ e, (s.markerLost d side).settle.domHeld e = (s.domHeld e || decide (e = d.val)) := by
    intro e
    rw [State.domHeld, ha]
    exact holdDomain_contains _ _ _
  rw [hx]
  refine answers_done ⟨?_, ?_, fun e he => ?_, ?_, ?_, ?_⟩
  · rw [ha]
    exact markerGone_contains s d side
  · rw [hheld, decide_eq_true rfl, Bool.or_true]
  · rw [hheld, decide_eq_false he, Bool.or_false]
  · rw [settle_bit _ (by decide), markerLost_fail s side (by omega)]
  · rw [settle_fld _ (by decide), markerLost_failed, settle_align]
  · refine frame_settle s rfl rfl ?_ fun a h => markerLost_reg_other s d side h
    rw [settle_align]
    exact settle_eq_of (u := { s with align := (s.markerLost d side).align }) rfl

/-! ### ALIGNMENT_COMPLETE -/

/-- CLK_ALIGN_STATUS after the end of the alignment: done, and ok where no block is held (R52, R56). -/
def State.alignShown (s : State) : State :=
  (s.setBit Reg.CLK_ALIGN_STATUS 0 true).setBit Reg.CLK_ALIGN_STATUS 1 s.align.held.isEmpty

/-- A die link whose crossings have aligned shows so. -/
def State.linkShown (s : State) (i : Nat) : State := if s.domHeld (19 + i) then s else s.setBit (Reg.LNK_STATUS i) 0 true

/-- The registers after the end of the alignment. -/
def State.aligned (s : State) : State := ((s.alignShown.linkShown 0).linkShown 1).linkShown 2

theorem linkShown_frame (i : Nat) : s.linkShown i = { s with regs := (s.linkShown i).regs } := by
  unfold State.linkShown
  split <;> rfl

theorem linkShown_reg_other {i a : Nat} (h : a ≠ Reg.LNK_STATUS i) : (s.linkShown i).reg a = s.reg a := by
  unfold State.linkShown
  split
  · rfl
  · exact reg_setBit_other _ _ _ _ _ h

theorem alignShown_frame : s.alignShown = { s with regs := s.alignShown.regs } := rfl

theorem aligned_frame : s.aligned = { s with regs := s.aligned.regs } := by
  unfold State.aligned
  rw [linkShown_frame, linkShown_frame _ 1, linkShown_frame _ 0, alignShown_frame]

theorem aligned_reg_of_notLink {a : Nat} (h0 : a ≠ Reg.LNK_STATUS 0) (h1 : a ≠ Reg.LNK_STATUS 1) (h2 : a ≠ Reg.LNK_STATUS 2) :
    s.aligned.reg a = s.alignShown.reg a := by
  rw [State.aligned, linkShown_reg_other _ h2, linkShown_reg_other _ h1, linkShown_reg_other _ h0]

theorem aligned_done : s.aligned.bit Reg.CLK_ALIGN_STATUS 0 = true := by
  rw [bit_congr _ (aligned_reg_of_notLink s (by decide) (by decide) (by decide)), State.alignShown,
    bit_setBit_reg _ _ _ _ _ (by omega), if_neg (by omega), bit_setBit_reg _ _ _ _ _ (by omega), if_pos rfl]

theorem aligned_ok : s.aligned.bit Reg.CLK_ALIGN_STATUS 1 = s.align.held.isEmpty := by
  rw [bit_congr _ (aligned_reg_of_notLink s (by decide) (by decide) (by decide)), State.alignShown,
    bit_setBit_reg _ _ _ _ _ (by omega), if_pos rfl]

theorem aligned_reg_other {a : Nat} (h : a ∉ [Reg.CLK_ALIGN_STATUS, Reg.LNK_STATUS 0, Reg.LNK_STATUS 1, Reg.LNK_STATUS 2]) :
    s.aligned.reg a = s.reg a := by
  simp only [List.mem_cons, List.not_mem_nil, or_false, not_or] at h
  obtain ⟨hs, h0, h1, h2⟩ := h
  rw [aligned_reg_of_notLink s h0 h1 h2, State.alignShown, reg_setBit_other _ _ _ _ _ hs, reg_setBit_other _ _ _ _ _ hs]

/-- What the end of the alignment does beside the registers: an exit to RUN goes on, HOLD and its transitions end in RUN. -/
theorem alignDone_eq : s.alignDone = match s.power.state with
    | .toRun => s.aligned.resumeStart.pwrArrive .run
    | .hold | .toHold | .fromHold => s.aligned.pwrArrive .run
    | _ => s.aligned := by
  have h : s.alignDone = match s.aligned.power.state with
    | .toRun => s.aligned.resumeStart.pwrArrive .run
    | .hold | .toHold | .fromHold => s.aligned.pwrArrive .run
    | _ => s.aligned := rfl
  have hp : s.aligned.power = s.power := by rw [aligned_frame]
  rw [h, hp]

theorem exec_alignmentComplete (hup : s.mainUp = true) (hd : s.bit Reg.CLK_ALIGN_STATUS 0 = false) (hw : s.align.waiting = []) :
    exec .alignmentComplete s = done s.alignDone := by
  simp only [exec, execAlignmentComplete, hup, hd, hw, List.isEmpty_nil, Bool.not_false, Bool.and_self, if_true]

/-- The end of an alignment in RUN. -/
theorem alignmentComplete_run (hup : s.mainUp = true) (hd : s.bit Reg.CLK_ALIGN_STATUS 0 = false) (hw : s.align.waiting = [])
    (hr : s.power.state = .run) : Answers (exec .alignmentComplete s) fun t =>
      t.bit Reg.CLK_ALIGN_STATUS 0 = true ∧ t.bit Reg.CLK_ALIGN_STATUS 1 = s.align.held.isEmpty ∧
      s.OnlyRegs t [Reg.CLK_ALIGN_STATUS, Reg.LNK_STATUS 0, Reg.LNK_STATUS 1, Reg.LNK_STATUS 2] := by
  have he : s.alignDone = s.aligned := by simp only [alignDone_eq, hr]
  have hp : s.aligned.power = s.power := by rw [aligned_frame]
  rw [exec_alignmentComplete s hup hd hw, he]
  refine answers_done ⟨?_, ?_, ?_⟩
  · rw [settle_bit _ (by decide), aligned_done]
  · rw [settle_bit _ (by decide), aligned_ok]
  · refine onlyRegs_settle s ?_ (.refl hp) fun a h _ => aligned_reg_other s h
    rw [hp]
    exact aligned_frame s

/-- The end of an alignment in HOLD or a transition from or to it. -/
theorem alignmentComplete_hold (hup : s.mainUp = true) (hd : s.bit Reg.CLK_ALIGN_STATUS 0 = false) (hw : s.align.waiting = [])
    (hr : s.runOrHold = true) (hn : s.power.state ≠ .run) (hq : s.power.pending = none) :
    Answers (exec .alignmentComplete s) fun t => t.bit Reg.CLK_ALIGN_STATUS 0 = true ∧ t.power.state = .run := by
  have he : s.alignDone = s.aligned.pwrArrive .run := by
    rw [alignDone_eq]
    rcases (runOrHold_iff s).mp hr with h | h | h | h
    · exact absurd h hn
    all_goals simp only [h]
  have hp : s.aligned.power = s.power := by rw [aligned_frame]
  have ha : s.aligned.pwrArrive .run = s.aligned.pw fun p => { p with state := .run, slotTick := none } := by
    simp only [State.pwrArrive, hp, hq]
  rw [exec_alignmentComplete s hup hd hw, he, ha]
  refine answers_done ⟨?_, ?_⟩
  · rw [settle_bit _ (by decide)]
    exact aligned_done s
  · rw [settle_power_of_run _ rfl]
    rfl

/-- Settles O14: a returned marker, a lost one, and the end of the alignment in RUN and in HOLD. -/
theorem alignmentMarkers : Obligations.AlignmentMarkers := by
  unfold Obligations.AlignmentMarkers
  exact ⟨alignMarkerReturn_answers, alignMarkerTimeout_answers, alignmentComplete_run, alignmentComplete_hold⟩

end Sys2Proof.Machine
end

section
/-! The adaptive voltage loop and its deadline monitors (R57, R59, R64, R66, R74). -/

namespace Sys2Proof.Machine

variable (s : State)

/-! ### The loop's state beside the registers -/

/-- The voltage loop's own state is replaced. -/
def State.withAvs (s : State) (x : Avs) : State := { s with avs := x }

@[simp] theorem withAvs_avs (x : Avs) : (s.withAvs x).avs = x := rfl
@[simp] theorem withAvs_reg (x : Avs) (a : Nat) : (s.withAvs x).reg a = s.reg a := rfl

/-- The frame of an effect that stores registers and replaces the loop's state. -/
theorem withAvs_frame {t : State} (h : t = { s with regs := t.regs }) (x : Avs) :
    t.withAvs x = { s with avs := (t.withAvs x).avs, regs := (t.withAvs x).regs } := by
  generalize t.regs = g at h
  subst h
  rfl

/-- The frame of a command whose effect changes the voltage loop and registers. -/
theorem frame_settle_avs {v : State} {changed : List Nat} (hv : v = { s with avs := v.avs, regs := v.regs })
    (hr : ∀ a, a ∉ changed → v.reg a = s.reg a) :
    s.Frame v.settle { s with avs := v.settle.avs, regs := v.settle.regs, host := v.settle.host } changed := by
  have hp : v.power = s.power := by rw [hv]
  have hh : v.host = s.host := by rw [hv]
  refine frame_settle s hp hh ?_ hr
  rw [settle_avs]
  exact settle_eq_of (u := { s with avs := v.avs }) (by rw [hp, hh]; exact hv)

/-! ### RATE_MEASURE (R57) -/

/-- The smaller of a pair's number and `f i`, with where it was found. -/
def minStep (f : Nat → Nat) (m : Nat × Nat) (i : Nat) : Nat × Nat := if f i < m.1 then (f i, i) else m

theorem minStep_le (f : Nat → Nat) (m : Nat × Nat) (i : Nat) : (minStep f m i).1 ≤ m.1 ∧ (minStep f m i).1 ≤ f i := by
  unfold minStep
  split
  · next h => exact ⟨Nat.le_of_lt h, Nat.le_refl _⟩
  · next h => exact ⟨Nat.le_refl _, Nat.le_of_not_lt h⟩

theorem foldl_minStep_le (f : Nat → Nat) (l : List Nat) (m : Nat × Nat) :
    (l.foldl (minStep f) m).1 ≤ m.1 ∧ ∀ i ∈ l, (l.foldl (minStep f) m).1 ≤ f i := by
  induction l generalizing m with
  | nil => exact ⟨Nat.le_refl _, fun i hi => absurd hi List.not_mem_nil⟩
  | cons j t ih =>
    obtain ⟨hm, ht⟩ := ih (minStep f m j)
    obtain ⟨h1, h2⟩ := minStep_le f m j
    refine ⟨Nat.le_trans hm h1, fun i hi => ?_⟩
    rcases List.mem_cons.mp hi with rfl | hi
    · exact Nat.le_trans hm h2
    · exact ht i hi

/-- What such a fold finds, where it starts with a number found. -/
theorem foldl_minStep_found (f : Nat → Nat) (l : List Nat) (m : Nat × Nat) (P : Nat → Prop) (hl : ∀ i ∈ l, P i)
    (hm : m.1 = f m.2 ∧ P m.2) :
    (l.foldl (minStep f) m).1 = f (l.foldl (minStep f) m).2 ∧ P (l.foldl (minStep f) m).2 := by
  induction l generalizing m with
  | nil => exact hm
  | cons j t ih =>
    refine ih _ (fun i hi => hl i (List.mem_cons_of_mem _ hi)) ?_
    unfold minStep
    split
    · exact ⟨rfl, hl j List.mem_cons_self⟩
    · exact hm

theorem slowest_eq (rs : List Nat) : slowest rs = (List.range 16).foldl (minStep (rs.getD · 0)) (rs.getD 0 0, 0) := rfl

/-- The slowest ring is one of the 16. -/
theorem slowest_found (rs : List Nat) : (slowest rs).1 = rs.getD (slowest rs).2 0 ∧ (slowest rs).2 < 16 := by
  rw [slowest_eq]
  exact foldl_minStep_found _ _ _ (· < 16) (fun i hi => List.mem_range.mp hi) ⟨rfl, by simp⟩

/-- No ring is slower than the slowest. -/
theorem slowest_le (rs : List Nat) {i : Nat} (hi : i < 16) : (slowest rs).1 ≤ rs.getD i 0 := by
  rw [slowest_eq]
  exact (foldl_minStep_le _ _ _).2 i (List.mem_range.mpr hi)

theorem ringRates_eq {rates : List Nat} (h : rates.length = 16) : ringRates rates = rates := by
  refine List.ext_getElem (by simp [ringRates, h]) fun i hi hi' => ?_
  simp [ringRates, hi']

/-- Of 16 rates the slowest ring's is one, and none is lower. -/
theorem slowest_ringRates {rates : List Nat} (h : rates.length = 16) :
    (slowest (ringRates rates)).1 ∈ rates ∧ ∀ r ∈ rates, (slowest (ringRates rates)).1 ≤ r := by
  rw [ringRates_eq h]
  obtain ⟨hv, hlt⟩ := slowest_found rates
  constructor
  · rw [hv, ← List.getElem_eq_getD (h := by omega) 0]
    exact List.getElem_mem _
  · intro r hr
    obtain ⟨i, hi, rfl⟩ := List.mem_iff_getElem.mp hr
    rw [List.getElem_eq_getD 0]
    exact slowest_le rates (by omega)

/-- What PWR_AVS_RATE shows of the slowest ring: rate and cluster. -/
def rateWord (m : Nat × Nat) : Nat := m.1 % 2048 + m.2 * 65536

/-- Every ring has counted its tokens of one more microsecond. -/
def Avs.measured (x : Avs) (rs : List Nat) : Avs :=
  { x with rings := (List.range 16).map (fun i => x.rings.getD i 0 + rs.getD i 0), us := x.us + 1 }

/-- The effect of RATE_MEASURE. -/
def State.rateMeasured (s : State) (rates : List Nat) : State :=
  (s.setNat Reg.PWR_AVS_RATE (rateWord (slowest (ringRates rates)))).withAvs (s.avs.measured (ringRates rates))

theorem rateMeasured_avs (rates : List Nat) : (s.rateMeasured rates).avs = s.avs.measured (ringRates rates) := by
  rw [State.rateMeasured, withAvs_avs]

theorem rateMeasured_reg_other (rates : List Nat) {a : Nat} (h : a ≠ Reg.PWR_AVS_RATE) :
    (s.rateMeasured rates).reg a = s.reg a := by
  rw [State.rateMeasured, withAvs_reg, reg_setNat_other _ _ _ _ h]

theorem rateMeasured_reg (rates : List Nat) : (s.rateMeasured rates).reg Reg.PWR_AVS_RATE =
    BitVec.ofNat 32 (rateWord (slowest (ringRates rates))) := by
  rw [State.rateMeasured, withAvs_reg, reg_setNat_same]

/-- The rate read back. -/
theorem fld_rateWord {m : Nat × Nat} (h : m.1 < 2048) : wfld (BitVec.ofNat 32 (rateWord m)) 10 0 = m.1 := by
  rw [wfld, BitVec.toNat_ofNat, rateWord, fld, Nat.shiftRight_zero]
  omega

/-- rate_mtok shows the slowest ring's rate. -/
theorem rateMeasured_rate {rates : List Nat} (h : (slowest (ringRates rates)).1 < 2048) :
    (s.rateMeasured rates).fld Reg.PWR_AVS_RATE 10 0 = (slowest (ringRates rates)).1 := by
  rw [State.fld, rateMeasured_reg]
  exact fld_rateWord h

/-- The measurement part of O15. -/
theorem rateMeasure_answers (rates : List Nat) (hup : s.mainUp = true) (hl : rates.length = 16) (hr : ∀ r ∈ rates, r < 2048) :
    Answers (exec (.rateMeasure rates) s) fun t =>
      t.fld Reg.PWR_AVS_RATE 10 0 ∈ rates ∧ (∀ r ∈ rates, t.fld Reg.PWR_AVS_RATE 10 0 ≤ r) ∧ t.avs.us = s.avs.us + 1 ∧
      t.avs.target = s.avs.target ∧
      s.Frame t { s with avs := t.avs, regs := t.regs, host := t.host } [Reg.PWR_AVS_RATE] := by
  have hx : exec (.rateMeasure rates) s = done (s.rateMeasured rates) := by
    rw [exec, execRateMeasure, if_pos hup, State.rateMeasured, State.withAvs, Avs.measured, rateWord]
    rfl
  obtain ⟨hmem, hle⟩ := slowest_ringRates hl
  have hrate : (s.rateMeasured rates).settle.fld Reg.PWR_AVS_RATE 10 0 = (slowest (ringRates rates)).1 := by
    rw [settle_fld _ (by decide), rateMeasured_rate s (hr _ hmem)]
  rw [hx]
  refine answers_done ⟨?_, ?_, ?_, ?_, ?_⟩
  · rwa [hrate]
  · rwa [hrate]
  · rw [settle_avs, rateMeasured_avs, Avs.measured]
  · rw [settle_avs, rateMeasured_avs, Avs.measured]
  · exact frame_settle_avs s (withAvs_frame s (setNat_frame s _ _) _) fun a h => rateMeasured_reg_other s rates (by simpa using h)

/-! ### AVS_UPDATE (R59 to R64) -/

theorem clampI_bounds {lo hi : Int} (h : lo ≤ hi) (v : Int) : lo ≤ clampI lo hi v ∧ clampI lo hi v ≤ hi := by
  unfold clampI
  split
  · exact ⟨Int.le_refl _, h⟩
  · split <;> omega

/-- A target held within 10 mV of the one before moves by at most 10 mV. -/
theorem clampI_toNat_step (p : Nat) (x : Int) :
    (clampI ((p : Int) - 10) (p + 10) x).toNat ≤ p + 10 ∧ p ≤ (clampI ((p : Int) - 10) (p + 10) x).toNat + 10 := by
  obtain ⟨hl, hh⟩ := clampI_bounds (lo := (p : Int) - 10) (hi := p + 10) (by omega) x
  omega

/-- A monitor enabled since the last update records the rate (R59). -/
def State.recordRate (s : State) (m : Nat) : State :=
  if s.bit (Reg.PWR_AVS_MON_CNT m) 31 && (s.monitor m).rAtEnable.isNone then
    s.setMonitor m { s.monitor m with rAtEnable := some s.rate } else s

theorem recordRate_frame (m : Nat) : s.recordRate m =
    s.withAvs { s.avs with monitors := (s.recordRate m).avs.monitors } := by
  unfold State.recordRate
  split <;> rfl

/-- Recording rates changes the monitors only. -/
theorem foldl_recordRate_frame (l : List Nat) : l.foldl State.recordRate s =
    s.withAvs { s.avs with monitors := (l.foldl State.recordRate s).avs.monitors } := by
  induction l generalizing s with
  | nil => rfl
  | cons m t ih =>
    rw [List.foldl_cons, ih]
    have h := recordRate_frame s m
    generalize s.recordRate m = u at h ⊢
    rw [h]
    rfl

theorem recordEnables_eq : s.recordEnables = (List.range 8).foldl State.recordRate s := by
  unfold State.recordEnables State.recordRate
  rfl

theorem recordEnables_frame : s.recordEnables = s.withAvs { s.avs with monitors := s.recordEnables.avs.monitors } := by
  rw [recordEnables_eq]
  exact foldl_recordRate_frame s _

theorem setNat_draw_frame (a v : Nat) : (s.setNat a v).draw =
    { s with freeCtr := (s.setNat a v).draw.freeCtr, regs := (s.setNat a v).draw.regs } := rfl

theorem setHeadroom_frame : s.setHeadroom =
    { s with freeCtr := s.setHeadroom.freeCtr, regs := s.setHeadroom.regs } := by
  unfold State.setHeadroom
  dsimp only
  split
  · rfl
  · split
    · exact setNat_draw_frame s _ _
    · exact setNat_frame s _ _

theorem setHeadroom_reg_other {a : Nat} (h : a ≠ Reg.PWR_AVS_HEADROOM) : s.setHeadroom.reg a = s.reg a := by
  unfold State.setHeadroom
  dsimp only
  split
  · rfl
  · split <;> exact reg_setNat_other s _ _ _ h

/-- PWR_AVS_STATUS shows whether the loop is held at its upper limit (R63). -/
def State.capShown (s : State) (cap : Bool) : State :=
  (if cap && !s.bit Reg.PWR_AVS_STATUS 1 then s.setBit Reg.PWR_AVS_STATUS 0 true else s).setBit Reg.PWR_AVS_STATUS 1 cap

theorem capShown_frame (cap : Bool) : s.capShown cap = { s with regs := (s.capShown cap).regs } := by
  unfold State.capShown
  split <;> rfl

theorem capShown_reg_other (cap : Bool) {a : Nat} (h : a ≠ Reg.PWR_AVS_STATUS) : (s.capShown cap).reg a = s.reg a := by
  unfold State.capShown
  rw [reg_setBit_other _ _ _ _ _ h]
  split
  · exact reg_setBit_other _ _ _ _ _ h
  · rfl

/-- What an update shows in registers, with the rates that it records: all of it but the new target. -/
def State.avsShown (s : State) (throttle cap : Bool) : State :=
  (((s.setBit Reg.PWR_AVS_STATUS 2 throttle).recordEnables).capShown cap).setHeadroom

theorem avsShown_frame (throttle cap : Bool) : s.avsShown throttle cap = { s with
    avs := { s.avs with monitors := (s.avsShown throttle cap).avs.monitors }
    freeCtr := (s.avsShown throttle cap).freeCtr, regs := (s.avsShown throttle cap).regs } := by
  unfold State.avsShown
  rw [setHeadroom_frame, capShown_frame, recordEnables_frame]
  rfl

theorem avsShown_reg_other (throttle cap : Bool) {a : Nat} (h : a ∉ [Reg.PWR_AVS_STATUS, Reg.PWR_AVS_HEADROOM]) :
    (s.avsShown throttle cap).reg a = s.reg a := by
  simp only [List.mem_cons, List.not_mem_nil, or_false, not_or] at h
  obtain ⟨hs, hh⟩ := h
  have he : (s.setBit Reg.PWR_AVS_STATUS 2 throttle).recordEnables.reg a = (s.setBit Reg.PWR_AVS_STATUS 2 throttle).reg a := by
    rw [recordEnables_frame]
    rfl
  rw [State.avsShown, setHeadroom_reg_other _ hh, capShown_reg_other _ _ hs, he, reg_setBit_other _ _ _ _ _ hs]

/-- The loop with a new target and the write under way. -/
def Avs.retarget (x : Avs) (v : Nat) (bus : Option (Nat × Nat)) : Avs := { x with target := v, bus := bus }

/-- An update shows what it found and moves the target to one within 10 mV (R59). -/
theorem avsUpdate_eq (hottest : Int) : ∃ throttle cap x bus, s.avsUpdate hottest =
    { s.avsShown throttle cap with
      avs := (s.avsShown throttle cap).avs.retarget
        (clampI ((s.avs.target : Int) - 10) (s.avs.target + 10) x).toNat bus } := by
  have ht : (s.setBit Reg.PWR_AVS_STATUS 2 (s.throttleNext hottest)).recordEnables.avs.target = s.avs.target := by
    rw [recordEnables_frame]
    rfl
  rw [← ht]
  exact ⟨_, _, _, _, rfl⟩

theorem avsUpdate_frame (hottest : Int) : s.avsUpdate hottest = { s with
    avs := (s.avsUpdate hottest).avs, freeCtr := (s.avsUpdate hottest).freeCtr, regs := (s.avsUpdate hottest).regs } := by
  obtain ⟨th, cap, x, bus, h⟩ := avsUpdate_eq s hottest
  rw [h, avsShown_frame]

theorem avsUpdate_reg_other (hottest : Int) {a : Nat} (h : a ∉ [Reg.PWR_AVS_STATUS, Reg.PWR_AVS_HEADROOM]) :
    (s.avsUpdate hottest).reg a = s.reg a := by
  obtain ⟨th, cap, x, bus, e⟩ := avsUpdate_eq s hottest
  rw [e]
  exact avsShown_reg_other s th cap h

theorem avsUpdate_target (hottest : Int) :
    (s.avsUpdate hottest).avs.target ≤ s.avs.target + 10 ∧ s.avs.target ≤ (s.avsUpdate hottest).avs.target + 10 := by
  obtain ⟨th, cap, x, bus, e⟩ := avsUpdate_eq s hottest
  rw [e]
  exact clampI_toNat_step s.avs.target x

/-- The update part of O15. -/
theorem avsUpdate_answers (hottest : Int) (hup : s.mainUp = true) (hd : s.domHeld 18 = false) :
    Answers (exec (.avsUpdate hottest) s) fun t =>
      t.avs.target ≤ s.avs.target + 10 ∧ s.avs.target ≤ t.avs.target + 10 ∧
      s.Frame t { s with avs := t.avs, freeCtr := t.freeCtr, regs := t.regs, host := t.host }
        [Reg.PWR_AVS_STATUS, Reg.PWR_AVS_HEADROOM] := by
  have hx : exec (.avsUpdate hottest) s = done (s.avsUpdate hottest) := by
    simp only [exec, execAvsUpdate, hup, hd, Bool.not_false, Bool.and_self, if_true]
  obtain ⟨hle, hge⟩ := avsUpdate_target s hottest
  have hf := avsUpdate_frame s hottest
  have hreg := fun a => avsUpdate_reg_other s hottest (a := a)
  rw [hx]
  generalize s.avsUpdate hottest = v at hle hge hf hreg ⊢
  refine answers_done ⟨?_, ?_, frame_settle s (by rw [hf]) (by rw [hf]) ?_ hreg⟩
  · rwa [settle_avs]
  · rwa [settle_avs]
  · rw [settle_avs, settle_freeCtr]
    exact settle_eq_of (u := { s with avs := v.avs, freeCtr := v.freeCtr }) (by rw [hf])

/-- While the loop's block is held in reset an update does nothing (R54). -/
theorem exec_avsUpdate_held (hottest : Int) (hd : s.domHeld 18 = true) : exec (.avsUpdate hottest) s = .next s.settle := by
  simp only [exec, execAvsUpdate, hd, Bool.not_true, Bool.and_false, Bool.false_eq_true, if_false]
  rfl

/-! ### AVSBUS_TRANSACTION_DONE (R66) -/

/-- An acknowledged write: its target is shown, and it ends. -/
def State.busAcked (s : State) (v : Nat) : State :=
  (s.setFld Reg.PWR_AVS_STATUS 25 16 v).withAvs { s.avs with bus := none }

/-- reg_err sets and loop_en clears. -/
def State.regErrShown (s : State) : State := (s.setBit Reg.PWR_AVS_STATUS 4 true).setBit Reg.PWR_AVS_CTRL 0 false

theorem regErrShown_frame : s.regErrShown = { s with regs := s.regErrShown.regs } := by
  rw [State.regErrShown, setBit_frame, setBit_frame s]

theorem regErrShown_err : s.regErrShown.bit Reg.PWR_AVS_STATUS 4 = true := by
  rw [State.regErrShown, bit_setBit_other _ _ _ _ _ _ (by decide), bit_setBit_reg _ _ _ _ _ (by omega), if_pos rfl]

theorem regErrShown_loop_en : s.regErrShown.bit Reg.PWR_AVS_CTRL 0 = false := by
  rw [State.regErrShown, bit_setBit_reg _ _ _ _ _ (by omega), if_pos rfl]

/-- A write given up: the error is shown, and no further write goes out. -/
def State.busFailed (s : State) : State := s.regErrShown.withAvs { s.avs with bus := none, blocked := true }

/-- The acknowledgement of O15. -/
theorem avsbusAcked_answers (v n : Nat) (hup : s.mainUp = true) (hd : s.domHeld 18 = false) (hb : s.avs.bus = some (v, n))
    (hv : v < 1024) : Answers (exec (.avsbusTransactionDone true) s) fun t =>
      t.avs = { s.avs with bus := none } ∧ t.fld Reg.PWR_AVS_STATUS 25 16 = v ∧
      s.Frame t { s with avs := t.avs, regs := t.regs, host := t.host } [Reg.PWR_AVS_STATUS] := by
  have hx : exec (.avsbusTransactionDone true) s = done (s.busAcked v) := by
    simp only [exec, execAvsbusTransactionDone, hup, hd, hb, Bool.not_false, Bool.and_self, if_true]
    rfl
  rw [hx]
  refine answers_done ⟨settle_avs _, ?_, frame_settle_avs s (withAvs_frame s (setFld_frame s _ _ _ _) _) fun a h => ?_⟩
  · rw [settle_fld _ (by decide), State.busAcked, fld_congr _ (withAvs_reg _ _ _),
      fld_setFld_reg _ _ _ _ _ (by omega) (by omega)]
    exact Nat.mod_eq_of_lt hv
  · rw [State.busAcked, withAvs_reg, reg_setFld_other _ _ _ _ _ _ (by simpa using h)]

/-- The fourth failure of O15. -/
theorem avsbusFailed_answers (v : Nat) (hup : s.mainUp = true) (hd : s.domHeld 18 = false) (hb : s.avs.bus = some (v, 3)) :
    Answers (exec (.avsbusTransactionDone false) s) fun t =>
      t.avs = { s.avs with bus := none, blocked := true } ∧ t.bit Reg.PWR_AVS_STATUS 4 = true ∧ t.bit Reg.PWR_AVS_CTRL 0 = false ∧
      s.Frame t { s with avs := t.avs, regs := t.regs, host := t.host } [Reg.PWR_AVS_STATUS, Reg.PWR_AVS_CTRL] := by
  have hx : exec (.avsbusTransactionDone false) s = done s.busFailed := by
    simp only [exec, execAvsbusTransactionDone, hup, hd, hb, Bool.not_false, Bool.and_self, Bool.false_eq_true, if_false,
      Nat.lt_irrefl]
    rfl
  rw [hx]
  refine answers_done ⟨settle_avs _, ?_, ?_, frame_settle_avs s (withAvs_frame s (regErrShown_frame s) _) fun a h => ?_⟩
  · rw [settle_bit _ (by decide), State.busFailed, bit_congr _ (withAvs_reg _ _ _), regErrShown_err]
  · rw [settle_bit _ (by decide), State.busFailed, bit_congr _ (withAvs_reg _ _ _), regErrShown_loop_en]
  · simp only [List.mem_cons, List.not_mem_nil, or_false, not_or] at h
    obtain ⟨hs, hc⟩ := h
    rw [State.busFailed, withAvs_reg, State.regErrShown, reg_setBit_other _ _ _ _ _ hc, reg_setBit_other _ _ _ _ _ hs]

/-! ### MONITOR_ENABLE (R70, R74) -/

/-- The effect of the enable of a monitor with a deadline: no open case, no W, and en is set. -/
def State.monitorOn (s : State) (m : Nat) (val : Word) : State :=
  (s.setReg (Reg.PWR_AVS_MON_CNT m) ((val &&& 0x8FFF0FFF#32) ||| 0x80000000#32)).setMonitor m {}

theorem monitor_setMonitor_same (m : Nat) (x : Monitor) : (s.setMonitor m x).monitor m = x := by
  simp only [State.monitor, State.setMonitor, smap_look_put_same]

theorem monitor_congr {t : State} (h : t.avs = s.avs) (m : Nat) : t.monitor m = s.monitor m := by
  unfold State.monitor
  rw [h]

theorem monitorOn_reg (m : Nat) (val : Word) (a : Nat) : (s.monitorOn m val).reg a =
    (s.setReg (Reg.PWR_AVS_MON_CNT m) ((val &&& 0x8FFF0FFF#32) ||| 0x80000000#32)).reg a := rfl

theorem monitorOn_reg_other (m : Nat) (val : Word) {a : Nat} (h : a ≠ Reg.PWR_AVS_MON_CNT m) :
    (s.monitorOn m val).reg a = s.reg a := by
  rw [monitorOn_reg, reg_setReg_other _ _ _ _ h]

theorem monitorOn_en (m : Nat) (val : Word) : (s.monitorOn m val).bit (Reg.PWR_AVS_MON_CNT m) 31 = true := by
  rw [State.bit, monitorOn_reg, reg_setReg_same, BitVec.getLsbD_or]
  simp

theorem monitorOn_frame (m : Nat) (val : Word) : s.monitorOn m val =
    { s with avs := (s.monitorOn m val).avs, regs := (s.monitorOn m val).regs } := rfl

/-- With a deadline the enable reports no error. -/
theorem monitorEnable_eq {m : Nat} (val : Word) (h : s.fld (Reg.PWR_AVS_MON_DL m) 19 0 ≠ 0) :
    s.monitorEnable m val = s.monitorOn m val := by
  have hf : (s.monitorOn m val).fld (Reg.PWR_AVS_MON_DL m) 19 0 = s.fld (Reg.PWR_AVS_MON_DL m) 19 0 :=
    fld_congr s (monitorOn_reg_other s m val (by simp only [Reg.PWR_AVS_MON_DL, Reg.PWR_AVS_MON_CNT]; omega)) 19 0
  unfold State.monitorEnable
  dsimp only
  rw [← State.monitorOn, hf, if_neg h]

/-- The enable of O15. -/
theorem monitorEnable_answers (m : Fin 8) (val : Word) (ha : s.hAnswers = true)
    (h : s.fld (Reg.PWR_AVS_MON_DL m) 19 0 ≠ 0) : Answers (exec (.monitorEnable m val) s) fun t =>
      t.monitor m = {} ∧ t.bit (Reg.PWR_AVS_MON_CNT m) 31 = true ∧
      s.Frame t { s with avs := t.avs, regs := t.regs, host := t.host } [Reg.PWR_AVS_MON_CNT m] := by
  have hne : ∀ i : Fin 8, Reg.PWR_AVS_MON_DL i ≠ Reg.PWR_STATUS ∧ Reg.PWR_AVS_MON_CNT i ≠ Reg.PWR_STATUS := by decide
  have hx : exec (.monitorEnable m val) s = done (s.activity.monitorOn m val) := by
    rw [exec, execMonitorEnable, State.hAccess, if_pos ha, monitorEnable_eq s.activity val (by rwa [fld_activity s (hne m).1])]
  have hf := monitorOn_frame s.activity m val
  have hp : s.PowerFrom (s.activity.monitorOn m val) := powerFrom_activity.congr rfl
  have hh : (s.activity.monitorOn m val).host = s.host := activity_host s
  rw [hx]
  refine answers_done ⟨?_, ?_, keeps_settle s hp rfl ?_ fun a hc hl => ?_, eventsFrom_settle s hh⟩
  · rw [monitor_congr _ (settle_avs _)]
    exact monitor_setMonitor_same _ _ _
  · rw [settle_bit _ (hne m).2, monitorOn_en]
  · rw [settle_avs]
    refine settle_eq_of (u := { s with avs := (s.activity.monitorOn m val).avs }) (hf.trans ?_)
    rw [hh, activity_frame s]
    rfl
  · rw [monitorOn_reg_other _ _ _ (by simpa using hc), activity_reg_of_notMem s hl]

/-- Settles O15: a part for each command, and for the update of a block that is held. -/
theorem adaptiveVoltageLoop : Obligations.AdaptiveVoltageLoop := by
  unfold Obligations.AdaptiveVoltageLoop
  exact ⟨rateMeasure_answers, avsUpdate_answers, exec_avsUpdate_held, avsbusAcked_answers, avsbusFailed_answers,
    monitorEnable_answers⟩

end Sys2Proof.Machine
end

section
/-! What the commands of memory and of the die links share: counts and bits of registers after a change, the registers that a
change leaves, and the frame of a command. -/

namespace Sys2Proof.Machine

variable (s : State)

/-! ### Bits and counts of a register after a change -/

@[simp] theorem bit_setBit_same {a n : Nat} (b : Bool) (hn : n < 32) : (s.setBit a n b).bit a n = b := by
  rw [bit_setBit_reg s a n n b hn, if_pos rfl]

theorem bit_setBit_ne {a n m : Nat} (b : Bool) (hn : n < 32) (h : m ≠ n) : (s.setBit a n b).bit a m = s.bit a m := by
  rw [bit_setBit_reg s a n m b hn, if_neg h]

theorem fld_whole (a : Nat) : s.fld a 31 0 = (s.reg a).toNat := by
  rw [State.fld, wfld, fld, Nat.shiftRight_zero]
  exact Nat.mod_eq_of_lt (s.reg a).isLt

/-- A count in a whole register stays at 0xFFFF_FFFF. -/
theorem incSat_toNat (a k : Nat) : ((s.incSat a k).reg a).toNat = min 0xFFFFFFFF ((s.reg a).toNat + k) := by
  rw [← fld_whole, ← fld_whole, State.incSat, State.incFld, fld_setFld_reg _ _ _ _ _ (by omega) (by omega), satAdd]
  split <;> omega

theorem reg_incSat_other {a b : Nat} (k : Nat) (h : b ≠ a) : (s.incSat a k).reg b = s.reg b := reg_incFld_other s a 31 0 k b h

/-- The first record of R138 or one more: valid is 1 if the recording leaves it. -/
theorem recordFirst_valid {a : Nat} {put : State → State} (hp : ∀ t : State, t.bit a 0 = true → (put t).bit a 0 = true) :
    (s.recordFirst a put).bit a 0 = true := by
  unfold State.recordFirst
  split
  · next h => rw [bit_setBit_ne s _ (by omega) (by omega), h]
  · exact hp _ (bit_setBit_same s _ (by omega))

/-- Bit 0 of a register that takes a number shows whether the number is odd. -/
theorem bit_setNat_zero (a v : Nat) : (s.setNat a v).bit a 0 = decide (v % 2 = 1) := by
  rw [State.bit, reg_setNat_same, BitVec.getLsbD_ofNat, Nat.testBit_zero]
  simp

/-- The lowest bit of a field at the bottom of a register is the register's. -/
theorem fld_mod_two {a n : Nat} (h : s.bit a 0 = true) : s.fld a n 0 % 2 = 1 := by
  have e : (s.fld a n 0).testBit 0 = true := by
    rw [State.fld, wfld, testBit_fld, BitVec.testBit_toNat, Nat.sub_zero, decide_eq_true (Nat.succ_pos n), Bool.true_and]
    exact h
  simpa using e

/-! ### The registers that a change leaves -/

variable {s} {t v : State} {l : List Nat}

theorem State.RegsBut.refl (s : State) (l : List Nat) : s.RegsBut s l := fun _ _ => rfl

/-- A change of the registers between is one of the listed ones. -/
theorem State.RegsBut.setReg (h : s.RegsBut t l) {a : Nat} (ha : a ∈ l) (w : Word) : s.RegsBut (t.setReg a w) l :=
  fun b hb => (reg_setReg_other t a b w fun e => hb (e ▸ ha)).trans (h b hb)

theorem State.RegsBut.setFld (h : s.RegsBut t l) {a : Nat} (ha : a ∈ l) (hi lo v : Nat) : s.RegsBut (t.setFld a hi lo v) l :=
  h.setReg ha _
theorem State.RegsBut.setBit (h : s.RegsBut t l) {a : Nat} (ha : a ∈ l) (n : Nat) (b : Bool) : s.RegsBut (t.setBit a n b) l :=
  h.setReg ha _
theorem State.RegsBut.setNat (h : s.RegsBut t l) {a : Nat} (ha : a ∈ l) (v : Nat) : s.RegsBut (t.setNat a v) l := h.setReg ha _
theorem State.RegsBut.incSat (h : s.RegsBut t l) {a : Nat} (ha : a ∈ l) (k : Nat) : s.RegsBut (t.incSat a k) l := h.setReg ha _

theorem State.RegsBut.setReg64 (h : s.RegsBut t l) {a : Nat} (ha : a ∈ l) (hb : a + 1 ∈ l) (v : Nat) :
    s.RegsBut (t.setReg64 a v) l :=
  (h.setNat ha _).setNat hb _

theorem State.RegsBut.trans (h : s.RegsBut t l) (h' : t.RegsBut v l) : s.RegsBut v l := fun a ha => (h' a ha).trans (h a ha)

theorem State.RegsBut.mono {c : List Nat} (h : s.RegsBut t l) (hc : l ⊆ c) : s.RegsBut t c := fun a ha => h a fun hl => ha (hc hl)

/-- What changes no register leaves the rest to what went before. -/
theorem State.RegsBut.congr (h : s.RegsBut t l) (e : v.regs = t.regs) : s.RegsBut v l := fun a ha => by
  rw [← h a ha, State.reg, State.reg, e]

theorem State.RegsBut.recordFirst (h : s.RegsBut t l) {a : Nat} (ha : a ∈ l) {put : State → State}
    (hp : ∀ t : State, s.RegsBut t l → s.RegsBut (put t) l) : s.RegsBut (t.recordFirst a put) l := by
  unfold State.recordFirst
  split
  · exact h.setBit ha _ _
  · exact hp _ (h.setBit ha _ _)

/-! ### The frame of a command -/

variable (s)

/-- The frame of a command that is no access: its effect `v` is `u` but for registers. -/
theorem frame_done {u : State} (hv : v = { u with regs := v.regs }) (hh : u.host = s.host) (hr : s.RegsBut v l) :
    s.Frame v.settle { u with regs := v.settle.regs, host := v.settle.host } l := by
  have hp : v.power = u.power := by rw [hv]
  have hvh : v.host = u.host := by rw [hv]
  refine frame_settle s hp (hvh.trans hh) (settle_eq_of ?_) hr
  rw [hp, hvh]
  exact hv

/-- The frame of a command whose effect changes memory's and the links' state, the safety monitor's and registers. -/
theorem frame_done_links {x : MemLinks} {y : Safety} (hv : v = { s with links := x, safety := y, regs := v.regs })
    (hr : s.RegsBut v l) : s.Frame v.settle { s with links := x, safety := y, regs := v.settle.regs, host := v.settle.host } l :=
  frame_done s (u := { s with links := x, safety := y }) hv rfl hr

/-- What follows a command leaves the registers where no request can be latched. -/
theorem settle_regs_of_latchRegs (h : s.latchRegs = []) : s.settle.regs = s.regs := by
  have ht : s.power.state ≠ .toHold := fun e => by simp [State.latchRegs, e] at h
  unfold State.settle
  dsimp only
  split
  · unfold State.activity
    split
    · rfl
    · contradiction
    · rfl
  · rfl

/-- The frame of a command whose effect `u` leaves the registers and the host link. -/
theorem frame_regsStay {u : State} (hr : u.regs = s.regs) (hh : u.host = s.host) :
    s.Frame u.settle { u with host := u.settle.host } [] := by
  refine ⟨⟨settle_frame u, fun h => settle_regs_of_latchRegs u h, .settle (.refl rfl), fun a ha => ?_⟩, eventsFrom_settle s hh⟩
  rw [settle_reg_of_notMem u (.refl rfl) ha, State.reg, State.reg, hr]

/-- The frame of a command that changes nothing of its own. -/
theorem onlyRegs_none : s.OnlyRegs s.settle [] := frame_done s (u := s) rfl rfl (.refl s [])

/-- The frame of an access to the H-die's listener whose effect follows the activity and changes registers only. -/
theorem onlyRegs_access (hv : v = { s.activity with regs := v.regs }) (hr : s.activity.RegsBut v l) :
    s.OnlyRegs v.settle l := by
  have hp : v.power = s.activity.power := by rw [hv]
  refine onlyRegs_settle s ?_ (powerFrom_activity.congr hp) fun a hc hl => (hr a hc).trans (activity_reg_of_notMem s hl)
  rw [hp]
  refine hv.trans ?_
  rw [activity_frame s]

theorem bit_activity {a : Nat} (h : a ≠ Reg.PWR_STATUS) (n : Nat) : s.activity.bit a n = s.bit a n :=
  bit_congr s (activity_reg s a (.inl h)) n

theorem hAccess_of_hAnswers (h : s.hAnswers = true) (f : State → State) : s.hAccess f = done (f s.activity) := by
  rw [State.hAccess, if_pos h]

theorem hWrite_of_takes {a : Nat} (h : s.takes a = true) (f : State → State) : s.hWrite a f = done (f s.activity) := by
  simp only [State.takes, Bool.and_eq_true, Bool.not_eq_true'] at h
  obtain ⟨ha, hh⟩ := h
  have hh' : s.activity.regHeld a = false := by
    rw [← hh]
    unfold State.regHeld State.domHeld
    rw [activity_align]
  rw [State.hWrite, hAccess_of_hAnswers s ha, hh', if_neg (by decide)]

end Sys2Proof.Machine
end

section
/-! The control of memory: LPDDR_TRAIN, MEM_CLR_ECC and MEM_CLR_SPILL (R205, R229). -/

namespace Sys2Proof.Machine

variable (s : State)

/-! ### The train command (R205) -/

theorem train_of_accepted (h : s.trainRefused = false) :
    s.train = (s.setFld Reg.MEM_LPDDR_STATUS 5 2 0).setBit Reg.MEM_LPDDR_STATUS 1 true := by
  rw [State.train, h, if_neg (by decide)]

theorem train_of_refused (h : s.trainRefused = true) : s.train = s.setBit Reg.MEM_LPDDR_STATUS 6 true := by
  rw [State.train, if_pos h]

theorem train_frame : s.train = { s with regs := s.train.regs } := by
  unfold State.train
  split <;> rfl

theorem train_regsBut : s.RegsBut s.train [Reg.MEM_LPDDR_STATUS] := by
  unfold State.train
  split
  · exact (State.RegsBut.refl s _).setBit (by simp) _ _
  · exact ((State.RegsBut.refl s _).setFld (by simp) _ _ _).setBit (by simp) _ _

/-- An activity decides nothing of whether training may start. -/
theorem trainRefused_activity : s.activity.trainRefused = s.trainRefused := by
  unfold State.trainRefused State.lpddrClocked
  rw [fld_activity s (by decide), fld_activity s (by decide), bit_activity s (by decide), bit_activity s (by decide)]

/-- The train part of O29. -/
theorem lpddrTrain_answers (ha : s.hAnswers = true) : Answers (exec .lpddrTrain s) fun u =>
    (s.trainRefused = false → u.bit Reg.MEM_LPDDR_STATUS 1 = true ∧ u.fld Reg.MEM_LPDDR_STATUS 5 2 = 0 ∧
      u.bit Reg.MEM_LPDDR_STATUS 6 = s.bit Reg.MEM_LPDDR_STATUS 6) ∧
    (s.trainRefused = true → u.bit Reg.MEM_LPDDR_STATUS 6 = true ∧ u.fld Reg.MEM_LPDDR_STATUS 5 0 = s.fld Reg.MEM_LPDDR_STATUS 5 0) ∧
    s.OnlyRegs u [Reg.MEM_LPDDR_STATUS] := by
  rw [exec, execLpddrTrain, hAccess_of_hAnswers s ha]
  refine answers_done ⟨fun h => ?_, fun h => ?_, onlyRegs_access s (train_frame _) (train_regsBut _)⟩
  · rw [settle_bit _ (by decide), settle_bit _ (by decide), settle_fld _ (by decide),
      train_of_accepted _ ((trainRefused_activity s).trans h)]
    refine ⟨bit_setBit_same _ _ (by omega), ?_, ?_⟩
    · rw [fld_setBit_reg_other _ _ _ _ _ _ (by omega) (by omega), fld_setFld_reg _ _ _ _ _ (by omega) (by omega),
        Nat.zero_mod]
    · rw [bit_setBit_ne _ _ (by omega) (by omega), bit_setFld_reg_other _ _ _ _ _ _ (by omega) (by omega) (by omega),
        bit_activity s (by decide)]
  · rw [settle_bit _ (by decide), settle_fld _ (by decide), train_of_refused _ ((trainRefused_activity s).trans h)]
    refine ⟨bit_setBit_same _ _ (by omega), ?_⟩
    rw [fld_setBit_reg_other _ _ _ _ _ _ (by omega) (by omega), fld_activity s (by decide)]

/-! ### The counters (R229) -/

/-- The ECC part of O29. -/
theorem memClrEcc_answers (ha : s.hAnswers = true) : Answers (exec .memClrEcc s) fun u =>
    u.reg Reg.MEM_ECC_CE_CNT = 0#32 ∧ u.reg Reg.MEM_ECC_UE_CNT = 0#32 ∧
    s.OnlyRegs u [Reg.MEM_ECC_CE_CNT, Reg.MEM_ECC_UE_CNT] := by
  rw [exec, execMemClrEcc, hAccess_of_hAnswers s ha]
  refine answers_done ⟨?_, ?_, onlyRegs_access s rfl (((State.RegsBut.refl _ _).setNat (by simp) _).setNat (by simp) _)⟩
  · rw [settle_reg_of_ne _ _ (by decide), State.clrEcc, reg_setNat_other _ _ _ _ (by decide), reg_setNat_same]
  · rw [settle_reg_of_ne _ _ (by decide), State.clrEcc, reg_setNat_same]

theorem reg64_congr {t : State} {a : Nat} (h : t.reg a = s.reg a) (h' : t.reg (a + 1) = s.reg (a + 1)) : t.reg64 a = s.reg64 a := by
  rw [State.reg64, h, h', State.reg64]

theorem settle_reg64 {a : Nat} (h : a ≠ Reg.PWR_STATUS) (h' : a + 1 ≠ Reg.PWR_STATUS) : s.settle.reg64 a = s.reg64 a :=
  reg64_congr s (settle_reg_of_ne s a h) (settle_reg_of_ne s (a + 1) h')

theorem reg_setReg64_other {a b : Nat} (v : Nat) (h : b ≠ a) (h' : b ≠ a + 1) : (s.setReg64 a v).reg b = s.reg b := by
  rw [State.setReg64, reg_setNat_other _ _ _ _ h', reg_setNat_other _ _ _ _ h]

/-- The weight-load part of O29. -/
theorem memClrSpill_answers (ha : s.hAnswers = true) : Answers (exec .memClrSpill s) fun u =>
    u.reg64 Reg.MEM_WLD_ONCHIP_LO = 0 ∧ u.reg64 Reg.MEM_WLD_SPILL_LO = 0 ∧
    s.OnlyRegs u [Reg.MEM_WLD_ONCHIP_LO, Reg.MEM_WLD_ONCHIP_HI, Reg.MEM_WLD_SPILL_LO, Reg.MEM_WLD_SPILL_HI] := by
  rw [exec, execMemClrSpill, hAccess_of_hAnswers s ha]
  refine answers_done ⟨?_, ?_, onlyRegs_access s rfl
    (((State.RegsBut.refl _ _).setReg64 (by simp) (by simp) _).setReg64 (by simp) (by simp) _)⟩
  · rw [settle_reg64 _ (by decide) (by decide), State.clrSpill,
      reg64_congr _ (reg_setReg64_other _ _ (by decide) (by decide)) (reg_setReg64_other _ _ (by decide) (by decide)),
      reg64_setReg64, Nat.zero_mod]
  · rw [settle_reg64 _ (by decide) (by decide), State.clrSpill, reg64_setReg64, Nat.zero_mod]

/-- Settles O29: a part for each command. -/
theorem memoryControl : Obligations.MemoryControl := by
  unfold Obligations.MemoryControl
  exact ⟨lpddrTrain_answers, memClrEcc_answers, memClrSpill_answers⟩

end Sys2Proof.Machine
end

section
/-! DRAM: the end of training and the temperature reports (R203, R205, R225). -/

namespace Sys2Proof.Machine

variable (s : State)

/-! ### LPDDR_TRAIN_DONE (R205) -/

/-- The end of training: ready, or the bits of the channels that failed. -/
def State.trainEnded (s : State) (fail : BitVec 4) : State :=
  if fail = 0#4 then (s.setBit Reg.MEM_LPDDR_STATUS 1 false).setBit Reg.MEM_LPDDR_STATUS 0 true
  else (s.setBit Reg.MEM_LPDDR_STATUS 1 false).setFld Reg.MEM_LPDDR_STATUS 5 2 fail.toNat

theorem trainEnded_frame (fail : BitVec 4) : s.trainEnded fail = { s with regs := (s.trainEnded fail).regs } := by
  unfold State.trainEnded
  split <;> rfl

theorem trainEnded_regsBut (fail : BitVec 4) : s.RegsBut (s.trainEnded fail) [Reg.MEM_LPDDR_STATUS] := by
  have h := (State.RegsBut.refl s [Reg.MEM_LPDDR_STATUS]).setBit (List.mem_singleton.mpr rfl) 1 false
  unfold State.trainEnded
  split
  · exact h.setBit (List.mem_singleton.mpr rfl) _ _
  · exact h.setFld (List.mem_singleton.mpr rfl) _ _ _

theorem exec_lpddrTrainDone (fail : BitVec 4) (hup : s.mainUp = true) (ht : s.bit Reg.MEM_LPDDR_STATUS 1 = true)
    (hr : s.power.resuming = false) : exec (.lpddrTrainDone fail) s = done (s.trainEnded fail) := by
  have hp : (s.trainEnded fail).power.resuming = false := by rw [trainEnded_frame, ← hr]
  rw [exec, execLpddrTrainDone, hup, ht, if_pos (Bool.and_self true)]
  dsimp only
  rw [← State.trainEnded, hp, if_neg (by decide)]

/-- The training part of O30. -/
theorem lpddrTrainDone_answers (fail : BitVec 4) (hup : s.mainUp = true) (ht : s.bit Reg.MEM_LPDDR_STATUS 1 = true)
    (hr : s.power.resuming = false) : Answers (exec (.lpddrTrainDone fail) s) fun u =>
      u.bit Reg.MEM_LPDDR_STATUS 1 = false ∧ (fail = 0#4 → u.bit Reg.MEM_LPDDR_STATUS 0 = true) ∧
      (fail ≠ 0#4 → u.fld Reg.MEM_LPDDR_STATUS 5 2 = fail.toNat ∧ u.bit Reg.MEM_LPDDR_STATUS 0 = s.bit Reg.MEM_LPDDR_STATUS 0) ∧
      s.OnlyRegs u [Reg.MEM_LPDDR_STATUS] := by
  rw [exec_lpddrTrainDone s fail hup ht hr]
  refine answers_done ⟨?_, fun h => ?_, fun h => ⟨?_, ?_⟩,
    frame_done s (u := s) (trainEnded_frame s fail) rfl (trainEnded_regsBut s fail)⟩
  · rw [settle_bit _ (by decide), State.trainEnded]
    split
    · rw [bit_setBit_ne _ _ (by omega) (by omega), bit_setBit_same _ _ (by omega)]
    · rw [bit_setFld_reg_other _ _ _ _ _ _ (by omega) (by omega) (by omega), bit_setBit_same _ _ (by omega)]
  · rw [settle_bit _ (by decide), State.trainEnded, if_pos h, bit_setBit_same _ _ (by omega)]
  · rw [settle_fld _ (by decide), State.trainEnded, if_neg h, fld_setFld_reg _ _ _ _ _ (by omega) (by omega)]
    exact Nat.mod_eq_of_lt fail.isLt
  · rw [settle_bit _ (by decide), State.trainEnded, if_neg h, bit_setFld_reg_other _ _ _ _ _ _ (by omega) (by omega) (by omega),
      bit_setBit_ne _ _ (by omega) (by omega)]

/-! ### DRAM_TEMP_REPORT (R203, R225) -/

/-- A temperature report sets the refresh rate, and hot when told so. -/
def State.tempShown (s : State) (mult : Fin 3) (hot : Bool) : State :=
  if hot then (s.setFld Reg.MEM_LPDDR_STATUS 9 8 mult.val).setBit Reg.MEM_LPDDR_STATUS 10 true
  else s.setFld Reg.MEM_LPDDR_STATUS 9 8 mult.val

theorem tempShown_frame (mult : Fin 3) (hot : Bool) : s.tempShown mult hot = { s with regs := (s.tempShown mult hot).regs } := by
  unfold State.tempShown
  split
  · exact setBit_frame _ _ _ _
  · rfl

theorem tempShown_regsBut (mult : Fin 3) (hot : Bool) : s.RegsBut (s.tempShown mult hot) [Reg.MEM_LPDDR_STATUS] := by
  have h := (State.RegsBut.refl s [Reg.MEM_LPDDR_STATUS]).setFld (List.mem_singleton.mpr rfl) 9 8 mult.val
  unfold State.tempShown
  split
  · exact h.setBit (List.mem_singleton.mpr rfl) _ _
  · exact h

/-- Below hot the report is the refresh rate's field. -/
theorem tempShown_fld (mult : Fin 3) (hot : Bool) {hi lo : Nat} (h : hi < 10) :
    (s.tempShown mult hot).fld Reg.MEM_LPDDR_STATUS hi lo =
      (s.setFld Reg.MEM_LPDDR_STATUS 9 8 mult.val).fld Reg.MEM_LPDDR_STATUS hi lo := by
  unfold State.tempShown
  split
  · exact fld_setBit_reg_other _ _ _ _ _ _ (by omega) (.inr h)
  · rfl

theorem tempShown_hot (mult : Fin 3) (hot : Bool) :
    (s.tempShown mult hot).bit Reg.MEM_LPDDR_STATUS 10 = (hot || s.bit Reg.MEM_LPDDR_STATUS 10) := by
  unfold State.tempShown
  cases hot
  · exact bit_setFld_reg_other _ _ _ _ _ _ (by omega) (by omega) (by omega)
  · exact bit_setBit_same _ _ (by omega)

/-- The temperature part of O30. -/
theorem dramTempReport_answers (mult : Fin 3) (hot : Bool) (hup : s.mainUp = true) (hr : s.bit Reg.MEM_LPDDR_STATUS 0 = true) :
    Answers (exec (.dramTempReport mult hot) s) fun u =>
      u.fld Reg.MEM_LPDDR_STATUS 9 8 = mult.val ∧ u.bit Reg.MEM_LPDDR_STATUS 10 = (hot || s.bit Reg.MEM_LPDDR_STATUS 10) ∧
      u.fld Reg.MEM_LPDDR_STATUS 7 0 = s.fld Reg.MEM_LPDDR_STATUS 7 0 ∧ s.OnlyRegs u [Reg.MEM_LPDDR_STATUS] := by
  have hx : exec (.dramTempReport mult hot) s = done (s.tempShown mult hot) := by
    simp only [exec, execDramTempReport, hup, hr, Bool.and_self, if_true, State.tempShown]
  rw [hx]
  refine answers_done ⟨?_, ?_, ?_, frame_done s (u := s) (tempShown_frame s mult hot) rfl (tempShown_regsBut s mult hot)⟩
  · rw [settle_fld _ (by decide), tempShown_fld _ _ _ (by omega), fld_setFld_reg _ _ _ _ _ (by omega) (by omega)]
    exact Nat.mod_eq_of_lt (by omega)
  · rw [settle_bit _ (by decide), tempShown_hot]
  · rw [settle_fld _ (by decide), tempShown_fld _ _ _ (by omega), fld_setFld_reg_other _ _ _ _ _ _ _ (by omega) (by omega) (by omega)]

end Sys2Proof.Machine
end

section
/-! Flawed words of the SRAM arrays: what plants them, and the record of what a read finds (R211 to R214). -/

namespace Sys2Proof.Machine

variable (s : State)

/-! ### The record of an error (R214, R226) -/

theorem eccShow_valid (arr : SramArray) (word : Nat) (ue scrub : Bool) (h : s.bit Reg.MEM_ECC_STATUS 0 = true) :
    (s.eccShow arr word ue scrub).bit Reg.MEM_ECC_STATUS 0 = true := by
  have hf := fld_mod_two s (n := 1) h
  unfold State.eccShow
  dsimp only
  rw [bit_congr _ (reg_setNat_other _ _ _ _ (by decide)), bit_setNat_zero, decide_eq_true_iff]
  split <;> omega

theorem eccRecord_valid (arr : SramArray) (word : Nat) (ue scrub : Bool) :
    (s.eccRecord arr word ue scrub).bit Reg.MEM_ECC_STATUS 0 = true := by
  unfold State.eccRecord
  dsimp only
  split
  · exact eccShow_valid _ _ _ _ _ (bit_setBit_same _ _ (by omega))
  · next h =>
    have hv : (s.setBit Reg.MEM_ECC_STATUS 1 true).bit Reg.MEM_ECC_STATUS 0 = true := by
      rw [bit_setBit_ne _ _ (by omega) (by omega)]
      simpa using h
    split
    · exact eccShow_valid _ _ _ _ _ hv
    · exact hv

theorem eccRecord_frame (arr : SramArray) (word : Nat) (ue scrub : Bool) :
    s.eccRecord arr word ue scrub = { s with regs := (s.eccRecord arr word ue scrub).regs } := by
  unfold State.eccRecord
  dsimp only
  split
  · rfl
  · split <;> rfl

theorem State.RegsBut.eccRecord {s t : State} {l : List Nat} (h : s.RegsBut t l) (hs : Reg.MEM_ECC_STATUS ∈ l)
    (hl : Reg.MEM_ECC_LOC ∈ l) (arr : SramArray) (word : Nat) (ue scrub : Bool) :
    s.RegsBut (t.eccRecord arr word ue scrub) l := by
  unfold State.eccRecord
  dsimp only
  split
  · exact ((h.setBit hs _ _).setNat hs _).setNat hl _
  · split
    · exact ((h.setBit hs _ _).setNat hs _).setNat hl _
    · exact h.setBit hs _ _

theorem eccRecord_reg_other (arr : SramArray) (word : Nat) (ue scrub : Bool) {a : Nat}
    (h : a ∉ [Reg.MEM_ECC_STATUS, Reg.MEM_ECC_LOC]) : (s.eccRecord arr word ue scrub).reg a = s.reg a :=
  (State.RegsBut.refl s _).eccRecord (by simp) (by simp) arr word ue scrub a h

/-! ### What a read finds (R212, R213) -/

/-- A corrected word that awaits no write-back yet is counted, recorded and queued (R212). -/
theorem eccFound_corrected {e : EccError} (hf : e.flaw = .one) (hw : s.links.writebacks.contains e = false) (scrub : Bool) :
    s.eccFound e scrub = { (s.eccRecord e.arr e.word false scrub).incSat Reg.MEM_ECC_CE_CNT 1 with
      links := { s.links with writebacks := s.links.writebacks ++ [e] } } := by
  have hu : e.uncorrectable = false := by rw [EccError.uncorrectable, hf]; rfl
  have hl : ((s.eccRecord e.arr e.word false scrub).incSat Reg.MEM_ECC_CE_CNT 1).links = s.links := by
    rw [incSat_links, eccRecord_frame]
  unfold State.eccFound
  rw [hu, if_neg (by decide)]
  dsimp only
  rw [hl, hw, if_neg (by decide)]

/-- A word that cannot be corrected: recorded, counted and presented (R213). -/
def State.ueFound (s : State) (arr : SramArray) (word : Nat) (scrub : Bool) : State :=
  ((s.eccRecord arr word true scrub).incSat Reg.MEM_ECC_UE_CNT 1).raise { src := 0x01, unit := arrayUnit arr }

theorem eccFound_uncorrectable {e : EccError} (hf : e.flaw ≠ .one) (scrub : Bool) :
    s.eccFound e scrub = s.ueFound e.arr e.word scrub := by
  have hu : e.uncorrectable = true := by simpa [EccError.uncorrectable] using hf
  rw [State.eccFound, if_pos hu, State.ueFound]

theorem ueFound_frame (arr : SramArray) (word : Nat) (scrub : Bool) : s.ueFound arr word scrub = { s with
    safety := { s.safety with inbox := s.safety.inbox ++ [{ src := 0x01, unit := arrayUnit arr }] }
    regs := (s.ueFound arr word scrub).regs } := by
  unfold State.ueFound
  rw [eccRecord_frame]
  rfl

theorem ueFound_regsBut (arr : SramArray) (word : Nat) (scrub : Bool) :
    s.RegsBut (s.ueFound arr word scrub) [Reg.MEM_ECC_UE_CNT, Reg.MEM_ECC_STATUS, Reg.MEM_ECC_LOC] :=
  (((State.RegsBut.refl s _).eccRecord (by simp) (by simp) arr word true scrub).incSat (by simp) 1).congr rfl

theorem ueFound_valid (arr : SramArray) (word : Nat) (scrub : Bool) :
    (s.ueFound arr word scrub).bit Reg.MEM_ECC_STATUS 0 = true :=
  (bit_congr _ (reg_incSat_other _ _ (by decide)) 0).trans (eccRecord_valid s arr word true scrub)

theorem ueFound_count (arr : SramArray) (word : Nat) (scrub : Bool) : ((s.ueFound arr word scrub).reg Reg.MEM_ECC_UE_CNT).toNat =
    min 0xFFFFFFFF ((s.reg Reg.MEM_ECC_UE_CNT).toNat + 1) := by
  rw [← eccRecord_reg_other s arr word true scrub (a := Reg.MEM_ECC_UE_CNT) (by decide)]
  exact incSat_toNat _ _ _

/-- Where the arrays hold one flawed word, a read of its span finds it, and keeps no trace of a read of the wrong word. -/
theorem eccReadSpans_one {e : EccError} {p : SramArray × Nat × Nat} (he : s.links.errors = [e]) (hw : e.within p = true)
    (scrub : Bool) : s.eccReadSpans [p] scrub = { s.eccFound e scrub with
      links := { (s.eccFound e scrub).links with
        errors := (s.eccFound e scrub).links.errors.filter fun x => x.flaw != .stray } } := by
  have h : s.eccIn [p] = [e] := by simp [State.eccIn, he, hw, eccEnter]
  rw [State.eccReadSpans, h, List.foldl_cons, List.foldl_nil]

/-- Where the arrays hold no flawed word, a read finds nothing. -/
theorem eccReadSpans_none (he : s.links.errors = []) (ps : List (SramArray × Nat × Nat)) (scrub : Bool) :
    s.eccReadSpans ps scrub = s := by
  have h : s.eccIn ps = [] := by simp [State.eccIn, he]
  rw [State.eccReadSpans, h, List.foldl_nil, he, List.filter_nil, ← he]

/-! ### Flaws of an array's own (R211) -/

theorem flipBit_frame (a p : Nat) : s.flipBit a p = { s with mem := (s.flipBit a p).mem } := by
  unfold State.flipBit
  split <;> rfl

/-- A flipped bit lies in its word, or among its check bits. -/
theorem flipBit_byte_other {a b : Nat} (p : Nat) (h : b < a ∨ a + 8 ≤ b) : (s.flipBit a p).byte b = s.byte b := by
  unfold State.flipBit
  split
  · rw [byte_putByte, if_neg (by omega)]
  · rfl

theorem flipTwo_frame (a : Nat) : s.flipTwo a = { s with mem := (s.flipTwo a).mem, freeCtr := (s.flipTwo a).freeCtr } := by
  unfold State.flipTwo
  dsimp only
  rw [flipBit_frame, flipBit_frame (s.draw 2)]
  rfl

theorem flipTwo_byte_other {a b : Nat} (h : b < a ∨ a + 8 ≤ b) : (s.flipTwo a).byte b = s.byte b := by
  unfold State.flipTwo
  dsimp only
  rw [flipBit_byte_other _ _ h, flipBit_byte_other _ _ h]
  rfl

theorem flipWeight_frame (e word : Nat) : s.flipWeight e word =
    { s with engines := (s.flipWeight e word).engines, freeCtr := (s.flipWeight e word).freeCtr } := by
  unfold State.flipWeight
  dsimp only
  split
  · split <;> rfl
  · rfl

/-- The state with one more flawed word. -/
def State.flawed (s : State) (e : EccError) : State := { s with links := { s.links with errors := s.links.errors ++ [e] } }

theorem plantFlaw_frame (arr : SramArray) (word : Nat) (flaw : Flaw) : s.plantFlaw arr word flaw =
    { s.flawed ⟨arr, word, flaw⟩ with
      mem := (s.plantFlaw arr word flaw).mem, freeCtr := (s.plantFlaw arr word flaw).freeCtr } := by
  unfold State.plantFlaw
  dsimp only
  split
  · exact flipTwo_frame _ _
  · rfl

/-- Only bytes of the word itself are corrupted. -/
theorem plantFlaw_byte_other {arr : SramArray} {word : Nat} (flaw : Flaw) {b : Nat}
    (h : ∀ a, s.wordAddr arr word = some a → b < a ∨ a + 8 ≤ b) : (s.plantFlaw arr word flaw).byte b = s.byte b := by
  unfold State.plantFlaw
  dsimp only
  split
  · next a ha => exact flipTwo_byte_other _ (h a ha)
  · rfl

theorem plantArray_engines (arr : SramArray) (word : Nat) (flaw : Flaw) : s.plantArray arr word flaw =
    { s.plantFlaw arr word flaw with
      engines := (s.plantArray arr word flaw).engines, freeCtr := (s.plantArray arr word flaw).freeCtr } := by
  unfold State.plantArray
  dsimp only
  split
  · split
    · exact flipWeight_frame _ _ _
    · split <;> rfl
  · rfl

theorem plantArray_frame (arr : SramArray) (word : Nat) (flaw : Flaw) : s.plantArray arr word flaw =
    { s.flawed ⟨arr, word, flaw⟩ with
      mem := (s.plantArray arr word flaw).mem, engines := (s.plantArray arr word flaw).engines
      freeCtr := (s.plantArray arr word flaw).freeCtr } := by
  rw [plantArray_engines]
  dsimp only
  rw [plantFlaw_frame]

theorem plantArray_byte_other {arr : SramArray} {word : Nat} (flaw : Flaw) {b : Nat}
    (h : ∀ a, s.wordAddr arr word = some a → b < a ∨ a + 8 ≤ b) : (s.plantArray arr word flaw).byte b = s.byte b := by
  rw [plantArray_engines]
  exact plantFlaw_byte_other s flaw h

/-- What is no two flipped bits corrupts nothing that the arrays hold. -/
theorem plantArray_of_ne_two (arr : SramArray) (word : Nat) {flaw : Flaw} (h : flaw ≠ .two) :
    s.plantArray arr word flaw = s.flawed ⟨arr, word, flaw⟩ := by
  cases flaw with
  | one => rfl
  | two => exact absurd rfl h
  | stray => rfl

end Sys2Proof.Machine
end

section
/-! The scrub and the write-back of corrected words (R212 to R215). -/

namespace Sys2Proof.Machine

variable (s : State)

/-! ### SCRUB_PASS_START (R215) -/

/-- lag is set where the last pass has not ended. -/
def State.lagShown (s : State) : State := if s.links.scrub.isSome then s.setBit Reg.MEM_SCRUB_CFG 16 true else s

theorem lagShown_frame : s.lagShown = { s with regs := s.lagShown.regs } := by
  unfold State.lagShown
  split
  · exact setBit_frame _ _ _ _
  · rfl

theorem lagShown_regsBut : s.RegsBut s.lagShown [Reg.MEM_SCRUB_CFG] := by
  unfold State.lagShown
  split
  · exact (State.RegsBut.refl s _).setBit (List.mem_singleton.mpr rfl) _ _
  · exact .refl s _

theorem lagShown_lag : s.lagShown.bit Reg.MEM_SCRUB_CFG 16 = (s.bit Reg.MEM_SCRUB_CFG 16 || s.links.scrub.isSome) := by
  unfold State.lagShown
  split
  · next h => rw [bit_setBit_same _ _ (by omega), h, Bool.or_true]
  · next h => rw [eq_false_of_ne_true h, Bool.or_false]

/-- The part of O30 for the start of a pass. -/
theorem scrubPassStart_answers (hup : s.mainUp = true) (hc : s.bit Reg.MEM_SCRUB_CFG 15 = true) :
    Answers (exec .scrubPassStart s) fun u =>
      u.bit Reg.MEM_SCRUB_CFG 16 = (s.bit Reg.MEM_SCRUB_CFG 16 || s.links.scrub.isSome) ∧
      s.Frame u { s with
        links := { s.links with scrub := some 2658304, scrubPos := if s.links.scrub = none then 0 else s.links.scrubPos }
        regs := u.regs, host := u.host } [Reg.MEM_SCRUB_CFG] := by
  have hx : exec .scrubPassStart s = done { s.lagShown with
      links := { s.links with scrub := some 2658304, scrubPos := if s.links.scrub = none then 0 else s.links.scrubPos } } := by
    rw [exec, execScrubPassStart, hup, hc, if_pos (Bool.and_self true)]
    dsimp only
    rw [← State.lagShown, lagShown_frame]
    cases s.links.scrub <;> rfl
  rw [hx]
  refine answers_done ⟨?_, ?_⟩
  · rw [settle_bit _ (by decide), ← lagShown_lag]
    rfl
  · exact frame_done_links s (by rw [lagShown_frame]) ((lagShown_regsBut s).congr rfl)

/-! ### SCRUB_READ (R215) -/

/-- The state after a read has met what it meets: flaws of the array's own, then what its check bits say. -/
def State.scrubMeets (s : State) (p : SramArray × Nat) (flips : List (Nat × Flaw)) : State :=
  (flips.foldl (fun s f => s.plantArray p.1 (p.2 * 8 + f.1 % 8) f.2) s).eccReadSpans [(p.1, p.2 * 8, p.2 * 8 + 8)] true

/-- The pass goes on by 64 bytes with `n` reads to go; the last one counts the pass. -/
def State.scrubGoesOn (s : State) (n : Nat) : State :=
  let t := { s with links := { s.links with
    scrub := if n = 0 then none else some n, scrubPos := (s.links.scrubPos + 1) % 2658304 } }
  if n = 0 then t.setFld Reg.MEM_SCRUB_CFG 31 24 (s.fld Reg.MEM_SCRUB_CFG 31 24 + 1) else t

/-- A read that is not the pass's last. -/
theorem scrubGoesOn_succ (n : Nat) : s.scrubGoesOn (n + 1) = { s with links := { s.links with
    scrub := some (n + 1), scrubPos := (s.links.scrubPos + 1) % 2658304 } } := rfl

theorem scrubsAt_of {p : SramArray × Nat} (hup : s.mainUp = true) (hh : s.power.state ≠ .hold)
    (hc : s.bit Reg.MEM_SCRUB_CFG 15 = true) (hp : p = scrubPlace s.links.scrubPos) : s.scrubsAt p = true := by
  simp only [State.scrubsAt, hup, hc, hp, bne_iff_ne.mpr hh, beq_self_eq_true, Bool.and_self]

/-- A read where the scrub stands. -/
theorem exec_scrubRead {p : SramArray × Nat} {n : Nat} (flips : List (Nat × Flaw)) (ha : s.scrubsAt p = true)
    (hs : s.links.scrub = some (n + 1)) (hk : (s.scrubMeets p flips).links.scrubPos = s.links.scrubPos) :
    exec (.scrubRead p.1 p.2 flips) s = done ((s.scrubMeets p flips).scrubGoesOn n) := by
  rw [exec, execScrubRead]
  simp only [ha, hs]
  rw [← State.scrubMeets, ← hk]
  rfl

/-- A read of another place, or with no pass under way. -/
theorem scrubRead_elsewhere_answers (p : SramArray × Nat) (flips : List (Nat × Flaw))
    (h : p ≠ scrubPlace s.links.scrubPos ∨ s.links.scrub = none) :
    Answers (exec (.scrubRead p.1 p.2 flips) s) fun u => s.OnlyRegs u [] := by
  have hx : exec (.scrubRead p.1 p.2 flips) s = done s := by
    rw [exec, execScrubRead]
    dsimp only
    split
    · next n ha hs =>
      rcases h with h | h
      · simp only [State.scrubsAt, Bool.and_eq_true, beq_iff_eq] at ha
        exact absurd ha.2.symm h
      · rw [h] at hs
        cases hs
    · rfl
  rw [hx]
  exact answers_done (onlyRegs_none s)

/-- A read that finds nothing. -/
theorem scrubMeets_nil (he : s.links.errors = []) (p : SramArray × Nat) : s.scrubMeets p [] = s :=
  eccReadSpans_none s he _ _

/-- The part of O30 for a read that meets nothing. -/
theorem scrubRead_clean_answers (p : SramArray × Nat) (n : Nat) (hup : s.mainUp = true) (hh : s.power.state ≠ .hold)
    (hc : s.bit Reg.MEM_SCRUB_CFG 15 = true) (hs : s.links.scrub = some (n + 1)) (he : s.links.errors = [])
    (hp : p = scrubPlace s.links.scrubPos) : Answers (exec (.scrubRead p.1 p.2 []) s) fun u =>
      u.fld Reg.MEM_SCRUB_CFG 31 24 =
        (if n = 0 then (s.fld Reg.MEM_SCRUB_CFG 31 24 + 1) % 256 else s.fld Reg.MEM_SCRUB_CFG 31 24) ∧
      s.Frame u { s with
        links := { s.links with scrub := if n = 0 then none else some n, scrubPos := (s.links.scrubPos + 1) % 2658304 }
        regs := u.regs, host := u.host } [Reg.MEM_SCRUB_CFG] := by
  have hm := scrubMeets_nil s he p
  rw [exec_scrubRead s [] (scrubsAt_of s hup hh hc hp) hs (by rw [hm]), hm]
  refine answers_done ⟨?_, frame_done_links s ?_ ?_⟩
  · rw [settle_fld _ (by decide), State.scrubGoesOn]
    split
    · exact fld_setFld_reg _ _ _ _ _ (by omega) (by omega)
    · rfl
  · unfold State.scrubGoesOn
    dsimp only
    split <;> rfl
  · unfold State.scrubGoesOn
    dsimp only
    split
    · exact ((State.RegsBut.refl s _).congr rfl).setFld (List.mem_singleton.mpr rfl) _ _ _
    · exact (State.RegsBut.refl s _).congr rfl

/-- A read that meets one flawed word of the arrays. -/
theorem scrubMeets_one (he : s.links.errors = []) (p : SramArray × Nat) (w : Fin 8) (flaw : Flaw) {e : EccError} {t : State}
    (hee : e = ⟨p.1, p.2 * 8 + w.val, flaw⟩) (ht : t = (s.plantArray p.1 (p.2 * 8 + w.val) flaw).eccFound e true) :
    s.scrubMeets p [(w.val, flaw)] =
      { t with links := { t.links with errors := t.links.errors.filter fun x => x.flaw != .stray } } := by
  have hl : (s.plantArray p.1 (p.2 * 8 + w.val) flaw).links.errors = [e] := by
    rw [plantArray_frame, hee]
    simp only [State.flawed, he, List.nil_append]
  have hw : e.within (p.1, p.2 * 8, p.2 * 8 + 8) = true := by
    rw [hee]
    simp [EccError.within]
  rw [State.scrubMeets, List.foldl_cons, List.foldl_nil, Nat.mod_eq_of_lt w.isLt, eccReadSpans_one _ hl hw, ht]

/-- The part of O30 for a read that meets one flipped bit. -/
theorem scrubRead_corrected_answers (p : SramArray × Nat) (n : Nat) (w : Fin 8) (hup : s.mainUp = true)
    (hh : s.power.state ≠ .hold) (hc : s.bit Reg.MEM_SCRUB_CFG 15 = true) (hs : s.links.scrub = some (n + 2))
    (he : s.links.errors = []) (hb : s.links.writebacks = []) (hp : p = scrubPlace s.links.scrubPos) :
    Answers (exec (.scrubRead p.1 p.2 [(w.val, .one)]) s) fun u =>
      (u.reg Reg.MEM_ECC_CE_CNT).toNat = min 0xFFFFFFFF ((s.reg Reg.MEM_ECC_CE_CNT).toNat + 1) ∧ u.bit Reg.MEM_ECC_STATUS 0 = true ∧
      s.Frame u { s with
        links := { s.links with scrub := some (n + 1), scrubPos := (s.links.scrubPos + 1) % 2658304
                                errors := [⟨p.1, p.2 * 8 + w.val, .one⟩], writebacks := [⟨p.1, p.2 * 8 + w.val, .one⟩] }
        regs := u.regs, host := u.host } [Reg.MEM_ECC_CE_CNT, Reg.MEM_ECC_STATUS, Reg.MEM_ECC_LOC] := by
  obtain ⟨e, hee⟩ : ∃ e : EccError, e = ⟨p.1, p.2 * 8 + w.val, .one⟩ := ⟨_, rfl⟩
  have hf : e.flaw = .one := by rw [hee]
  have hl : (s.flawed e).links.writebacks.contains e = false := by
    simp only [State.flawed, hb]
    rfl
  have hm := scrubMeets_one s he p w .one hee rfl
  rw [plantArray_of_ne_two _ _ _ (by decide), ← hee, eccFound_corrected _ hf hl] at hm
  have hk : (s.scrubMeets p [(w.val, .one)]).links.scrubPos = s.links.scrubPos := by rw [hm]; rfl
  have hg : ∀ a, ((s.scrubMeets p [(w.val, .one)]).scrubGoesOn (n + 1)).reg a =
      (((s.flawed e).eccRecord e.arr e.word false true).incSat Reg.MEM_ECC_CE_CNT 1).reg a := fun a => by rw [hm]; rfl
  have hr := (State.RegsBut.refl s [Reg.MEM_ECC_CE_CNT, Reg.MEM_ECC_STATUS, Reg.MEM_ECC_LOC]).congr (v := s.flawed e) rfl
  have hr := (hr.eccRecord (by simp) (by simp) e.arr e.word false true).incSat (a := Reg.MEM_ECC_CE_CNT) (by simp) 1
  rw [exec_scrubRead s _ (scrubsAt_of s hup hh hc hp) hs hk]
  refine answers_done ⟨?_, ?_, frame_done_links s ?_ fun a ha => (hg a).trans (hr a ha)⟩
  · rw [settle_reg_of_ne _ _ (by decide), hg, incSat_toNat, eccRecord_reg_other _ _ _ _ _ (by decide)]
    rfl
  · rw [settle_bit _ (by decide), bit_congr _ (hg _), bit_congr _ (reg_incSat_other _ _ (by decide)), eccRecord_valid]
  · rw [hm, scrubGoesOn_succ, eccRecord_frame, ← hee]
    simp only [State.flawed, he, hb, List.nil_append]
    rw [List.filter_cons_of_pos (by rw [hf]; decide)]
    rfl

/-- What a read does that finds two flipped bits, or reached the wrong word. -/
theorem scrubMeets_uncorrectable (he : s.links.errors = []) (p : SramArray × Nat) (w : Fin 8) {flaw : Flaw} (hf : flaw ≠ .one)
    {P : State} (hP : P = s.plantArray p.1 (p.2 * 8 + w.val) flaw) :
    s.scrubMeets p [(w.val, flaw)] =
      { P.ueFound p.1 (p.2 * 8 + w.val) true with
        links := { P.links with errors := P.links.errors.filter fun x => x.flaw != .stray } } := by
  rw [scrubMeets_one s he p w flaw rfl rfl, ← hP, eccFound_uncorrectable _ hf, ueFound_frame]

/-- The part of O30 for a read that meets what cannot be corrected. -/
theorem scrubRead_uncorrectable_answers (p : SramArray × Nat) (n : Nat) (w : Fin 8) (flaw : Flaw) (hup : s.mainUp = true)
    (hh : s.power.state ≠ .hold) (hc : s.bit Reg.MEM_SCRUB_CFG 15 = true) (hs : s.links.scrub = some (n + 2))
    (he : s.links.errors = []) (hf : flaw ≠ .one) (hp : p = scrubPlace s.links.scrubPos) :
    Answers (exec (.scrubRead p.1 p.2 [(w.val, flaw)]) s) fun u =>
      (u.reg Reg.MEM_ECC_UE_CNT).toNat = min 0xFFFFFFFF ((s.reg Reg.MEM_ECC_UE_CNT).toNat + 1) ∧ u.bit Reg.MEM_ECC_STATUS 0 = true ∧
      u.safety.inbox = s.safety.inbox ++ [{ src := 1, unit := arrayUnit p.1 }] ∧
      s.BytesBut u ((s.wordAddr p.1 (p.2 * 8 + w.val)).toList.map fun a => (a, 8)) ∧
      (flaw = .stray → u.links.errors = [] ∧ u.mem = s.mem ∧ u.engines = s.engines) ∧
      s.Frame u { s with
        mem := u.mem, engines := u.engines, links := u.links, safety := u.safety, freeCtr := u.freeCtr, regs := u.regs, host := u.host }
        [Reg.MEM_ECC_UE_CNT, Reg.MEM_ECC_STATUS, Reg.MEM_ECC_LOC] := by
  obtain ⟨P, hP⟩ : ∃ P, P = s.plantArray p.1 (p.2 * 8 + w.val) flaw := ⟨_, rfl⟩
  have hm := scrubMeets_uncorrectable s he p w hf hP
  have hPf := plantArray_frame s p.1 (p.2 * 8 + w.val) flaw
  have hPb := fun b => plantArray_byte_other s (arr := p.1) (word := p.2 * 8 + w.val) flaw (b := b)
  have hPs : flaw = .stray → P = s.flawed ⟨p.1, p.2 * 8 + w.val, flaw⟩ := fun h =>
    hP.trans (plantArray_of_ne_two s _ _ (by rw [h]; decide))
  rw [← hP] at hPf hPb
  have hPr : P.regs = s.regs := by rw [hPf]; rfl
  have hPy : P.safety = s.safety := by rw [hPf]; rfl
  have hUf := ueFound_frame P p.1 (p.2 * 8 + w.val) true
  have hUr := (State.RegsBut.refl s _).congr hPr |>.trans (ueFound_regsBut P p.1 (p.2 * 8 + w.val) true)
  have hUv := ueFound_valid P p.1 (p.2 * 8 + w.val) true
  have hUc := ueFound_count P p.1 (p.2 * 8 + w.val) true
  generalize P.ueFound p.1 (p.2 * 8 + w.val) true = U at hm hUf hUr hUv hUc
  have hk : (s.scrubMeets p [(w.val, flaw)]).links.scrubPos = s.links.scrubPos := by
    rw [hm, hPf]
    rfl
  obtain ⟨v, hv⟩ : ∃ v, v = (s.scrubMeets p [(w.val, flaw)]).scrubGoesOn (n + 1) := ⟨_, rfl⟩
  rw [exec_scrubRead s _ (scrubsAt_of s hup hh hc hp) hs hk, ← hv]
  rw [hm, scrubGoesOn_succ] at hv
  have hvr : v.regs = U.regs := by rw [hv]
  have hvm : v.mem = P.mem := by rw [hv, hUf]
  have hve : v.engines = P.engines := by rw [hv, hUf]
  have hvl : v.links.errors = P.links.errors.filter fun x => x.flaw != .stray := by rw [hv]
  have hvf : v = { s with
      mem := v.mem, engines := v.engines, links := v.links, safety := v.safety, freeCtr := v.freeCtr, regs := v.regs } := by
    rw [hv, hUf, hPf]
    rfl
  refine answers_done ⟨?_, ?_, ?_, fun b hb => ?_, fun h => ?_, ?_⟩
  · rw [settle_reg_of_ne _ _ (by decide), State.reg, hvr, ← State.reg, hUc, State.reg, hPr, ← State.reg]
  · rw [settle_bit _ (by decide), State.bit, State.reg, hvr, ← State.reg, ← State.bit, hUv]
  · rw [settle_safety, hv, hUf, hPy]
  · rw [State.byte, settle_mem, hvm, ← State.byte]
    exact hPb b fun a ha => hb (a, 8) (by simp [ha])
  · rw [settle_links, settle_mem, settle_engines, hvl, hvm, hve, hPs h, h]
    simp [State.flawed, he]
  · rw [settle_mem, settle_engines, settle_links, settle_safety, settle_freeCtr]
    exact frame_done s (u := { s with
      mem := v.mem, engines := v.engines, links := v.links, safety := v.safety, freeCtr := v.freeCtr }) hvf rfl (hUr.congr hvr)

/-- The write-back part of O30. -/
theorem eccWriteback_answers (e : EccError) (t : List EccError) (h : s.links.writebacks = e :: t) :
    Answers (exec .eccWriteback s) fun u =>
      s.Frame u { s with links := { s.links with writebacks := t, errors := s.links.errors.filter (· != e) }, host := u.host } [] := by
  have hx : exec .eccWriteback s =
      done { s with links := { s.links with writebacks := t, errors := s.links.errors.filter (· != e) } } := by
    rw [exec, execEccWriteback, h]
  rw [hx]
  exact answers_done (frame_regsStay s rfl rfl)

/-- Settles O30: a part for each command, and for each kind of thing that a read of the scrub can meet. -/
theorem scrubAndDram : Obligations.ScrubAndDram := by
  unfold Obligations.ScrubAndDram
  exact ⟨lpddrTrainDone_answers, dramTempReport_answers, scrubPassStart_answers, scrubRead_clean_answers,
    scrubRead_corrected_answers, scrubRead_uncorrectable_answers, scrubRead_elsewhere_answers, eccWriteback_answers⟩

end Sys2Proof.Machine
end

section
/-! The control of the links: PAIR_TRAIN, PAIR_STOP and LNK_CLR (R220, R231). -/

namespace Sys2Proof.Machine

variable (s : State)

/-! ### The pair_train command (R220, R231) -/

theorem pairTrain_of_busy (p : Path) (h : s.bit (Reg.LNK_STATUS 3) 0 = true ∨ s.bit (Reg.LNK_STATUS 3) 3 = true) :
    s.pairTrain p = s := by
  rw [State.pairTrain, if_pos (by simpa using h)]

theorem pairTrain_of_pll (p : Path) (h0 : s.bit (Reg.LNK_STATUS 3) 0 = false) (h3 : s.bit (Reg.LNK_STATUS 3) 3 = false)
    (hc : s.bit Reg.CLK_SRC 22 = true) :
    s.pairTrain p = (s.setBit (Reg.LNK_STATUS 3) 1 false).setBit (Reg.LNK_STATUS 3) 3 true := by
  rw [State.pairTrain, h0, h3, hc]
  rfl

/-- On the oscillator the command is an access error. -/
theorem pairTrain_of_oscillator (p : Path) (h0 : s.bit (Reg.LNK_STATUS 3) 0 = false) (h3 : s.bit (Reg.LNK_STATUS 3) 3 = false)
    (hc : s.bit Reg.CLK_SRC 22 = false) : s.pairTrain p = s.accErr false 0 true (pathCode p) Reg.LNK_CTRL := by
  have ht : (p == .riath && isTileReg Reg.LNK_CTRL) = false := by
    rw [show isTileReg Reg.LNK_CTRL = false from rfl, Bool.and_false]
  rw [State.pairTrain, h0, h3, hc, Bool.or_self, if_neg (by decide), Bool.not_false, if_pos rfl, State.badWrite, ht]

/-- The training part of O31. -/
theorem pairTrain_answers (p : Path) (ht : s.takes Reg.LNK_CTRL = true) : Answers (exec (.pairTrain p) s) fun u =>
    ((s.bit (Reg.LNK_STATUS 3) 0 = true ∨ s.bit (Reg.LNK_STATUS 3) 3 = true) → s.OnlyRegs u []) ∧
    (s.bit (Reg.LNK_STATUS 3) 0 = false → s.bit (Reg.LNK_STATUS 3) 3 = false → s.bit Reg.CLK_SRC 22 = true →
      u.bit (Reg.LNK_STATUS 3) 1 = false ∧ u.bit (Reg.LNK_STATUS 3) 3 = true ∧ u.bit (Reg.LNK_STATUS 3) 0 = false ∧
      s.OnlyRegs u [Reg.LNK_STATUS 3]) ∧
    (s.bit (Reg.LNK_STATUS 3) 0 = false → s.bit (Reg.LNK_STATUS 3) 3 = false → s.bit Reg.CLK_SRC 22 = false →
      u.bit Reg.CTL_ACC_ERR 0 = true ∧ s.OnlyRegs u [Reg.CTL_ACC_ERR]) := by
  have hl : ∀ n, s.activity.bit (Reg.LNK_STATUS 3) n = s.bit (Reg.LNK_STATUS 3) n := bit_activity s (by decide)
  have hc : s.activity.bit Reg.CLK_SRC 22 = s.bit Reg.CLK_SRC 22 := bit_activity s (by decide) 22
  rw [exec, execPairTrain, hWrite_of_takes s ht]
  refine answers_done ⟨fun h => ?_, fun h0 h3 hs => ?_, fun h0 h3 hs => ?_⟩
  · rw [pairTrain_of_busy _ p (by simpa only [hl] using h)]
    exact onlyRegs_access s rfl (.refl _ _)
  · rw [pairTrain_of_pll _ p ((hl 0).trans h0) ((hl 3).trans h3) (hc.trans hs)]
    refine ⟨?_, ?_, ?_, onlyRegs_access s ?_ ?_⟩
    · rw [settle_bit _ (by decide), bit_setBit_ne _ _ (by omega) (by omega), bit_setBit_same _ _ (by omega)]
    · rw [settle_bit _ (by decide), bit_setBit_same _ _ (by omega)]
    · rw [settle_bit _ (by decide), bit_setBit_ne _ _ (by omega) (by omega), bit_setBit_ne _ _ (by omega) (by omega), hl, h0]
    · exact setBit_frame _ _ _ _
    · exact ((State.RegsBut.refl _ _).setBit (List.mem_singleton.mpr rfl) _ _).setBit (List.mem_singleton.mpr rfl) _ _
  · rw [pairTrain_of_oscillator _ p ((hl 0).trans h0) ((hl 3).trans h3) (hc.trans hs)]
    refine ⟨?_, accErr_activity_onlyRegs s 0 true _ _⟩
    rw [settle_bit _ (by decide), accErr_bit _ false 0 true _ _ (r := Reg.CTL_ACC_ERR) rfl (by omega)]

/-! ### The pair_stop command (R231) -/

/-- The part of O31 for the stop. -/
theorem pairStop_answers (ht : s.takes Reg.LNK_CTRL = true) : Answers (exec .pairStop s) fun u =>
    u.bit (Reg.LNK_STATUS 3) 0 = false ∧ u.bit (Reg.LNK_STATUS 3) 1 = s.bit (Reg.LNK_STATUS 3) 1 ∧
    s.OnlyRegs u [Reg.LNK_STATUS 3] := by
  rw [exec, execPairStop, hWrite_of_takes s ht]
  refine answers_done ⟨?_, ?_, onlyRegs_access s (setBit_frame _ _ _ _)
    (((State.RegsBut.refl _ _).setBit (List.mem_singleton.mpr rfl) _ _).setBit (List.mem_singleton.mpr rfl) _ _)⟩
  · rw [settle_bit _ (by decide), State.pairStop, bit_setBit_ne _ _ (by omega) (by omega), bit_setBit_same _ _ (by omega)]
  · rw [settle_bit _ (by decide), State.pairStop, bit_setBit_ne _ _ (by omega) (by omega), bit_setBit_ne _ _ (by omega) (by omega),
      bit_activity s (by decide)]

/-! ### The clr command (R231) -/

/-- The counters of a link. -/
def linkCounters (i : Nat) : List Nat := [Reg.LNK_RETRY i, Reg.LNK_CE i, Reg.LNK_STALL_A i, Reg.LNK_STALL_B i]

/-- Clear the counters of one link. -/
def State.linkClr (s : State) (i : Nat) : State :=
  (((s.setNat (Reg.LNK_RETRY i) 0).setNat (Reg.LNK_CE i) 0).setNat (Reg.LNK_STALL_A i) 0).setNat (Reg.LNK_STALL_B i) 0

theorem linkClr_reg (i a : Nat) : (s.linkClr i).reg a = if a ∈ linkCounters i then 0#32 else s.reg a := by
  simp only [State.linkClr, State.setNat, reg_setReg, linkCounters, List.mem_cons, List.not_mem_nil, or_false]
  grind

theorem foldl_linkClr_frame (l : List Nat) : l.foldl State.linkClr s = { s with regs := (l.foldl State.linkClr s).regs } := by
  induction l generalizing s with
  | nil => rfl
  | cons i t ih =>
    rw [List.foldl_cons, ih]
    rfl

theorem foldl_linkClr_reg (l : List Nat) (a : Nat) :
    (l.foldl State.linkClr s).reg a = if a ∈ l.flatMap linkCounters then 0#32 else s.reg a := by
  induction l generalizing s with
  | nil => rfl
  | cons i t ih =>
    rw [List.foldl_cons, ih, linkClr_reg, List.flatMap_cons]
    by_cases ht : a ∈ t.flatMap linkCounters
    · rw [if_pos ht, if_pos (List.mem_append_right _ ht)]
    · simp only [List.mem_append, ht, or_false, if_false]

theorem lnkClr_eq : s.lnkClr = (List.range 4).foldl State.linkClr s := rfl

/-- The part of O31 for clr. -/
theorem lnkClr_answers (ht : s.takes Reg.LNK_CTRL = true) : Answers (exec .lnkClr s) fun u =>
    (∀ i < 4, u.reg (Reg.LNK_RETRY i) = 0#32 ∧ u.reg (Reg.LNK_CE i) = 0#32 ∧ u.reg (Reg.LNK_STALL_A i) = 0#32 ∧
      u.reg (Reg.LNK_STALL_B i) = 0#32) ∧
    s.OnlyRegs u ((List.range 4).flatMap fun i => [Reg.LNK_RETRY i, Reg.LNK_CE i, Reg.LNK_STALL_A i, Reg.LNK_STALL_B i]) := by
  have hz : ∀ i < 4, ∀ a ∈ linkCounters i, s.activity.lnkClr.settle.reg a = 0#32 := fun i hi a ha => by
    have hm : a ∈ (List.range 4).flatMap linkCounters := List.mem_flatMap.mpr ⟨i, List.mem_range.mpr hi, ha⟩
    have hp : ∀ b ∈ (List.range 4).flatMap linkCounters, b ≠ Reg.PWR_STATUS := by decide
    rw [settle_reg_of_ne _ _ (hp a hm), lnkClr_eq, foldl_linkClr_reg, if_pos hm]
  rw [exec, execLnkClr, hWrite_of_takes s ht]
  refine answers_done ⟨fun i hi => ⟨?_, ?_, ?_, ?_⟩, onlyRegs_access s (foldl_linkClr_frame _ _) fun a ha => ?_⟩
  · exact hz i hi _ (by simp [linkCounters])
  · exact hz i hi _ (by simp [linkCounters])
  · exact hz i hi _ (by simp [linkCounters])
  · exact hz i hi _ (by simp [linkCounters])
  · exact (foldl_linkClr_reg s.activity _ a).trans (if_neg ha)

/-- Settles O31: a part for each bit of LNK_CTRL. -/
theorem linkControl : Obligations.LinkControl := by
  unfold Obligations.LinkControl
  exact ⟨pairTrain_answers, pairStop_answers, lnkClr_answers⟩

end Sys2Proof.Machine
end

section
/-! Flits, credit errors and replays on the die links (R216, R218, R247, R493). -/

namespace Sys2Proof.Machine

variable (s : State)

/-! ### The directions of the links -/

@[simp] theorem dir_setDir_same (i : Nat) (b : Bool) (d : LinkDir) : (s.setDir i b d).dir i b = d := by
  simp only [State.dir, State.setDir, smap_look_put_same]

theorem dir_setDir_other {i j : Nat} {b c : Bool} (d : LinkDir) (h : (j, c) ≠ (i, b)) : (s.setDir i b d).dir j c = s.dir j c := by
  have hk : 2 * j + b2n c ≠ 2 * i + b2n b := fun e => h (crossingKey_inj e)
  simp only [State.dir, State.setDir, smap_look_put_other _ _ _ _ _ hk]

theorem dir_congr {t : State} (h : t.links.dirs = s.links.dirs) (i : Nat) (b : Bool) : t.dir i b = s.dir i b := by
  rw [State.dir, h, State.dir]

@[simp] theorem settle_dir (i : Nat) (b : Bool) : s.settle.dir i b = s.dir i b := dir_congr s (by rw [settle_links]) i b

@[simp] theorem setDir_reg (i : Nat) (b : Bool) (d : LinkDir) (a : Nat) : (s.setDir i b d).reg a = s.reg a := rfl

/-- The registers of the links are apart, and none of them is one that a request latches or that other commands show. -/
theorem linkRegs_apart (l : Fin 4) : Reg.LNK_STATUS l ≠ Reg.PWR_STATUS ∧ Reg.LNK_CE l ≠ Reg.PWR_STATUS ∧
    Reg.LNK_RETRY l ≠ Reg.PWR_STATUS ∧ Reg.LNK_CE l ≠ Reg.LNK_STATUS l ∧ Reg.LNK_RETRY l ≠ Reg.LNK_STATUS l ∧
    Reg.LNK_RETRY l ≠ Reg.SAF_STATUS ∧ Reg.LNK_STATUS l ≠ Reg.SAF_STATUS := by
  revert l
  decide

/-! ### What a direction makes of a flit (R216, R493) -/

namespace LinkDir

variable (d : LinkDir) (seq : Nat) (crcOk good : Bool) (every : Nat)

/-- A flit that awaits a replay is discarded. -/
theorem receive_asked (h : d.asked = true) : (d.receive seq crcOk good every).expect = d.expect ∧
    (d.receive seq crcOk good every).asked = true ∧ (d.receive seq crcOk good every).forced = d.forced := by
  simp [LinkDir.receive, h]

/-- A flit that is not sound, or not the expected one, is discarded and its replay asked for. -/
theorem receive_bad (h : d.asked = false) (hb : (good && seq == d.expect) = false) :
    (d.receive seq crcOk good every).expect = d.expect ∧ (d.receive seq crcOk good every).asked = true ∧
    (d.receive seq crcOk good every).forced = false ∧ (d.receive seq crcOk good every).streak = d.streak := by
  simp [LinkDir.receive, h, hb]

/-- A sound flit in sequence advances the direction. -/
theorem receive_taken (h : d.asked = false) (hg : (good && seq == d.expect) = true)
    (hf : every = 0 ∨ d.replays ≠ 0 ∨ d.count + 1 < every) :
    (d.receive seq crcOk good every).expect = d.expect + 1 ∧ (d.receive seq crcOk good every).asked = false ∧
    (d.receive seq crcOk good every).streak = if d.last = seq then 0 else d.streak := by
  have hn : (decide (d.replays = 0) && every != 0 && decide (every ≤ d.count + 1)) = false := by
    simp only [Bool.and_eq_false_iff, decide_eq_false_iff_not, bne_eq_false_iff_eq]
    omega
  simp [LinkDir.receive, h, hg, hn]

/-- TST_LNK forces a replay on a sound flit in sequence. -/
theorem receive_forced (h : d.asked = false) (hg : (good && seq == d.expect) = true) (he : every ≠ 0) (hr : d.replays = 0)
    (hc : every ≤ d.count + 1) :
    (d.receive seq crcOk good every).expect = d.expect ∧ (d.receive seq crcOk good every).asked = true ∧
    (d.receive seq crcOk good every).forced = true ∧ (d.receive seq crcOk good every).count = 0 := by
  simp [LinkDir.receive, h, hg, he, hr, hc]

end LinkDir

/-! ### FLIT_RECEIVE (R216) -/

/-- The counts of a flit: its corrections, and ue. -/
def State.flitCounted (s : State) (l corrected : Nat) (ue : Bool) : State :=
  if ue then (s.incSat (Reg.LNK_CE l) corrected).setBit (Reg.LNK_STATUS l) 2 true else s.incSat (Reg.LNK_CE l) corrected

theorem flitCounted_frame (l corrected : Nat) (ue : Bool) :
    s.flitCounted l corrected ue = { s with regs := (s.flitCounted l corrected ue).regs } := by
  unfold State.flitCounted
  split
  · exact setBit_frame _ _ _ _
  · rfl

theorem flitCounted_regsBut (l corrected : Nat) (ue : Bool) {c : List Nat} (hc : Reg.LNK_CE l ∈ c) (hs : Reg.LNK_STATUS l ∈ c) :
    s.RegsBut (s.flitCounted l corrected ue) c := by
  have h := (State.RegsBut.refl s c).incSat hc corrected
  unfold State.flitCounted
  split
  · exact h.setBit hs _ _
  · exact h

theorem flitCounted_corrections (l : Fin 4) (corrected : Nat) (ue : Bool) :
    ((s.flitCounted l corrected ue).reg (Reg.LNK_CE l)).toNat = min 0xFFFFFFFF ((s.reg (Reg.LNK_CE l)).toNat + corrected) := by
  obtain ⟨-, -, -, hcs, -⟩ := linkRegs_apart l
  unfold State.flitCounted
  split
  · rw [reg_setBit_other _ _ _ _ _ hcs, incSat_toNat]
  · rw [incSat_toNat]

theorem flitCounted_ue (l : Fin 4) (corrected : Nat) (ue : Bool) :
    (s.flitCounted l corrected ue).bit (Reg.LNK_STATUS l) 2 = (ue || s.bit (Reg.LNK_STATUS l) 2) := by
  obtain ⟨-, -, -, hcs, -⟩ := linkRegs_apart l
  unfold State.flitCounted
  cases ue
  · exact bit_congr s (reg_incSat_other s _ hcs.symm) 2
  · exact bit_setBit_same _ _ (by omega)

/-- The effect of a flit on a link that runs. -/
def State.flitTaken (s : State) (l : Nat) (b : Bool) (seq : Nat) (crcOk : Bool) (corrected : Nat) (ue : Bool) : State :=
  (s.flitCounted l corrected ue).setDir l b ((s.dir l b).receive seq crcOk (crcOk && !ue) (s.forceEvery l))

theorem flitTaken_frame (l : Nat) (b : Bool) (seq : Nat) (crcOk : Bool) (corrected : Nat) (ue : Bool) :
    s.flitTaken l b seq crcOk corrected ue = { s with
      links := { s.links with dirs := (s.flitTaken l b seq crcOk corrected ue).links.dirs }
      regs := (s.flitTaken l b seq crcOk corrected ue).regs } := by
  unfold State.flitTaken
  rw [flitCounted_frame]
  rfl

theorem flitTaken_regsBut (l : Nat) (b : Bool) (seq : Nat) (crcOk : Bool) (corrected : Nat) (ue : Bool) {c : List Nat}
    (hc : Reg.LNK_CE l ∈ c) (hs : Reg.LNK_STATUS l ∈ c) : s.RegsBut (s.flitTaken l b seq crcOk corrected ue) c :=
  (flitCounted_regsBut s l corrected ue hc hs).congr rfl

theorem exec_flitReceive_sound (l : Fin 4) (b : Bool) (seq corrected : Nat) (crcOk ue : Bool) (h : s.linkRuns l = true) :
    exec (.flitReceive l b seq crcOk corrected ue none) s = done (s.flitTaken l b seq crcOk corrected ue) := by
  rw [exec, execFlitReceive, if_pos h]
  rfl

theorem exec_flitReceive_credit (l : Fin 4) (b : Bool) (seq corrected : Nat) (crcOk ue : Bool) (c : CreditError)
    (h : s.linkRuns l = true) : exec (.flitReceive l b seq crcOk corrected ue (some c)) s =
      done ((s.flitTaken l b seq crcOk corrected ue).creditError c) := by
  rw [exec, execFlitReceive, if_pos h]
  rfl

/-- The part of O32 for a flit without a credit error. -/
theorem flitReceive_answers (l : Fin 4) (b : Bool) (d : LinkDir) (seq corrected : Nat) (crcOk ue : Bool)
    (h : s.linkRuns l = true) (hd : d = s.dir l b) :
    Answers (exec (.flitReceive l b seq crcOk corrected ue none) s) fun u =>
      (d.asked = false → crcOk = true → ue = false → seq = d.expect →
        (s.forceEvery l = 0 ∨ d.replays ≠ 0 ∨ d.count + 1 < s.forceEvery l →
          (u.dir l b).expect = seq + 1 ∧ (u.dir l b).asked = false ∧ (u.dir l b).streak = (if d.last = seq then 0 else d.streak)) ∧
        (s.forceEvery l ≠ 0 → d.replays = 0 → s.forceEvery l ≤ d.count + 1 →
          (u.dir l b).expect = seq ∧ (u.dir l b).asked = true ∧ (u.dir l b).forced = true ∧ (u.dir l b).count = 0)) ∧
      (d.asked = false → (crcOk = false ∨ ue = true ∨ seq ≠ d.expect) →
        (u.dir l b).expect = d.expect ∧ (u.dir l b).asked = true ∧ (u.dir l b).forced = false ∧ (u.dir l b).streak = d.streak) ∧
      (d.asked = true → (u.dir l b).expect = d.expect ∧ (u.dir l b).asked = true ∧ (u.dir l b).forced = d.forced) ∧
      (∀ i c, (i, c) ≠ (l.val, b) → u.dir i c = s.dir i c) ∧
      (u.reg (Reg.LNK_CE l)).toNat = min 0xFFFFFFFF ((s.reg (Reg.LNK_CE l)).toNat + corrected) ∧
      u.bit (Reg.LNK_STATUS l) 2 = (ue || s.bit (Reg.LNK_STATUS l) 2) ∧
      s.Frame u { s with links := { s.links with dirs := u.links.dirs }, regs := u.regs, host := u.host }
        [Reg.LNK_CE l, Reg.LNK_STATUS l] := by
  obtain ⟨hsp, hcp, -⟩ := linkRegs_apart l
  have hu : (s.flitTaken l b seq crcOk corrected ue).settle.dir l b =
      d.receive seq crcOk (crcOk && !ue) (s.forceEvery l) := by
    rw [settle_dir, State.flitTaken, dir_setDir_same, hd]
  have ho : ∀ i c, (i, c) ≠ (l.val, b) → (s.flitTaken l b seq crcOk corrected ue).settle.dir i c = s.dir i c := fun i c hne => by
    rw [settle_dir, State.flitTaken, dir_setDir_other _ _ hne, dir_congr s (by rw [flitCounted_frame])]
  rw [exec_flitReceive_sound s l b seq corrected crcOk ue h]
  refine answers_done ⟨fun ha hk hue hs => ?_, fun ha hb => ?_, fun ha => ?_, ho, ?_, ?_, ?_⟩
  · rw [hu]
    have hg : (crcOk && !ue && seq == d.expect) = true := by simp [hk, hue, hs]
    refine ⟨fun hf => ?_, fun he hr hc => ?_⟩
    · obtain ⟨h1, h2, h3⟩ := d.receive_taken seq crcOk _ _ ha hg hf
      exact ⟨by rw [h1, hs], h2, h3⟩
    · obtain ⟨h1, h2, h3, h4⟩ := d.receive_forced seq crcOk _ _ ha hg he hr hc
      exact ⟨by rw [h1, hs], h2, h3, h4⟩
  · rw [hu]
    refine d.receive_bad seq crcOk _ _ ha ?_
    rcases hb with hb | hb | hb <;> simp [hb]
  · rw [hu]
    exact d.receive_asked seq crcOk _ _ ha
  · rw [settle_reg_of_ne _ _ hcp]
    exact flitCounted_corrections s l corrected ue
  · rw [settle_bit _ hsp]
    exact flitCounted_ue s l corrected ue
  · rw [settle_links]
    exact frame_done_links s (flitTaken_frame s l b seq crcOk corrected ue)
      (flitTaken_regsBut s l b seq crcOk corrected ue (by simp) (by simp))

/-! ### A credit error (R247, R265) -/

/-- A recording that keeps all but registers makes a record that does. -/
theorem recordFirst_frame {a : Nat} {put : State → State} (hp : ∀ t : State, put t = { t with regs := (put t).regs }) :
    s.recordFirst a put = { s with regs := (s.recordFirst a put).regs } := by
  unfold State.recordFirst
  split
  · exact setBit_frame _ _ _ _
  · rw [hp]
    rfl

/-- The record of a credit error in SYN_UF_STATUS. -/
def State.creditShown (s : State) (c : CreditError) : State :=
  s.recordFirst Reg.SYN_UF_STATUS fun s =>
    s.setNat Reg.SYN_UF_STATUS (s.fld Reg.SYN_UF_STATUS 1 0 + b2n c.ovf * 4 + c.res % 8 * 16 + c.die % 2 * 128
      + c.cluster % 8 * 256 + c.pcore % 8 * 2048 + c.peng % 32 * 16384 + c.port % 32 * 524288 + b2n c.hdie * 16777216)

theorem creditShown_frame (c : CreditError) : s.creditShown c = { s with regs := (s.creditShown c).regs } :=
  recordFirst_frame s fun t => setNat_frame t _ _

theorem State.RegsBut.creditShown {s t : State} {l : List Nat} (h : s.RegsBut t l) (hl : Reg.SYN_UF_STATUS ∈ l) (c : CreditError) :
    s.RegsBut (t.creditShown c) l :=
  h.recordFirst hl fun _ hv => hv.setNat hl _

theorem creditShown_valid (c : CreditError) : (s.creditShown c).bit Reg.SYN_UF_STATUS 0 = true := by
  refine recordFirst_valid s fun t ht => ?_
  have hf := fld_mod_two t (n := 1) ht
  rw [bit_setNat_zero, decide_eq_true_iff]
  omega

theorem creditError_eq (c : CreditError) : s.creditError c = { s.creditShown c with
    links := { s.links with stopped := s.links.stopped ++ [c] }
    safety := { s.safety with inbox := s.safety.inbox ++ [{ src := 0x02, unit := creditUnit c }] } } := by
  have h : s.creditError c = ({ s.creditShown c with links := { (s.creditShown c).links with
    stopped := (s.creditShown c).links.stopped ++ [c] } } : State).raise { src := 0x02, unit := creditUnit c } := rfl
  rw [h, creditShown_frame]
  rfl

/-- The part of O32 for a flit with a credit error. -/
theorem flitReceive_credit_answers (l : Fin 4) (b : Bool) (seq corrected : Nat) (crcOk ue : Bool) (c : CreditError)
    (h : s.linkRuns l = true) : Answers (exec (.flitReceive l b seq crcOk corrected ue (some c)) s) fun u =>
      u.links.stopped = s.links.stopped ++ [c] ∧ u.bit Reg.SYN_UF_STATUS 0 = true ∧
      u.safety.inbox = s.safety.inbox ++ [{ src := 2, unit := creditUnit c }] ∧
      s.Frame u { s with links := u.links, safety := u.safety, regs := u.regs, host := u.host }
        [Reg.LNK_CE l, Reg.LNK_STATUS l, Reg.SYN_UF_STATUS] := by
  have hf := flitTaken_frame s l b seq crcOk corrected ue
  have hr := flitTaken_regsBut s l b seq crcOk corrected ue (c := [Reg.LNK_CE l, Reg.LNK_STATUS l, Reg.SYN_UF_STATUS])
    (by simp) (by simp)
  rw [exec_flitReceive_credit s l b seq corrected crcOk ue c h]
  generalize s.flitTaken l b seq crcOk corrected ue = t at hf hr
  refine answers_done ⟨?_, ?_, ?_, ?_⟩
  · rw [settle_links, creditError_eq, hf]
  · rw [settle_bit _ (by decide), creditError_eq]
    exact creditShown_valid t c
  · rw [settle_safety, creditError_eq, hf]
  · rw [settle_links, settle_safety]
    refine frame_done_links s ?_ ((hr.creditShown (by simp) c).congr ?_)
    · rw [creditError_eq, creditShown_frame]
      dsimp only
      rw [hf]
    · rw [creditError_eq]

/-! ### Loss of the pair link, and a link that fails (R218, R476) -/

theorem pairLost_of_single (h : s.doubles = false) : s.pairLost = s := by
  rw [State.pairLost, h, if_neg (by decide)]

theorem pairLost_frame : s.pairLost = { s with safety := s.pairLost.safety, regs := s.pairLost.regs } := by
  unfold State.pairLost
  split
  · dsimp only
    split <;> rfl
  · rfl

theorem pairLost_regsBut {c : List Nat} (hc : Reg.SAF_STATUS ∈ c) : s.RegsBut s.pairLost c := by
  have h : s.RegsBut (s.raise { src := 0x0A, link := some 3 }) c := (State.RegsBut.refl s c).congr rfl
  unfold State.pairLost
  split
  · dsimp only
    split
    · exact (h.setBit hc 4 true).congr rfl
    · exact h
  · exact .refl s c

/-- In Doubles the loss is presented. -/
theorem pairLost_inbox (h : s.doubles = true) :
    s.pairLost.safety.inbox = s.safety.inbox ++ [{ src := 0x0A, link := some 3 }] := by
  rw [State.pairLost, if_pos h]
  dsimp only
  split <;> rfl

/-- In Doubles the device falls back to Single where that is enabled. -/
theorem pairLost_fallback (h : s.doubles = true) :
    s.pairLost.bit Reg.SAF_STATUS 4 = (s.safety.dblCfg.getLsbD 9 || s.bit Reg.SAF_STATUS 4) := by
  have hc : (s.raise { src := 0x0A, link := some 3 }).safety.dblCfg = s.safety.dblCfg := rfl
  rw [State.pairLost, if_pos h]
  dsimp only
  rw [hc]
  split
  · next h9 => rw [h9, Bool.true_or]; exact bit_setBit_same _ _ (by omega)
  · next h9 => rw [eq_false_of_ne_true h9, Bool.false_or]; rfl

/-- What a failing link presents to the safety monitor. -/
def State.failRaised (s : State) (i : Nat) : State := if i = 3 then s.pairLost else s.raise { src := 0x03, link := some i }

theorem linkFail_eq (i : Nat) :
    s.linkFail i = ((s.failRaised i).setBit (Reg.LNK_STATUS i) 1 true).setBit (Reg.LNK_STATUS i) 0 false := rfl

theorem failRaised_frame (i : Nat) :
    s.failRaised i = { s with safety := (s.failRaised i).safety, regs := (s.failRaised i).regs } := by
  unfold State.failRaised
  split
  · exact pairLost_frame s
  · rfl

theorem linkFail_frame (i : Nat) : s.linkFail i = { s with safety := (s.linkFail i).safety, regs := (s.linkFail i).regs } := by
  rw [linkFail_eq, setBit_frame, setBit_frame (s.failRaised i), failRaised_frame]

theorem State.RegsBut.linkFail {s t : State} {c : List Nat} (h : s.RegsBut t c) {i : Nat} (hl : Reg.LNK_STATUS i ∈ c)
    (hs : Reg.SAF_STATUS ∈ c) : s.RegsBut (t.linkFail i) c := by
  have hr : s.RegsBut (t.failRaised i) c := by
    unfold State.failRaised
    split
    · exact h.trans (pairLost_regsBut t hs)
    · exact h.congr rfl
  rw [linkFail_eq]
  exact (hr.setBit hl _ _).setBit hl _ _

theorem linkFail_up (i : Nat) : (s.linkFail i).bit (Reg.LNK_STATUS i) 0 = false := by
  rw [linkFail_eq, bit_setBit_same _ _ (by omega)]

theorem linkFail_failed (i : Nat) : (s.linkFail i).bit (Reg.LNK_STATUS i) 1 = true := by
  rw [linkFail_eq, bit_setBit_ne _ _ (by omega) (by omega), bit_setBit_same _ _ (by omega)]

/-- A failing link of this package presents source 0x03. -/
theorem linkFail_safety {i : Nat} (h : i ≠ 3) :
    (s.linkFail i).safety = { s.safety with inbox := s.safety.inbox ++ [{ src := 3, link := some i }] } := by
  rw [linkFail_eq, setBit_safety, setBit_safety, State.failRaised, if_neg h]
  rfl

/-! ### REPLAY_REQUEST (R216, R218) -/

/-- The direction after its replay: it asks no longer, and counts the replay unless TST_LNK has forced it (R493). -/
def LinkDir.replayed (d : LinkDir) (n : Nat) : LinkDir :=
  { d with
    asked := false, forced := false, replays := d.sent - d.expect
    last := if d.forced then d.last else d.expect, streak := if d.forced then d.streak else n }

/-- The effect of a replay, its flits counted. -/
def State.replayServed (s : State) (l : Nat) (b : Bool) (d : LinkDir) (n : Nat) : State :=
  (s.incSat (Reg.LNK_RETRY l) (d.sent - d.expect)).setDir l b (d.replayed n)

/-- A replay that was asked for; the 16th of one flit fails the link. -/
theorem exec_replayRequest (l : Fin 4) (b : Bool) (d : LinkDir) (n : Nat) (h : s.linkRuns l = true) (hd : d = s.dir l b)
    (ha : d.asked = true) (hn : n = if d.last = d.expect ∧ d.streak ≠ 0 then d.streak + 1 else 1) :
    exec (.replayRequest l b d.expect (d.sent - d.expect) d.forced) s =
      done (if d.forced = false ∧ 16 ≤ n then (s.replayServed l b d n).linkFail l else s.replayServed l b d n) := by
  have hq : (d.request? == some (d.expect, d.sent - d.expect, d.forced)) = true := by
    rw [LinkDir.request?, if_pos ha, beq_self_eq_true]
  rw [exec, execReplayRequest]
  dsimp only
  rw [← hd, h, hq, if_pos (Bool.and_self true), ← hn]
  unfold State.replayServed LinkDir.replayed
  cases hf : d.forced <;> simp

/-- A replay that was not asked for. -/
theorem replayRequest_unasked_answers (l : Fin 4) (b f : Bool) (d : LinkDir) (seq n : Nat) (hd : d = s.dir l b)
    (h : d.asked = false ∨ seq ≠ d.expect ∨ n ≠ d.sent - d.expect ∨ f ≠ d.forced) :
    Answers (exec (.replayRequest l b seq n f) s) fun u => s.OnlyRegs u [] := by
  have hq : (d.request? == some (seq, n, f)) = false := by
    rw [beq_eq_false_iff_ne, LinkDir.request?]
    split
    · next ha =>
      rw [ne_eq, Option.some.injEq, Prod.mk.injEq, Prod.mk.injEq]
      rintro ⟨hs, hn, hf⟩
      rcases h with h | h | h | h
      · rw [ha] at h
        cases h
      · exact h hs.symm
      · exact h hn.symm
      · exact h hf.symm
    · exact nofun
  have hx : exec (.replayRequest l b seq n f) s = done s := by
    rw [exec, execReplayRequest]
    dsimp only
    rw [← hd, hq, Bool.and_false, if_neg (by decide)]
  rw [hx]
  exact answers_done (onlyRegs_none s)

/-- The part of O32 for a replay that was asked for. -/
theorem replayRequest_answers (l : Fin 4) (b : Bool) (d : LinkDir) (n : Nat) (h : s.linkRuns l = true) (hd : d = s.dir l b)
    (ha : d.asked = true) (hn : n = if d.last = d.expect ∧ d.streak ≠ 0 then d.streak + 1 else 1) :
    Answers (exec (.replayRequest l b d.expect (d.sent - d.expect) d.forced) s) fun u =>
      (u.reg (Reg.LNK_RETRY l)).toNat = min 0xFFFFFFFF ((s.reg (Reg.LNK_RETRY l)).toNat + (d.sent - d.expect)) ∧
      u.dir l b = { d with
        asked := false, forced := false, replays := d.sent - d.expect
        last := if d.forced then d.last else d.expect, streak := if d.forced then d.streak else n } ∧
      (∀ i c, (i, c) ≠ (l.val, b) → u.dir i c = s.dir i c) ∧
      (d.forced = true ∨ n < 16 → s.Frame u { s with links := { s.links with dirs := u.links.dirs }, regs := u.regs, host := u.host }
        [Reg.LNK_RETRY l]) ∧
      (d.forced = false → 16 ≤ n → u.bit (Reg.LNK_STATUS l) 0 = false ∧ u.bit (Reg.LNK_STATUS l) 1 = true ∧
        (l.val ≠ 3 → u.safety = { s.safety with inbox := s.safety.inbox ++ [{ src := 3, link := some l.val }] }) ∧
        s.Frame u { s with links := { s.links with dirs := u.links.dirs }, safety := u.safety, regs := u.regs, host := u.host }
          [Reg.LNK_RETRY l, Reg.LNK_STATUS l, Reg.SAF_STATUS]) := by
  obtain ⟨hsp, -, hrp, -, -, hra, -⟩ := linkRegs_apart l
  have hb : s.RegsBut (s.replayServed l b d n) [Reg.LNK_RETRY l] :=
    ((State.RegsBut.refl s _).incSat (List.mem_singleton.mpr rfl) _).congr rfl
  have hc : ((s.replayServed l b d n).reg (Reg.LNK_RETRY l)).toNat =
      min 0xFFFFFFFF ((s.reg (Reg.LNK_RETRY l)).toNat + (d.sent - d.expect)) := incSat_toNat s _ _
  have hdir : (s.replayServed l b d n).dir l b = d.replayed n := dir_setDir_same _ _ _ _
  have ho : ∀ i c, (i, c) ≠ (l.val, b) → (s.replayServed l b d n).dir i c = s.dir i c := fun i c hne =>
    dir_setDir_other _ _ hne
  have hf : s.replayServed l b d n = { s with
    links := { s.links with dirs := (s.replayServed l b d n).links.dirs }, regs := (s.replayServed l b d n).regs } := rfl
  rw [exec_replayRequest s l b d n h hd ha hn]
  generalize s.replayServed l b d n = t at hb hc hdir ho hf
  by_cases hk : d.forced = false ∧ 16 ≤ n
  · obtain ⟨hk1, hk2⟩ := hk
    have hF := linkFail_frame t l
    have hd' : ∀ i c, (t.linkFail l).settle.dir i c = t.dir i c := fun i c => by
      rw [settle_dir, dir_congr t (by rw [hF])]
    have hr' : (t.linkFail l).reg (Reg.LNK_RETRY l) = t.reg (Reg.LNK_RETRY l) :=
      (State.RegsBut.refl t [Reg.LNK_STATUS l, Reg.SAF_STATUS]).linkFail (by simp) (by simp) _ (by simp [hra])
    rw [if_pos ⟨hk1, hk2⟩]
    refine answers_done ⟨?_, ?_, fun i c hne => ?_, fun hno => ?_, fun _ _ => ⟨?_, ?_, fun h3 => ?_, ?_⟩⟩
    · rw [settle_reg_of_ne _ _ hrp, hr', hc]
    · rw [hd', hdir, LinkDir.replayed]
    · rw [hd', ho i c hne]
    · rw [hk1] at hno
      exact absurd hno (by simp; omega)
    · rw [settle_bit _ hsp, linkFail_up]
    · rw [settle_bit _ hsp, linkFail_failed]
    · rw [settle_safety, linkFail_safety t h3, hf]
    · have hl : (t.linkFail l).links = t.links := by rw [hF]
      have hfl : t.linkFail l = { s with
          links := { s.links with dirs := t.links.dirs }, safety := (t.linkFail l).safety, regs := (t.linkFail l).regs } := by
        refine hF.trans ?_
        generalize (t.linkFail l).safety = y
        generalize (t.linkFail l).regs = g
        rw [hf]
      rw [settle_links, settle_safety, hl]
      exact frame_done_links s hfl ((hb.mono (by simp)).linkFail (by simp) (by simp))
  · rw [if_neg hk]
    refine answers_done ⟨?_, ?_, fun i c hne => ?_, fun _ => ?_, fun h1 h2 => absurd ⟨h1, h2⟩ hk⟩
    · rw [settle_reg_of_ne _ _ hrp, hc]
    · rw [settle_dir, hdir, LinkDir.replayed]
    · rw [settle_dir, ho i c hne]
    · rw [settle_links]
      exact frame_done_links s hf hb

end Sys2Proof.Machine
end

section
/-! The pair link, and what a closed link holds (R202, R218, R220, R466, R476). -/

namespace Sys2Proof.Machine

variable (s : State)

/-! ### A closed route holds what would pass it (R202, R218) -/

/-- An add whose route is closed waits. -/
theorem counterAdd_closed_answers (a src : BitVec 16) (x : BitVec 32) (h : s.ctrOpen (unitNode src.toNat) a.toNat = false) :
    Answers (exec (.counterAdd a x src) s) fun u => s.Frame u { s with host := u.host } [] := by
  have hx : exec (.counterAdd a x src) s = done s := by
    rw [exec, execCounterAdd, h, Bool.and_false, if_neg (by decide)]
  rw [hx]
  exact answers_done (frame_regsStay s rfl rfl)

/-- A step of an operator whose routes are closed waits. -/
theorem opStep_of_closed (o : Op) (p : OpPart)
    (h : s.reaches (coreNode p.core) (o.blockReads (o.nextRow p) p.block ++
      (s.blockWrites o (o.nextRow p) p.block).map fun w => (w.1, w.2.length)) = false) : s.opStep o p = s := by
  rw [State.opStep, State.opAccess, h, if_neg (by decide)]

/-- The commands of O32 are driven by themselves, not by the units of an engine. -/
theorem exec_ownCommand (k : Fin 256) (c : Instr) (code : Nat)
    (h : (c, code) ∈ [(Instr.copy k, cCOPY), (.add k, cADD), (.softmax k, cSOFTMAX), (.reduce k, cREDUCE),
      (.encodeWeight k, cENCODE_WEIGHT)]) : exec c s = done (s.operator k code) ∧ unitCommands code = false := by
  simp only [List.mem_cons, List.not_mem_nil, or_false, Prod.mk.injEq] at h
  rcases h with ⟨rfl, rfl⟩ | ⟨rfl, rfl⟩ | ⟨rfl, rfl⟩ | ⟨rfl, rfl⟩ | ⟨rfl, rfl⟩ <;> exact ⟨rfl, by decide⟩

/-- The part of O32 for an operator behind a closed link. -/
theorem operator_closed_answers (k : Fin 256) (c : Instr) (code : Nat) (o : Op) (p : OpPart)
    (hc : (c, code) ∈ [(Instr.copy k, cCOPY), (.add k, cADD), (.softmax k, cSOFTMAX), (.reduce k, cREDUCE),
      (.encodeWeight k, cENCODE_WEIGHT)])
    (hi : (s.leadIssuing k && eOp (s.ctx k).entry == code) = false) (hd : s.dueOp? k code = some (o, p))
    (h : s.reaches (coreNode p.core) (o.blockReads (o.nextRow p) p.block ++
      (s.blockWrites o (o.nextRow p) p.block).map fun w => (w.1, w.2.length)) = false) :
    Answers (exec c s) fun u => s.Frame u { s with host := u.host } [] := by
  obtain ⟨hx, hu⟩ := exec_ownCommand s k c code hc
  have ho : s.operator k code = s := by
    rw [State.operator, hi, if_neg Bool.false_ne_true, State.opWork, hu, if_neg Bool.false_ne_true, hd]
    simp only [opStep_of_closed s o p h, ite_self]
  rw [hx, ho]
  exact answers_done (frame_regsStay s rfl rfl)

/-! ### Training of the pair link (R220) -/

/-- The link comes up, its sequence numbers at their start. -/
def State.pairUp (s : State) : State :=
  (((s.setBit (Reg.LNK_STATUS 3) 3 false).setBit (Reg.LNK_STATUS 3) 0 true).setDir 3 false {}).setDir 3 true {}

theorem pairUp_frame : s.pairUp = { s with links := { s.links with dirs := s.pairUp.links.dirs }, regs := s.pairUp.regs } := by
  have hf : (s.setBit (Reg.LNK_STATUS 3) 3 false).setBit (Reg.LNK_STATUS 3) 0 true = { s with
    regs := ((s.setBit (Reg.LNK_STATUS 3) 3 false).setBit (Reg.LNK_STATUS 3) 0 true).regs } := setBit_frame _ _ _ _
  unfold State.pairUp
  generalize (s.setBit (Reg.LNK_STATUS 3) 3 false).setBit (Reg.LNK_STATUS 3) 0 true = t at hf
  rw [hf]
  rfl

theorem pairUp_regsBut : s.RegsBut s.pairUp [Reg.LNK_STATUS 3] := by
  have h := ((State.RegsBut.refl s [Reg.LNK_STATUS 3]).setBit (List.mem_singleton.mpr rfl) 3 false).setBit
    (List.mem_singleton.mpr rfl) 0 true
  unfold State.pairUp
  generalize (s.setBit (Reg.LNK_STATUS 3) 3 false).setBit (Reg.LNK_STATUS 3) 0 true = t at h
  exact h.congr rfl

/-- Training has failed. -/
def State.pairFailed (s : State) : State := (s.setBit (Reg.LNK_STATUS 3) 3 false).setBit (Reg.LNK_STATUS 3) 1 true

theorem pairTrainDone_answers (hup : s.mainUp = true) (ht : s.bit (Reg.LNK_STATUS 3) 3 = true) :
    Answers (exec .pairTrainDone s) fun u =>
      u.bit (Reg.LNK_STATUS 3) 3 = false ∧ u.bit (Reg.LNK_STATUS 3) 0 = true ∧
      u.bit (Reg.LNK_STATUS 3) 1 = s.bit (Reg.LNK_STATUS 3) 1 ∧ (u.dir 3 false = {} ∧ u.dir 3 true = {}) ∧
      s.Frame u { s with links := { s.links with dirs := u.links.dirs }, regs := u.regs, host := u.host } [Reg.LNK_STATUS 3] := by
  have hx : exec .pairTrainDone s = done s.pairUp := by
    rw [exec, execPairTrainDone, hup, ht, if_pos (Bool.and_self true), State.pairUp]
  have hb : ∀ n, s.pairUp.settle.bit (Reg.LNK_STATUS 3) n =
      ((s.setBit (Reg.LNK_STATUS 3) 3 false).setBit (Reg.LNK_STATUS 3) 0 true).bit (Reg.LNK_STATUS 3) n := fun n =>
    (settle_bit _ (by decide) n).trans (bit_congr _ (by rw [State.pairUp, setDir_reg, setDir_reg]) n)
  rw [hx]
  refine answers_done ⟨?_, ?_, ?_, ⟨?_, ?_⟩, ?_⟩
  · rw [hb, bit_setBit_ne _ _ (by omega) (by omega), bit_setBit_same _ _ (by omega)]
  · rw [hb, bit_setBit_same _ _ (by omega)]
  · rw [hb, bit_setBit_ne _ _ (by omega) (by omega), bit_setBit_ne _ _ (by omega) (by omega)]
  · rw [settle_dir, State.pairUp, dir_setDir_other _ _ (by decide), dir_setDir_same]
  · rw [settle_dir, State.pairUp, dir_setDir_same]
  · rw [settle_links]
    exact frame_done_links s (pairUp_frame s) (pairUp_regsBut s)

theorem pairTrainTimeout_answers (hup : s.mainUp = true) (ht : s.bit (Reg.LNK_STATUS 3) 3 = true) :
    Answers (exec .pairTrainTimeout s) fun u =>
      u.bit (Reg.LNK_STATUS 3) 3 = false ∧ u.bit (Reg.LNK_STATUS 3) 0 = s.bit (Reg.LNK_STATUS 3) 0 ∧
      u.bit (Reg.LNK_STATUS 3) 1 = true ∧
      s.Frame u { s with links := { s.links with dirs := u.links.dirs }, regs := u.regs, host := u.host } [Reg.LNK_STATUS 3] := by
  have hx : exec .pairTrainTimeout s = done s.pairFailed := by
    rw [exec, execPairTrainTimeout, hup, ht, if_pos (Bool.and_self true), State.pairFailed]
  rw [hx]
  refine answers_done ⟨?_, ?_, ?_, ?_⟩
  · rw [settle_bit _ (by decide), State.pairFailed, bit_setBit_ne _ _ (by omega) (by omega), bit_setBit_same _ _ (by omega)]
  · rw [settle_bit _ (by decide), State.pairFailed, bit_setBit_ne _ _ (by omega) (by omega),
      bit_setBit_ne _ _ (by omega) (by omega)]
  · rw [settle_bit _ (by decide), State.pairFailed, bit_setBit_same _ _ (by omega)]
  · rw [settle_links]
    exact frame_done_links s (setBit_frame _ _ _ _) (((State.RegsBut.refl s _).setBit (List.mem_singleton.mpr rfl) 3 false).setBit
      (List.mem_singleton.mpr rfl) 1 true)

/-- The part of O32 for the end of the training. -/
theorem pairTrainEnd_answers (c : Instr) (up : Bool) (hup : s.mainUp = true) (ht : s.bit (Reg.LNK_STATUS 3) 3 = true)
    (hc : (c, up) ∈ [(Instr.pairTrainDone, true), (.pairTrainTimeout, false)]) : Answers (exec c s) fun u =>
      u.bit (Reg.LNK_STATUS 3) 3 = false ∧ u.bit (Reg.LNK_STATUS 3) 0 = (up || s.bit (Reg.LNK_STATUS 3) 0) ∧
      u.bit (Reg.LNK_STATUS 3) 1 = (!up || s.bit (Reg.LNK_STATUS 3) 1) ∧
      (up = true → u.dir 3 false = {} ∧ u.dir 3 true = {}) ∧
      s.Frame u { s with links := { s.links with dirs := u.links.dirs }, regs := u.regs, host := u.host } [Reg.LNK_STATUS 3] := by
  simp only [List.mem_cons, List.not_mem_nil, or_false, Prod.mk.injEq] at hc
  rcases hc with ⟨rfl, rfl⟩ | ⟨rfl, rfl⟩
  · obtain ⟨u, hx, h3, h0, h1, hd, hf⟩ := pairTrainDone_answers s hup ht
    exact ⟨u, hx, h3, h0, h1, fun _ => hd, hf⟩
  · obtain ⟨u, hx, h3, h0, h1, hf⟩ := pairTrainTimeout_answers s hup ht
    exact ⟨u, hx, h3, h0, h1, nofun, hf⟩

/-! ### PAIR_LINK_DOWN (R466, R476) -/

/-- The part of O32 for the loss of the pair link. -/
theorem pairLinkDown_answers (hup : s.mainUp = true) (h : s.bit (Reg.LNK_STATUS 3) 0 = true) :
    Answers (exec .pairLinkDown s) fun u =>
      u.bit (Reg.LNK_STATUS 3) 0 = false ∧
      (s.doubles = true → u.safety.inbox = s.safety.inbox ++ [{ src := 0x0A, link := some 3 }] ∧
        u.bit Reg.SAF_STATUS 4 = (s.safety.dblCfg.getLsbD 9 || s.bit Reg.SAF_STATUS 4)) ∧
      (s.doubles = false → u.safety = s.safety ∧ u.reg Reg.SAF_STATUS = s.reg Reg.SAF_STATUS) ∧
      s.Frame u { s with safety := u.safety, regs := u.regs, host := u.host } [Reg.LNK_STATUS 3, Reg.SAF_STATUS] := by
  have hx : exec .pairLinkDown s = done (s.pairLost.setBit (Reg.LNK_STATUS 3) 0 false) := by
    rw [exec, execPairLinkDown, hup, h, if_pos (Bool.and_self true)]
  have hs : (s.pairLost.setBit (Reg.LNK_STATUS 3) 0 false).settle.reg Reg.SAF_STATUS = s.pairLost.reg Reg.SAF_STATUS := by
    rw [settle_reg_of_ne _ _ (by decide), reg_setBit_other _ _ _ _ _ (by decide)]
  rw [hx]
  refine answers_done ⟨?_, fun hd => ⟨?_, ?_⟩, fun hd => ⟨?_, ?_⟩, ?_⟩
  · rw [settle_bit _ (by decide), bit_setBit_same _ _ (by omega)]
  · rw [settle_safety, setBit_safety, pairLost_inbox s hd]
  · rw [bit_congr _ hs, pairLost_fallback s hd]
  · rw [settle_safety, setBit_safety, pairLost_of_single s hd]
  · rw [hs, pairLost_of_single s hd]
  · rw [settle_safety]
    refine frame_done_links s (x := s.links) ?_ ((pairLost_regsBut s (by simp)).setBit (by simp) _ _)
    rw [setBit_frame, pairLost_frame]

/-- Settles O32: a part for each command, for a credit error, and for what waits behind a closed link. -/
theorem linksCarryFlitsInOrder : Obligations.LinksCarryFlitsInOrder := by
  unfold Obligations.LinksCarryFlitsInOrder
  exact ⟨flitReceive_answers, flitReceive_credit_answers, replayRequest_answers, replayRequest_unasked_answers,
    counterAdd_closed_answers, operator_closed_answers, pairTrainEnd_answers, pairLinkDown_answers⟩

end Sys2Proof.Machine
end
